-- ==== Sys2Proof/Word.lean ====
section
/-! DEFINITION. The words the part handles: bytes on a link, 32-bit data and image words, 40-bit SRAM cells. -/

namespace Sys2Proof

/-- One byte of a link frame (R87), or a check code, or a syndrome (R17, R18). -/
abbrev Byte := BitVec 8

/-- A 32-bit word: the data of a memory word, an image word, a record word, a cycle counter. -/
abbrev Word := BitVec 32

/-- One SRAM cell: data in bits 31..0 and check bits 7..0 in bits 39..32 (R171). -/
abbrev SramCell := BitVec 40

end Sys2Proof
end

