-- ==== Sys2Proof/Names.lean ====
section
/-! DEFINITION. The names that the operands of the commands use: lanes, link ports, background clients. -/

namespace Sys2Proof

/-- The three lanes of an interlocking computer (R84). -/
inductive Lane where
  | zero
  | one
  | two
  deriving DecidableEq, Repr

/-- The two link ports of a part (R84). -/
inductive PortId where
  | link1
  | link2
  deriving DecidableEq, Repr

/-- The five background clients of the store port, in background order (R42, R46). -/
inductive Background where
  | log
  | recv
  | fill
  | copy
  | patrol
  deriving DecidableEq, Repr

end Sys2Proof
end

