-- ==== Sys2Proof/Syntax.lean ====
section
/-! DEFINITION. The commands of the part: one constructor for each row of spec/opcode_table.json. -/

namespace Sys2Proof

/-- A command is one event of the table: something the outside does to the part at a line or a port, the end of
something the part was doing, or the expiry of one of its timers. The operands are what the event brings with it. -/
inductive Instr where
  /-- POWER_RESET (R153), with the LANE-ID levels sampled as the reset is taken. -/
  | powerReset (straps : BitVec 2)
  /-- PIN_RESET (R153), with the LANE-ID levels sampled and the number of SRAM cells that the burst it cuts had
  already written (R53); the number has no effect when no burst holds the port. -/
  | pinReset (straps : BitVec 2) (written : Nat)
  /-- IMAGE_READ_COMPLETE (R155), with the words the configuration memory delivered, first word first. -/
  | imageReadComplete (words : List Word)
  /-- ACCESS_TAKEN (R21): the byte address, the direction, the byte enables and the data of a processor access. -/
  | accessTaken (address : Word) (isWrite : Bool) (enables : BitVec 4) (data : Word)
  /-- BURST_END (R46). -/
  | burstEnd
  /-- REQUEST_OVERDUE (R45): a waiting background request reaches the background wait limit. -/
  | requestOverdue (client : Background)
  /-- PACE_TIMER_EXPIRY (R73). -/
  | paceTimerExpiry
  /-- COPY_REQUEST (R142). -/
  | copyRequest
  /-- ALERT_PULSE_END (R166): the end of the low tick. -/
  | alertPulseEnd
  /-- OWN_MARK (R100): a rising edge on CYCLE. -/
  | ownMark
  /-- VOTE_WINDOW_EXPIRY (R105). -/
  | voteWindowExpiry
  /-- CYCLE_SUPERVISION_EXPIRY (R110). -/
  | cycleSupervisionExpiry
  /-- PERMIT_TIMER_EXPIRY (R119). -/
  | permitTimerExpiry
  /-- FORMATION_WINDOW_EXPIRY (R161). -/
  | formationWindowExpiry
  /-- RETRY_TIMER_EXPIRY (R124). -/
  | retryTimerExpiry
  /-- RESTORE_EDGE (R125): a rising edge on RESTORE. -/
  | restoreEdge
  /-- SUPPLY_LOW_ACTIVE (R126). -/
  | supplyLowActive
  /-- SUPPLY_LOW_INACTIVE (R126). -/
  | supplyLowInactive
  /-- PROGRESS_TIMER_EXPIRY (R132, R136, R147). -/
  | progressTimerExpiry
  /-- HOLD_TIMER_EXPIRY (R146, R147). -/
  | holdTimerExpiry
  /-- REPAIR_TIMER_EXPIRY (R151). -/
  | repairTimerExpiry
  /-- ADMIT_OFFER (R146). -/
  | admitOffer
  /-- ADMIT_VERIFY (R137). -/
  | admitVerify
  /-- REPAIR_START (R151). -/
  | repairStart
  /-- FRAME_RECEIVED (R90): the bytes of the frame gathered whole, delimiter first. -/
  | frameReceived (port : PortId) (bytes : List Byte)
  /-- FRAME_ENVELOPE_ERROR (R89): the bytes gathered up to the one that fails its check. -/
  | frameEnvelopeError (port : PortId) (bytes : List Byte)
  /-- TRANSMIT_FRAME_END (R94). -/
  | transmitFrameEnd (port : PortId)
  /-- GAP_END (R94). -/
  | gapEnd (port : PortId)
  /-- SIGNATURE_DELIVERY (R102): the head of the port's receive queue, as in the thirteen rows that follow. -/
  | signatureDelivery (port : PortId)
  /-- STATE_DELIVERY (R112). -/
  | stateDelivery (port : PortId)
  /-- NOTICE_DELIVERY (R112). -/
  | noticeDelivery (port : PortId)
  /-- JOIN_DELIVERY (R140). -/
  | joinDelivery (port : PortId)
  /-- ACCEPT_DELIVERY (R132). -/
  | acceptDelivery (port : PortId)
  /-- REFUSE_DELIVERY (R132, R151). -/
  | refuseDelivery (port : PortId)
  /-- BLOCK_DELIVERY (R133). -/
  | blockDelivery (port : PortId)
  /-- NAK_DELIVERY (R144). -/
  | nakDelivery (port : PortId)
  /-- ADMIT_DELIVERY (R137). -/
  | admitDelivery (port : PortId)
  /-- ADMITTED_DELIVERY (R147). -/
  | admittedDelivery (port : PortId)
  /-- MISMATCH_DELIVERY (R147). -/
  | mismatchDelivery (port : PortId)
  /-- ABANDON_DELIVERY (R138, R139, R148). -/
  | abandonDelivery (port : PortId)
  /-- FETCH_DELIVERY (R149). -/
  | fetchDelivery (port : PortId)
  /-- FETCHED_DELIVERY (R152). -/
  | fetchedDelivery (port : PortId)
  /-- FRAME_START (R89). -/
  | frameStart (port : PortId)
  /-- ALERT_HIGH_TICK_END (R166): the end of the high tick. -/
  | alertHighTickEnd
  deriving DecidableEq, Repr

end Sys2Proof
end

