-- ==== Sys2Proof/Machine/Types.lean ====
section
/-! DEFINITION. The names and records the twelve blocks of the part hold. No rule of behaviour stands here. -/

namespace Sys2Proof.Machine

/-- One value for each of lanes 0, 1 and 2. -/
structure PerLane (α : Type) where
  l0 : α
  l1 : α
  l2 : α
  deriving DecidableEq, Repr

/-- The value of a lane. -/
def PerLane.get {α : Type} (v : PerLane α) : Lane → α
  | .zero => v.l0
  | .one => v.l1
  | .two => v.l2

/-- The same values with one lane's replaced. -/
def PerLane.set {α : Type} (v : PerLane α) (l : Lane) (x : α) : PerLane α :=
  match l with
  | .zero => { v with l0 := x }
  | .one => { v with l1 := x }
  | .two => { v with l2 := x }

/-- The same value for every lane. -/
def PerLane.all {α : Type} (x : α) : PerLane α := ⟨x, x, x⟩

/-- The six lane states (R116). -/
inductive LaneState where
  | starting
  | forming
  | member
  | isolated
  | joining
  | failed
  deriving DecidableEq, Repr

/-- The standing of a lane in a lane view (R111). -/
inductive Standing where
  | member
  | excluded
  | joining
  | absent
  deriving DecidableEq, Repr

/-- A lane view: the standing of every lane (R111). -/
abbrev View := PerLane Standing

/-- The causes and outcomes of R169, code 1 upwards; code 0, none, is the absence of a cause. -/
inductive Cause where
  | minority
  | noMajority
  | notSeen
  | stall
  | memory
  | signature
  | signatureBroken
  | repairDisagree
  | noAdmit
  | supply
  | noSource
  | silent
  | mismatch
  | abandoned
  | catchUp
  | damaged
  | isolated
  | admitted
  | replaced
  | late
  | state
  deriving DecidableEq, Repr

/-- A signature pair (A, B) (R54). Values carried by frames may be any 40-bit number (R169). -/
structure Pair where
  a : Nat
  b : Nat
  deriving DecidableEq, Repr

/-- The protection class of a policy (R5). -/
inductive RegionClass where
  | constant
  | voted
  | plain
  | log
  deriving DecidableEq, Repr

/-- The correction-reporting field of a policy (R7). -/
inductive Reporting where
  | every
  | firstPerPass
  | none
  deriving DecidableEq, Repr

/-- One entry of the policy table, as effective (R5). `isolates` is the uncorrectable action ISOLATE. -/
structure Policy where
  cls : RegionClass
  copy : Bool
  isolates : Bool
  reporting : Reporting
  deriving DecidableEq, Repr

/-- One entry of the region table (R2). -/
structure Region where
  first : Nat
  count : Nat
  policy : Nat
  deriving DecidableEq, Repr

/-- The thirteen settings of R156, clamped. -/
structure Settings where
  waitLimit : Nat
  patrolInterval : Nat
  linkDivisor : Nat
  voteWindow : Nat
  cycleLimit : Nat
  lateThreshold : Nat
  attemptLimit : Nat
  retryDelay : Nat
  formationWindow : Nat
  progressLimit : Nat
  catchUpThreshold : Nat
  holdLimit : Nat
  tryLimit : Nat
  deriving DecidableEq, Repr

/-- The configuration image as loaded and clamped, with its digest and the settings that were clamped (R8, R156, R69).
`lines` is the number of word-address lines in use, 18 to 21 (R17). -/
structure Image where
  lines : Nat
  laneCount : Nat
  fill : Word
  settings : Settings
  policies : List Policy
  regions : List Region
  digest : Pair
  clamped : List Bool
  deriving DecidableEq, Repr

/-- What the region map answers for a block (R9): the region's number and entry, its policy, its signature slot and
whether it is copyable. Position and block number follow from the address. -/
structure Located where
  index : Nat
  region : Region
  policy : Policy
  slot : Option Nat
  copyable : Bool
  deriving DecidableEq, Repr

/-- The counts and flags of a region that change while the lane runs (R7, R15, R16). -/
structure RegionStatus where
  corrected : Nat
  uncorrectable : Nat
  reported : Bool
  broken : Bool
  deriving DecidableEq, Repr

/-- An entry of the repeat table (R34). -/
structure RepeatEntry where
  address : Nat
  count : Nat
  noSpare : Bool
  deriving DecidableEq, Repr

/-- The origin of a substitution entry (R38). -/
inductive Origin where
  | correction
  | repair
  deriving DecidableEq, Repr

/-- An entry of the substitution table with its spare-store value (R38). -/
structure SubstEntry where
  address : Nat
  value : Word
  origin : Origin
  deriving DecidableEq, Repr

/-- What an update of the repeat table comes to (R35-R37): nothing to report, a promotion to the substitution table, or
an entry saturated for want of a spare for the first time. -/
inductive RepeatNews where
  | nothing
  | substituted
  | noSpare
  deriving DecidableEq, Repr

/-- The outcome of reading a word, with what R19 yields and R40 reports. `bit` is 0..31 for a data bit and 32..39 for a
check bit (R170). -/
inductive ReadOutcome where
  | clean (value : Word)
  | corrected (value : Word) (syndrome : Byte) (bit : Nat)
  | uncorrectable (raw : Word) (syndrome : Byte)
  | address (raw : Word) (syndrome : Byte) (line : Nat)
  deriving DecidableEq, Repr

/-- The owner of the store port (R41, R42). -/
inductive Client where
  | proc
  | background (b : Background)
  deriving DecidableEq, Repr

/-- A processor access as the through path holds it (R21); `word` is the word address. -/
structure Access where
  word : Nat
  isWrite : Bool
  enables : BitVec 4
  data : Word
  deriving DecidableEq, Repr

/-- The answer to an access: READY, with data for a read and with ERROR or without (R21). -/
structure Answer where
  data : Option Word
  error : Bool
  deriving DecidableEq, Repr

/-- The reasons of an ACCESS-REFUSED report (R12, R22). -/
inductive RefusalReason where
  | unmapped
  | logWrite
  | locked
  | byteEnables
  deriving DecidableEq, Repr

/-- The reasons of a REFUSE frame (R96). -/
inductive RefuseReason where
  | busy
  | notMember
  | image
  | damaged
  deriving DecidableEq, Repr

/-- The subject of a REFUSE frame, with the number it names (R96). -/
inductive RefuseSubject where
  | join (attempt : Nat)
  | fetch (block : Nat)
  deriving DecidableEq, Repr

/-- The fourteen kinds of frame (R96, R97). -/
inductive FrameKind where
  | signature
  | state
  | join
  | accept
  | refuse
  | nak
  | admitted
  | mismatch
  | abandon
  | notice
  | fetch
  | block
  | fetched
  | admitSnapshot
  deriving DecidableEq, Repr

/-- The content of a frame, kind and fields (R96, R97). The sender lane is added by the port (R87). `admitSnapshot` is
the kind ADMIT. -/
inductive Frame where
  | signature (cycle : Word) (state : LaneState) (view : View) (pairs : List Pair)
  | state (state : LaneState) (counter : Word)
  | join (attempt : Nat) (digest : Pair)
  | accept (attempt : Nat)
  | refuse (subject : RefuseSubject) (reason : RefuseReason)
  | nak (attempt : Nat) (block : Nat)
  | admitted (attempt : Nat) (cycle : Word)
  | mismatch (attempt : Nat) (slot : Nat)
  | abandon (attempt : Nat) (cause : Cause)
  | notice (lane : Lane) (cycle : Word)
  | fetch (block : Nat)
  | block (attempt : Nat) (block : Nat) (words : List Word)
  | fetched (block : Nat) (words : List Word)
  | admitSnapshot (attempt : Nat) (cycle : Word) (view : View) (pairs : List Pair)
  deriving DecidableEq, Repr

/-- The error kinds of a link port (R91, R93). -/
inductive LinkErrorKind where
  | check
  | form
  | overrun
  | txFull
  deriving DecidableEq, Repr

/-- The reasons of a FORM error (R89, R90). -/
inductive FormReason where
  | delimiter
  | kind
  | sender
  | length
  | body
  deriving DecidableEq, Repr

/-- What gathering a run of bytes comes to (R89): a failed envelope check with the kind and sender bytes it reached, a
frame gathered whole, or neither yet. -/
inductive Gather where
  | formError (reason : FormReason) (kind : Option Byte) (sender : Option Byte)
  | whole (kind : FrameKind) (sender : Byte) (covered : List Byte) (body : List Byte) (check : Nat)
  | incomplete
  deriving DecidableEq, Repr

/-- The error counts of a port, 0..255 each (R85). -/
structure ErrorCounts where
  check : Nat
  form : Nat
  overrun : Nat
  txFull : Nat
  deriving DecidableEq, Repr

/-- The transmitter of a port (R94): resting, sending the bytes of a frame, or in the gap after one. `clocks` is the
time left in clock periods (R86). -/
inductive Transmitter where
  | resting
  | sending (bytes : List Byte) (clocks : Nat)
  | gap (clocks : Nat)
  deriving DecidableEq, Repr

/-- A link port (R85). An idle port runs and has no peer. `gathering` is the receiver condition. -/
structure LinkPort where
  running : Bool
  peer : Option Lane
  control : List Frame
  bulk : List Frame
  reserved : Nat
  transmitter : Transmitter
  gathering : Bool
  received : List Frame
  errors : ErrorCounts
  deriving DecidableEq, Repr

/-- What a vote-table entry keeps of a peer's SIGNATURE (R101); the slot count is the length of `pairs`. -/
structure PeerFrame where
  pairs : List Pair
  state : LaneState
  view : View
  deriving DecidableEq, Repr

/-- An entry of the vote table (R101). `forming` says that its own mark was taken in FORMING (R109, R114). -/
structure VoteEntry where
  cycle : Word
  own : Option (List Pair)
  voters : Option (PerLane Bool)
  peers : PerLane (Option PeerFrame)
  window : Bool
  forming : Bool
  deriving DecidableEq, Repr

/-- The result of a slot (R106). -/
inductive SlotResult where
  | agree
  | minority (lane : Lane)
  | noMajority
  | unchecked
  deriving DecidableEq, Repr

/-- A snapshot as ADMIT carries it: cycle, view and pairs (R97, R145). -/
structure Snapshot where
  cycle : Word
  view : View
  pairs : List Pair
  deriving DecidableEq, Repr

/-- The joiner phase (R130). -/
inductive JoinPhase where
  | none
  | clear
  | request
  | copy
  | verify
  deriving DecidableEq, Repr

/-- The next expected block of a joiner (R130, R135). -/
inductive Expected where
  | at (block : Nat)
  | pastEnd
  deriving DecidableEq, Repr

/-- The copy cursor of a source (R130, R142). -/
inductive Cursor where
  | at (block : Nat)
  | complete
  deriving DecidableEq, Repr

/-- The catch-up phase (R130, R145, R146). -/
inductive CatchUp where
  | none
  | hold
  | answer
  deriving DecidableEq, Repr

/-- The received block awaiting its RECV burst (R130, R133, R152). -/
inductive Received where
  | block (block : Nat) (words : List Word)
  | fetched (block : Nat) (words : List Word)
  deriving DecidableEq, Repr

/-- What a COPY request is for: a kept FETCH answer of a port, or the restoration served on a port. A slot of that
port's bulk queue is reserved for it (R93, R142, R149). -/
inductive CopyJob where
  | answer (port : PortId)
  | restore (port : PortId)
  deriving DecidableEq, Repr

/-- The repair in progress (R130, R151); `taken` is set once its FETCHED frame has become the received block. -/
structure Repair where
  block : Nat
  asked : Lane
  otherAsked : Bool
  taken : Bool
  deriving DecidableEq, Repr

/-- Why a repair failed (R151, R170). -/
inductive RepairReason where
  | refused (reason : RefuseReason)
  | silent
  | noPeer
  deriving DecidableEq, Repr

/-- A clear pass in progress (R131, R158): the next block to treat, if one is left, and whether it is a joiner's. -/
structure ClearPass where
  next : Option Nat
  joiner : Bool
  deriving DecidableEq, Repr

/-- What is done when a burst ends (R21, R78, R134, R142, R149, R152). `region` is the region number. -/
inductive AtEnd where
  | nothing
  /-- hand lane control a cause found in FORMING or MEMBER, with what word 1 of ISOLATED names -/
  | leave (cause : Cause) (names : Option Nat)
  /-- fail the restoration attempt, found in JOINING -/
  | failAttempt (cause : Cause)
  /-- fill the reserved slot with BLOCK -/
  | sendBlock (port : PortId) (attempt : Nat) (block : Nat) (words : List Word)
  /-- a restoration block had a bad word; `live` until the serving it was read for has ended otherwise -/
  | damaged (port : PortId) (block : Nat) (live : Bool)
  /-- fill the reserved slot with FETCHED -/
  | sendFetched (port : PortId) (block : Nat) (words : List Word)
  /-- a block read for a FETCH had a bad word -/
  | refuseFetched (port : PortId) (block : Nat)
  deriving DecidableEq, Repr

/-- The burst that holds the store port (R41): its owner, the answer due to the processor at its end, the work due at
its end, and every SRAM cell it has overwritten with its earlier content, in order, for a reset that cuts it (R53). -/
structure Burst where
  owner : Client
  answer : Option Answer
  atEnd : AtEnd
  overwritten : List (Nat × SramCell)
  deriving DecidableEq, Repr

/-- The kinds of fault log record, in the order of Section 11.2 (R164, R170). -/
inductive RecordKind where
  | started
  | imageClamped
  | corrected
  | uncorrectable
  | addressFault
  | partialRefused
  | accessRefused
  | substituted
  | noSpare
  | signatureFault
  | vote
  | peerLate
  | peerExcluded
  | skew
  | isolated
  | restoreBegin
  | restoreEnd
  | serveBegin
  | serveEnd
  | repaired
  | repairFailed
  | repairDeferred
  | repairDisagree
  | linkError
  deriving DecidableEq, Repr

/-- The fields of a report as R163 fixes them; `names` is the region or slot number of word 1. A report that a processor read
makes carries the read's byte enables in `enables` (R22); of its record, ACCESS-REFUSED alone has bits for them
(R40, R170; notes/assumptions/34). -/
structure Report where
  kind : RecordKind
  state : LaneState
  names : Option Nat
  cycle : Word
  place : Word
  detail1 : Word
  detail2 : Word
  pass : Word
  enables : Option (BitVec 4)
  deriving DecidableEq, Repr

/-- The two resets (R153). -/
inductive ResetKind where
  | power
  | pin
  deriving DecidableEq, Repr

/-- What starts a restoration (R127). -/
inductive Trigger where
  | restore
  | retry
  | discovery
  deriving DecidableEq, Repr

/-- The phase of an ALERT pulse (R166). -/
inductive AlertPhase where
  | idle
  | high
  | low
  deriving DecidableEq, Repr

end Sys2Proof.Machine
end

