-- ==== Sys2Proof/Machine/CheckCode.lean ====
section
/-! DEFINITION. The check code of a stored word and the outcome of reading one (R17, R18, R19, R171). -/

namespace Sys2Proof.Machine

/-- The columns of data bits 0 to 31 (R171). -/
def dataColumns : List Byte :=
  [0x07, 0x0B, 0x13, 0x23, 0x43, 0x83, 0x0D, 0x15] ++ [0x25, 0x45, 0x85, 0x19, 0x29, 0x49, 0x89, 0x31] ++
  [0x51, 0x91, 0x61, 0xA1, 0xC1, 0x0E, 0x16, 0x26] ++ [0x46, 0x86, 0x1A, 0x2A, 0x4A, 0x8A, 0x32, 0x52]

/-- The address values of word-address lines 0 to 20 (R171). -/
def addressValues : List Byte :=
  [0x03, 0x05, 0x09, 0x11, 0x21, 0x41, 0x81, 0x06, 0x0A, 0x12, 0x22] ++
  [0x42, 0x82, 0x0C, 0x14, 0x24, 0x44, 0x84, 0x18, 0x28, 0x48]

/-- The columns of check bits 0 to 7 (R171). -/
def checkColumns : List Byte := [0x01, 0x02, 0x04, 0x08, 0x10, 0x20, 0x40, 0x80]

/-- The exclusive-or of the columns whose bit of `n` is 1, column 0 belonging to bit 0. -/
def columnSum : List Byte → Nat → Byte
  | [], _ => 0
  | c :: cs, n => (if n % 2 = 1 then c else 0) ^^^ columnSum cs (n / 2)

/-- The check code of a data word at a word address, with `lines` address lines in use (R17). -/
def checkCode (lines : Nat) (address : Nat) (data : Word) : Byte :=
  columnSum dataColumns data.toNat ^^^ columnSum (addressValues.take lines) address

/-- The 40-bit cell that stores a word: the data below, its check code above (R17, R171). -/
def encodeCell (lines : Nat) (address : Nat) (data : Word) : SramCell := checkCode lines address data ++ data

/-- The data bits of a cell (R171). -/
def cellData (cell : SramCell) : Word := cell.setWidth 32

/-- The check bits of a cell (R171). -/
def cellCheck (cell : SramCell) : Byte := (cell >>> 32).setWidth 8

/-- The syndrome of a cell read at a word address (R18). -/
def syndrome (lines : Nat) (address : Nat) (cell : SramCell) : Byte :=
  checkCode lines address (cellData cell) ^^^ cellCheck cell

/-- The place of a value in a list of columns. -/
def columnIndex (cs : List Byte) (v : Byte) : Option Nat := cs.findIdx? (fun c => c == v)

/-- The outcome of reading a cell: the syndrome alone decides it (R18), and R19 gives the value. -/
def classifyCell (lines : Nat) (address : Nat) (cell : SramCell) : ReadOutcome :=
  let d := cellData cell
  let syn := syndrome lines address cell
  if syn = 0 then .clean d
  else
    match columnIndex dataColumns syn with
    | some i => .corrected (d ^^^ (1#32 <<< i)) syn i
    | none =>
      match columnIndex checkColumns syn with
      | some i => .corrected d syn (32 + i)
      | none =>
        match columnIndex (addressValues.take lines) syn with
        | some l => .address d syn l
        | none => .uncorrectable d syn

end Sys2Proof.Machine
end

