-- ==== Sys2Proof/Config.lean ====
section
/-! DEFINITION. What is fixed for every part, and the values the manual leaves open.

A constant without a body is a FREE VALUE: nothing proved of the model can depend on what it is. -/

namespace Sys2Proof.Config

/-- The prime of the signature arithmetic, 2^32 + 15 (R54). -/
def M : Nat := 4294967311

/-- The largest saturating count of a region (R15). -/
def countMax : Nat := 65535

/-- Depth of the repeat table (R34). -/
def repeatDepth : Nat := 8

/-- Depth of the substitution table (R38). -/
def substDepth : Nat := 16

/-- Depth of a port's control transmit queue (R93). -/
def controlDepth : Nat := 8

/-- Depth of a port's bulk transmit queue (R93). -/
def bulkDepth : Nat := 4

/-- Depth of a port's receive queue (R90). -/
def receiveDepth : Nat := 4

/-- Depth of the report queue (R163). -/
def reportDepth : Nat := 8

/-- Depth of the repair list (R150). -/
def repairDepth : Nat := 4

/-- The last sequence number before the writer is exhausted (R163). -/
def lastSequence : Nat := 4294967295

/-- The permit half-period in ticks (R119). -/
def permitHalfPeriod : Nat := 500

/-- Clock periods in a tick (R172). -/
def clocksPerTick : Nat := 40

/-- Ticks in a millisecond, at the nominal tick of 1 us (00_scope.md "Time", R172). -/
def ticksPerMs : Nat := 1000

/-- Words in the configuration image (R168). -/
def imageWords : Nat := 93

/-- The format mark of the configuration image (R168). -/
def formatMark : Word := 0xC05A0430#32

/-- The delimiter byte that opens a frame (R169). -/
def delimiter : Byte := 0x5A#8

/-- The limits of the thirteen settings, in the order of R156. -/
def settingRanges : List (Nat × Nat) :=
  [(1, 255), (10, 65535), (4, 255), (1, 255), (10, 2550), (1, 7), (0, 15), (1, 255), (10, 2550),
   (1, 255), (0, 64), (1, 255), (1, 15)]

/-- FREE VALUE (notes/assumptions/20): whether word 1 of an ISOLATED record with cause SIGNATURE-BROKEN names the
slot (true) or the region (false). R123 says "the region or slot concerned". -/
opaque brokenNamesSlot : Bool

/-- FREE VALUE (notes/assumptions/21): bit 24 of the second detail of a LINK-ERROR record of kind TX-FULL. R170 sets
it "if the kind byte was reached", and R93 puts the dropped frame's kind in place of a received kind byte. -/
opaque txFullKindReached : Bool

/-- FREE VALUE (notes/assumptions/22): what a LINK-ERROR record holds in the place of a kind or sender byte that the
gather did not reach (R91 carries them "where the gather reached them"). -/
opaque unreachedByte : Byte

/-- FREE VALUE (notes/assumptions/33): whether a NOTICE delivered in STARTING is taken (true) or discarded (false). R112 has
a NOTICE taken in any lane state, and R157 has every frame but STATE, SIGNATURE, JOIN and FETCH discarded in STARTING. -/
opaque noticeTakenInStarting : Bool

end Sys2Proof.Config
end

