-- ==== Sys2Proof/Machine/Bits.lean ====
section
/-! DEFINITION. Bit fields of words, byte order, and the codes that frames, records and the image use. -/

namespace Sys2Proof.Machine

/-- A word with each number placed from the given bit upwards, the other bits 0 (R170). -/
def packFields (l : List (Nat × Nat)) : Word :=
  BitVec.ofNat 32 (l.foldr (fun f acc => f.1 * 2 ^ f.2 + acc) 0)

/-- The number in the `width` bits of a word from bit `low` upwards. -/
def bitField (w : Word) (low width : Nat) : Nat := w.toNat / 2 ^ low % 2 ^ width

/-- `k` bytes of a number, most significant first (R86, Chapter 12). -/
def beBytes : Nat → Nat → List Byte
  | 0, _ => []
  | k + 1, n => BitVec.ofNat 8 (n / 256 ^ k) :: beBytes k n

/-- The number that bytes, most significant first, stand for. -/
def beNat (bytes : List Byte) : Nat := bytes.foldl (fun acc b => acc * 256 + b.toNat) 0

/-- 0 or 1. -/
def bit (b : Bool) : Nat := if b then 1 else 0

/-- The number of a lane. -/
def Lane.number : Lane → Nat
  | .zero => 0
  | .one => 1
  | .two => 2

/-- The lane a number names, 0..2. -/
def Lane.ofNumber? : Nat → Option Lane
  | 0 => some .zero
  | 1 => some .one
  | 2 => some .two
  | _ => none

/-- A lane field of a record: 0..2, or 0xFF for none (R170). -/
def laneField : Option Lane → Nat
  | some l => Lane.number l
  | none => 0xFF

/-- The lane state codes of R169. -/
def LaneState.code : LaneState → Nat
  | .starting => 0
  | .forming => 1
  | .member => 2
  | .isolated => 3
  | .joining => 4
  | .failed => 5

/-- The lane state of a code, if it is one. -/
def LaneState.ofCode? : Nat → Option LaneState
  | 0 => some .starting
  | 1 => some .forming
  | 2 => some .member
  | 3 => some .isolated
  | 4 => some .joining
  | 5 => some .failed
  | _ => none

/-- The standing codes of R169. -/
def Standing.code : Standing → Nat
  | .member => 1
  | .excluded => 2
  | .joining => 3
  | .absent => 4

/-- The standing of a code, if it is one. -/
def Standing.ofCode? : Nat → Option Standing
  | 1 => some .member
  | 2 => some .excluded
  | 3 => some .joining
  | 4 => some .absent
  | _ => none

/-- The cause and outcome codes of R169. -/
def Cause.code : Cause → Nat
  | .minority => 1
  | .noMajority => 2
  | .notSeen => 3
  | .stall => 4
  | .memory => 5
  | .signature => 6
  | .signatureBroken => 7
  | .repairDisagree => 8
  | .noAdmit => 9
  | .supply => 10
  | .noSource => 11
  | .silent => 12
  | .mismatch => 13
  | .abandoned => 14
  | .catchUp => 15
  | .damaged => 16
  | .isolated => 17
  | .admitted => 18
  | .replaced => 19
  | .late => 20
  | .state => 21

/-- The code of a cause, or 0 for none (R169). -/
def causeField : Option Cause → Nat
  | some c => Cause.code c
  | none => 0

/-- The causes an ABANDON frame may carry (R169). -/
def Cause.ofAbandonCode? : Nat → Option Cause
  | 5 => some .memory
  | 6 => some .signature
  | 7 => some .signatureBroken
  | 9 => some .noAdmit
  | 10 => some .supply
  | 11 => some .noSource
  | 12 => some .silent
  | 13 => some .mismatch
  | 15 => some .catchUp
  | 16 => some .damaged
  | 17 => some .isolated
  | _ => none

/-- The refusal reason codes of R169. -/
def RefuseReason.code : RefuseReason → Nat
  | .busy => 1
  | .notMember => 2
  | .image => 3
  | .damaged => 4

/-- The refusal reason of a code, if it is one. -/
def RefuseReason.ofCode? : Nat → Option RefuseReason
  | 1 => some .busy
  | 2 => some .notMember
  | 3 => some .image
  | 4 => some .damaged
  | _ => none

/-- The kind codes of R169. -/
def FrameKind.code : FrameKind → Nat
  | .signature => 0x01
  | .state => 0x02
  | .join => 0x03
  | .accept => 0x04
  | .refuse => 0x05
  | .nak => 0x06
  | .admitted => 0x07
  | .mismatch => 0x08
  | .abandon => 0x09
  | .notice => 0x0A
  | .fetch => 0x0B
  | .block => 0x11
  | .fetched => 0x12
  | .admitSnapshot => 0x13

/-- The kind of a code, if it is one of the fourteen (R89). -/
def FrameKind.ofCode? : Nat → Option FrameKind
  | 0x01 => some .signature
  | 0x02 => some .state
  | 0x03 => some .join
  | 0x04 => some .accept
  | 0x05 => some .refuse
  | 0x06 => some .nak
  | 0x07 => some .admitted
  | 0x08 => some .mismatch
  | 0x09 => some .abandon
  | 0x0A => some .notice
  | 0x0B => some .fetch
  | 0x11 => some .block
  | 0x12 => some .fetched
  | 0x13 => some .admitSnapshot
  | _ => none

/-- The largest body of a kind, in bytes (R89, R96, R97). -/
def FrameKind.largestBody : FrameKind → Nat
  | .signature => 169
  | .state => 5
  | .join => 11
  | .accept => 1
  | .refuse => 4
  | .nak => 3
  | .admitted => 5
  | .mismatch => 2
  | .abandon => 2
  | .notice => 5
  | .fetch => 2
  | .block => 259
  | .fetched => 258
  | .admitSnapshot => 169

/-- The kinds of the bulk queue (R93). -/
def FrameKind.isBulk : FrameKind → Bool
  | .block => true
  | .fetched => true
  | .admitSnapshot => true
  | _ => false

/-- The kind of a frame. -/
def Frame.kind : Frame → FrameKind
  | .signature .. => .signature
  | .state .. => .state
  | .join .. => .join
  | .accept .. => .accept
  | .refuse .. => .refuse
  | .nak .. => .nak
  | .admitted .. => .admitted
  | .mismatch .. => .mismatch
  | .abandon .. => .abandon
  | .notice .. => .notice
  | .fetch .. => .fetch
  | .block .. => .block
  | .fetched .. => .fetched
  | .admitSnapshot .. => .admitSnapshot

/-- The record kinds, numbered 1 to 24 in the order of Section 11.2 (R170). -/
def RecordKind.code : RecordKind → Nat
  | .started => 1
  | .imageClamped => 2
  | .corrected => 3
  | .uncorrectable => 4
  | .addressFault => 5
  | .partialRefused => 6
  | .accessRefused => 7
  | .substituted => 8
  | .noSpare => 9
  | .signatureFault => 10
  | .vote => 11
  | .peerLate => 12
  | .peerExcluded => 13
  | .skew => 14
  | .isolated => 15
  | .restoreBegin => 16
  | .restoreEnd => 17
  | .serveBegin => 18
  | .serveEnd => 19
  | .repaired => 20
  | .repairFailed => 21
  | .repairDeferred => 22
  | .repairDisagree => 23
  | .linkError => 24

/-- The client codes of R170. -/
def Client.code : Client → Nat
  | .proc => 1
  | .background .patrol => 2
  | .background .copy => 3
  | .background .fill => 4
  | .background .recv => 5
  | .background .log => 6

/-- The reason codes of ACCESS-REFUSED (R170). -/
def RefusalReason.code : RefusalReason → Nat
  | .unmapped => 1
  | .logWrite => 2
  | .locked => 3
  | .byteEnables => 4

/-- The origin codes of SUBSTITUTED (R170). -/
def Origin.code : Origin → Nat
  | .correction => 1
  | .repair => 2

/-- The reset codes of STARTED (R170). -/
def ResetKind.code : ResetKind → Nat
  | .power => 1
  | .pin => 2

/-- The trigger codes of RESTORE-BEGIN (R170). -/
def Trigger.code : Trigger → Nat
  | .restore => 1
  | .retry => 2
  | .discovery => 3

/-- The reason codes of REPAIR-FAILED (R170). -/
def RepairReason.code : RepairReason → Nat
  | .refused r => RefuseReason.code r
  | .silent => 5
  | .noPeer => 6

/-- The error kind codes of LINK-ERROR (R170). -/
def LinkErrorKind.code : LinkErrorKind → Nat
  | .check => 1
  | .form => 2
  | .overrun => 3
  | .txFull => 4

/-- The FORM reason codes of LINK-ERROR (R170), 0 where the error is no FORM error. -/
def formReasonField : Option FormReason → Nat
  | some .delimiter => 1
  | some .kind => 2
  | some .sender => 3
  | some .length => 4
  | some .body => 5
  | none => 0

/-- The port numbers of LINK-ERROR (R170). -/
def PortId.code : PortId → Nat
  | .link1 => 1
  | .link2 => 2

end Sys2Proof.Machine
end

