-- ==== Sys2Proof/Machine/Frames.lean ====
section
/-! DEFINITION. Link frames as bytes: the frame check, the fields of every body, sending and gathering
(R87-R90, R96, R97, R169). -/

namespace Sys2Proof.Machine

/-- One bit entering the check register (R88). -/
def crcBit (reg : Nat) (bitIn : Nat) : Nat :=
  let combined := reg / 2 ^ 15 % 2 ^^^ bitIn
  let shifted := reg * 2 % 2 ^ 16
  if combined = 1 then shifted ^^^ 0x1021 else shifted

/-- One byte entering the check register, most significant bit first (R88). -/
def crcByte (reg : Nat) (b : Byte) : Nat :=
  [7, 6, 5, 4, 3, 2, 1, 0].foldl (fun r i => crcBit r (b.toNat / 2 ^ i % 2)) reg

/-- The frame check over bytes in the order they are sent, from a register of all ones (R88). -/
def frameCheck (bytes : List Byte) : Nat := bytes.foldl crcByte 0xFFFF

/-- The bytes of a pair: A then B, five bytes each (R169). -/
def pairBytes (p : Pair) : List Byte := beBytes 5 p.a ++ beBytes 5 p.b

/-- The bytes of a view: the standings of lanes 0, 1 and 2 (R169). -/
def viewBytes (v : View) : List Byte :=
  [BitVec.ofNat 8 (Standing.code v.l0), BitVec.ofNat 8 (Standing.code v.l1), BitVec.ofNat 8 (Standing.code v.l2)]

/-- The body of a frame (R96, R97, R169). -/
def bodyBytes : Frame → List Byte
  | .signature cycle st view pairs =>
    beBytes 4 cycle.toNat ++ beBytes 1 (LaneState.code st) ++ viewBytes view ++ beBytes 1 pairs.length ++
      pairs.flatMap pairBytes
  | .state st counter => beBytes 1 (LaneState.code st) ++ beBytes 4 counter.toNat
  | .join attempt digest => beBytes 1 attempt ++ pairBytes digest
  | .accept attempt => beBytes 1 attempt
  | .refuse (.join attempt) reason => beBytes 1 1 ++ beBytes 2 attempt ++ beBytes 1 (RefuseReason.code reason)
  | .refuse (.fetch block) reason => beBytes 1 2 ++ beBytes 2 block ++ beBytes 1 (RefuseReason.code reason)
  | .nak attempt block => beBytes 1 attempt ++ beBytes 2 block
  | .admitted attempt cycle => beBytes 1 attempt ++ beBytes 4 cycle.toNat
  | .mismatch attempt slot => beBytes 1 attempt ++ beBytes 1 slot
  | .abandon attempt cause => beBytes 1 attempt ++ beBytes 1 (Cause.code cause)
  | .notice lane cycle => beBytes 1 (Lane.number lane) ++ beBytes 4 cycle.toNat
  | .fetch block => beBytes 2 block
  | .block attempt block words =>
    beBytes 1 attempt ++ beBytes 2 block ++ words.flatMap (fun w => beBytes 4 w.toNat)
  | .fetched block words => beBytes 2 block ++ words.flatMap (fun w => beBytes 4 w.toNat)
  | .admitSnapshot attempt cycle view pairs =>
    beBytes 1 attempt ++ beBytes 4 cycle.toNat ++ viewBytes view ++ beBytes 1 pairs.length ++ pairs.flatMap pairBytes

/-- The bytes that the frame check covers: kind, sender lane, body length, body (R88). -/
def coveredBytes (sender : Nat) (f : Frame) : List Byte :=
  [BitVec.ofNat 8 (FrameKind.code (Frame.kind f)), BitVec.ofNat 8 sender] ++ beBytes 2 (bodyBytes f).length ++
    bodyBytes f

/-- A frame as a port sends it: delimiter, covered bytes, check (R87). -/
def frameBytes (sender : Nat) (f : Frame) : List Byte :=
  Config.delimiter :: (coveredBytes sender f ++ beBytes 2 (frameCheck (coveredBytes sender f)))

/-- Pairs read from ten bytes each; none if bytes are left over (R90). -/
def parsePairs : List Byte → Option (List Pair)
  | [] => some []
  | a0 :: a1 :: a2 :: a3 :: a4 :: b0 :: b1 :: b2 :: b3 :: b4 :: rest =>
    (parsePairs rest).map (fun ps => { a := beNat [a0, a1, a2, a3, a4], b := beNat [b0, b1, b2, b3, b4] } :: ps)
  | _ => none

/-- Words read from four bytes each; none if bytes are left over. -/
def parseWords : List Byte → Option (List Word)
  | [] => some []
  | b0 :: b1 :: b2 :: b3 :: rest =>
    (parseWords rest).map (fun ws => BitVec.ofNat 32 (beNat [b0, b1, b2, b3]) :: ws)
  | _ => none

/-- A view read from three standing codes (R90, R169). -/
def parseView? (v0 v1 v2 : Byte) : Option View :=
  match Standing.ofCode? v0.toNat, Standing.ofCode? v1.toNat, Standing.ofCode? v2.toNat with
  | some a, some b, some c => some ⟨a, b, c⟩
  | _, _, _ => none

/-- The pairs of a body that carries `count` of them: a count of 0 to 16 with which the length agrees (R90). -/
def parseCounted (count : Byte) (rest : List Byte) : Option (List Pair) :=
  if count.toNat ≤ 16 ∧ rest.length = 10 * count.toNat then parsePairs rest else none

/-- An attempt number of a body: 1 to 255 (R90). -/
def attempt? (n : Nat) : Option Nat := if 1 ≤ n ∧ n ≤ 255 then some n else none

/-- The body's form (R90): the fields of the kind where the length is one the kind allows and every code, attempt number
and slot count is in its row of R169; none is a FORM error, reason BODY. -/
def parseBody : FrameKind → List Byte → Option Frame
  | .signature, c0 :: c1 :: c2 :: c3 :: st :: v0 :: v1 :: v2 :: n :: rest =>
    match LaneState.ofCode? st.toNat, parseView? v0 v1 v2, parseCounted n rest with
    | some st, some view, some pairs => some (.signature (BitVec.ofNat 32 (beNat [c0, c1, c2, c3])) st view pairs)
    | _, _, _ => none
  | .state, [st, c0, c1, c2, c3] =>
    (LaneState.ofCode? st.toNat).map (fun st => .state st (BitVec.ofNat 32 (beNat [c0, c1, c2, c3])))
  | .join, [att, a0, a1, a2, a3, a4, b0, b1, b2, b3, b4] =>
    (attempt? att.toNat).map
      (fun n => .join n { a := beNat [a0, a1, a2, a3, a4], b := beNat [b0, b1, b2, b3, b4] })
  | .accept, [att] => (attempt? att.toNat).map .accept
  | .refuse, [subject, n0, n1, reason] =>
    match RefuseReason.ofCode? reason.toNat with
    | none => none
    | some reason =>
      if subject.toNat = 1 then (attempt? (beNat [n0, n1])).map (fun n => .refuse (.join n) reason)
      else if subject.toNat = 2 then some (.refuse (.fetch (beNat [n0, n1])) reason)
      else none
  | .nak, [att, b0, b1] => (attempt? att.toNat).map (fun n => .nak n (beNat [b0, b1]))
  | .admitted, [att, c0, c1, c2, c3] =>
    (attempt? att.toNat).map (fun n => .admitted n (BitVec.ofNat 32 (beNat [c0, c1, c2, c3])))
  | .mismatch, [att, slot] => (attempt? att.toNat).map (fun n => .mismatch n slot.toNat)
  | .abandon, [att, cause] =>
    match attempt? att.toNat, Cause.ofAbandonCode? cause.toNat with
    | some n, some c => some (.abandon n c)
    | _, _ => none
  | .notice, [lane, c0, c1, c2, c3] =>
    (Lane.ofNumber? lane.toNat).map (fun l => .notice l (BitVec.ofNat 32 (beNat [c0, c1, c2, c3])))
  | .fetch, [b0, b1] => some (.fetch (beNat [b0, b1]))
  | .block, att :: b0 :: b1 :: rest =>
    if rest.length = 256 then
      match attempt? att.toNat, parseWords rest with
      | some n, some ws => some (.block n (beNat [b0, b1]) ws)
      | _, _ => none
    else none
  | .fetched, b0 :: b1 :: rest =>
    if rest.length = 256 then (parseWords rest).map (fun ws => .fetched (beNat [b0, b1]) ws) else none
  | .admitSnapshot, att :: c0 :: c1 :: c2 :: c3 :: v0 :: v1 :: v2 :: n :: rest =>
    match attempt? att.toNat, parseView? v0 v1 v2, parseCounted n rest with
    | some k, some view, some pairs =>
      some (.admitSnapshot k (BitVec.ofNat 32 (beNat [c0, c1, c2, c3])) view pairs)
    | _, _, _ => none
  | _, _ => none

/-- What a port whose peer lane is `peer` makes of the bytes it has gathered, the envelope checks in the order of R89. -/
def gather (peer : Lane) : List Byte → Gather
  | [] => .incomplete
  | d :: rest =>
    if d ≠ Config.delimiter then .formError .delimiter none none
    else
      match rest with
      | [] => .incomplete
      | k :: rest =>
        match FrameKind.ofCode? k.toNat with
        | none => .formError .kind (some k) none
        | some kind =>
          match rest with
          | [] => .incomplete
          | sender :: rest =>
            if sender.toNat ≠ Lane.number peer then .formError .sender (some k) (some sender)
            else
              match rest with
              | l0 :: l1 :: rest =>
                if FrameKind.largestBody kind < beNat [l0, l1] then .formError .length (some k) (some sender)
                else if rest.length = beNat [l0, l1] + 2 then
                  .whole kind sender (k :: sender :: l0 :: l1 :: rest.take (beNat [l0, l1])) (rest.take (beNat [l0, l1]))
                    (beNat (rest.drop (beNat [l0, l1])))
                else .incomplete
              | _ => .incomplete

/-- The fields of a frame that fit its body: attempt numbers 1..255, 16-bit block numbers, at most 16 pairs of 40-bit
values, 64 words, and the causes an ABANDON may carry (R90, R96, R97, R169). -/
def Frame.wellFormed : Frame → Bool
  | .signature _ _ _ pairs =>
    decide (pairs.length ≤ 16) && pairs.all (fun p => decide (p.a < 2 ^ 40) && decide (p.b < 2 ^ 40))
  | .state _ _ => true
  | .join attempt digest =>
    decide (1 ≤ attempt) && decide (attempt ≤ 255) && decide (digest.a < 2 ^ 40) && decide (digest.b < 2 ^ 40)
  | .accept attempt => decide (1 ≤ attempt) && decide (attempt ≤ 255)
  | .refuse (.join attempt) _ => decide (1 ≤ attempt) && decide (attempt ≤ 255)
  | .refuse (.fetch b) _ => decide (b < 2 ^ 16)
  | .nak attempt b => decide (1 ≤ attempt) && decide (attempt ≤ 255) && decide (b < 2 ^ 16)
  | .admitted attempt _ => decide (1 ≤ attempt) && decide (attempt ≤ 255)
  | .mismatch attempt slot => decide (1 ≤ attempt) && decide (attempt ≤ 255) && decide (slot < 256)
  | .abandon attempt cause =>
    decide (1 ≤ attempt) && decide (attempt ≤ 255) && (Cause.ofAbandonCode? (Cause.code cause) == some cause)
  | .notice _ _ => true
  | .fetch b => decide (b < 2 ^ 16)
  | .block attempt b words =>
    decide (1 ≤ attempt) && decide (attempt ≤ 255) && decide (b < 2 ^ 16) && decide (words.length = 64)
  | .fetched b words => decide (b < 2 ^ 16) && decide (words.length = 64)
  | .admitSnapshot attempt _ _ pairs =>
    decide (1 ≤ attempt) && decide (attempt ≤ 255) && decide (pairs.length ≤ 16) &&
      pairs.all (fun p => decide (p.a < 2 ^ 40) && decide (p.b < 2 ^ 40))

end Sys2Proof.Machine
end

