-- ==== Sys2Proof/Machine/Signature.lean ====
section
/-! DEFINITION. The signature arithmetic modulo M: sums, differences, weights, clear-state values (R54, R55, R57, R63). -/

namespace Sys2Proof.Machine

open Sys2Proof.Config (M)

/-- The sum of two signature values, less M if that is M or more (R54). -/
def sigAdd (x y : Nat) : Nat := if M ≤ x + y then x + y - M else x + y

/-- The difference new − old, plus M if that is negative (R54). -/
def sigSub (new old : Nat) : Nat := if old ≤ new then new - old else new + M - old

/-- The product of a weight and a value, formed exactly and reduced exactly (R54). -/
def sigMul (weight x : Nat) : Nat := weight * x % M

/-- A pair with `d` added at position `p`: A takes d, B takes (p + 1) × d (R57, R77, R79). -/
def pairAdd (pr : Pair) (p d : Nat) : Pair := { a := sigAdd pr.a d, b := sigAdd pr.b (sigMul (p + 1) d) }

/-- The delta of a write from `old` to `new` (R57). -/
def delta (old new : Word) : Nat := sigSub new.toNat old.toNat

/-- The signature of a run of words whose first stands at position `p`, added to a pair. -/
def foldWords (pr : Pair) : Nat → List Word → Pair
  | _, [] => pr
  | p, w :: ws => foldWords (pairAdd pr p w.toNat) (p + 1) ws

/-- The signature of R55: seed `s` over the region's words from position 0. -/
def signatureOf (s : Nat) (words : List Word) : Pair := foldWords ⟨s, 0⟩ 0 words

/-- The clear-state value of a region with seed `s` and `n` words, for fill pattern `f` (R63). -/
def clearPair (s n : Nat) (f : Word) : Pair :=
  let t := if n % 2 = 0 then n / 2 * (n + 1) else (n + 1) / 2 * n
  { a := (s + n * f.toNat) % M, b := f.toNat * (t % M) % M }

/-- The image digest over words v_1, v_2, … : seed 0, weights from 1 (R68). -/
def digestOf (words : List Word) : Pair := signatureOf 0 words

end Sys2Proof.Machine
end

