-- ==== Sys2Proof/Machine/Image.lean ====
section
/-! DEFINITION. Reading and checking the configuration image (R1-R5, R68, R69, R154-R156, R168). -/

namespace Sys2Proof.Machine

/-- Word-address lines in use for a memory size code (R17, R168). -/
def linesOfSize? : Nat → Option Nat
  | 1 => some 18
  | 2 => some 19
  | 3 => some 20
  | 4 => some 21
  | _ => none

/-- Blocks of memory for a number of address lines: 64 words to a block (R1). -/
def blocksOfLines (lines : Nat) : Nat := 2 ^ lines / 64

/-- A policy word, where all four fields hold defined codes; the effective copy field is the class's where the class
fixes it, and the uncorrectable action counts for PLAIN alone (R5, R168). -/
def policyOfWord? (w : Word) : Option Policy :=
  let cls? := match bitField w 0 3 with
    | 1 => some RegionClass.constant
    | 2 => some RegionClass.voted
    | 3 => some RegionClass.plain
    | 4 => some RegionClass.log
    | _ => none
  let copy? := match bitField w 4 2 with
    | 1 => some true
    | 2 => some false
    | _ => none
  let act? := match bitField w 8 2 with
    | 1 => some false
    | 2 => some true
    | _ => none
  let rep? := match bitField w 12 2 with
    | 1 => some Reporting.every
    | 2 => some Reporting.firstPerPass
    | 3 => some Reporting.none
    | _ => none
  match cls?, copy?, act?, rep? with
  | some cls, some copy, some act, some rep =>
    let copy := match cls with
      | .constant => true
      | .voted => true
      | .plain => copy
      | .log => false
    some { cls := cls, copy := copy, isolates := act && decide (cls = .plain), reporting := rep }
  | _, _, _, _ => none

/-- All the policies, or none if one is undefined (R155). -/
def policiesOfWords? : List Word → Option (List Policy)
  | [] => some []
  | w :: ws =>
    match policyOfWord? w, policiesOfWords? ws with
    | some p, some ps => some (p :: ps)
    | _, _ => none

/-- The region entries of a run of words, two words each (R168). -/
def regionsOfWords : List Word → List Region
  | w0 :: w1 :: ws =>
    { first := bitField w0 0 16, count := bitField w1 0 17, policy := bitField w1 24 4 } :: regionsOfWords ws
  | _ => []

/-- Two regions share no block (R2). -/
def Region.apart (r q : Region) : Bool := decide (r.first + r.count ≤ q.first) || decide (q.first + q.count ≤ r.first)

/-- No two regions of a list share a block (R2). -/
def regionsApart : List Region → Bool
  | [] => true
  | r :: rs => rs.all (fun q => Region.apart r q) && regionsApart rs

/-- A region entry in range: 1..32,768 blocks inside memory, policy number 0..7 (R2). -/
def Region.inRange (blocks : Nat) (r : Region) : Bool :=
  decide (1 ≤ r.count) && decide (r.count ≤ 32768) && decide (r.first + r.count ≤ blocks) && decide (r.policy ≤ 7)

/-- The class of a region's policy. -/
def classOf (policies : List Policy) (r : Region) : Option RegionClass := policies[r.policy]?.map (·.cls)

/-- At most 16 signature regions, at most one LOG region, and that one 1..64 blocks long (R3). -/
def classesInRange (policies : List Policy) (regions : List Region) : Bool :=
  decide (regions.countP (fun r => classOf policies r == some .constant || classOf policies r == some .voted) ≤ 16) &&
  decide (regions.countP (fun r => classOf policies r == some .log) ≤ 1) &&
  regions.all (fun r => !(classOf policies r == some .log) || decide (r.count ≤ 64))

/-- A setting clamped to its range (R156). -/
def clamp (range : Nat × Nat) (v : Nat) : Nat := if v < range.1 then range.1 else if range.2 < v then range.2 else v

/-- The thirteen settings from their clamped values, in the order of R156. -/
def settingsOf : List Nat → Option Settings
  | [v0, v1, v2, v3, v4, v5, v6, v7, v8, v9, v10, v11, v12] =>
    some { waitLimit := v0, patrolInterval := v1, linkDivisor := v2, voteWindow := v3, cycleLimit := v4,
           lateThreshold := v5, attemptLimit := v6, retryDelay := v7, formationWindow := v8, progressLimit := v9,
           catchUpThreshold := v10, holdLimit := v11, tryLimit := v12 }
  | _ => none

/-- The checks of R155 on the words delivered, for a part whose straps read `straps`; the image is loaded with its
settings clamped (R156) and its digest formed over the words as read (R68). -/
def loadImage? (straps : Nat) (words : List Word) : Option Image :=
  let w := words.take Config.imageWords
  let at' := fun i => w.getD i 0
  let digest := digestOf (w.take 89)
  let raw := ((w.drop 4).take 13).map BitVec.toNat
  let clampedValues := List.zipWith clamp Config.settingRanges raw
  let laneCount := bitField (at' 2) 8 4
  let regionCount := bitField (at' 2) 16 6
  let regions := regionsOfWords ((w.drop 25).take (2 * regionCount))
  match linesOfSize? (bitField (at' 2) 0 3), policiesOfWords? ((w.drop 17).take 8), settingsOf clampedValues with
  | some lines, some policies, some settings =>
    if w.length = Config.imageWords ∧ at' 0 = Config.formatMark ∧ (at' 1).toNat = Config.imageWords ∧
        (at' 89).toNat + 2 ^ 32 * (at' 90).toNat = digest.a ∧ (at' 91).toNat + 2 ^ 32 * (at' 92).toNat = digest.b ∧
        1 ≤ regionCount ∧ regionCount ≤ 32 ∧
        regions.all (Region.inRange (blocksOfLines lines)) = true ∧ regionsApart regions = true ∧
        classesInRange policies regions = true ∧ (laneCount = 2 ∨ laneCount = 3) ∧ straps < laneCount then
      some { lines := lines, laneCount := laneCount, fill := at' 3, settings := settings, policies := policies,
             regions := regions, digest := digest,
             clamped := List.zipWith (fun c r => decide (c ≠ r)) clampedValues raw }
    else none
  | _, _, _ => none

end Sys2Proof.Machine
end

