-- ==== Sys2Proof/Machine/State.lean ====
section
/-! DEFINITION. The state of the part, block by block, and its value right after a reset.

Each structure below is one block of the block diagram (00_scope.md) with the state the chapter of that block gives it.
A timer is `none` while it is stopped and `some n` while it runs with n ticks left. -/

namespace Sys2Proof.Machine

/-- The part's lines, with the levels they stand at (R172), and the last answer on the lane bus (R21, R49). -/
structure Lines where
  straps : BitVec 2
  supplyLow : Bool
  hold : Bool
  permit : Bool
  alert : Bool
  answer : Option Answer
  deriving DecidableEq, Repr

/-- The image loader: the reset taken and whether the image is being read (R153, R154). -/
structure Loader where
  reset : ResetKind
  reading : Bool
  deriving DecidableEq, Repr

/-- The through path (R21): the access it holds and its merge buffer. -/
structure ThroughPath where
  access : Option Access
  merge : Option Word
  deriving DecidableEq, Repr

/-- The region map (R8, R13, R15, R16): the loaded image, the lock flag, and each region's counts and flags. -/
structure RegionMap where
  image : Option Image
  lock : Bool
  status : List RegionStatus
  deriving DecidableEq, Repr

/-- The word checker (R34, R38): the repeat table, head first, and the substitution table with the spare store. -/
structure WordChecker where
  repeats : List RepeatEntry
  substs : List SubstEntry
  deriving DecidableEq, Repr

/-- The store port arbiter (R43, R46, R47). A background client waits with the age it has reached. -/
structure StorePort where
  burst : Option Burst
  procWaiting : Bool
  logAge : Option Nat
  recvAge : Option Nat
  fillAge : Option Nat
  copyAge : Option Nat
  patrolAge : Option Nat
  drain : Option (List Background)
  afterDrain : Bool
  deriving DecidableEq, Repr

/-- The signature unit (R56, R65): the live pair of each slot, and the snapshot with its cycle. -/
structure SignatureUnit where
  live : List Pair
  snapCycle : Word
  snap : List Pair
  deriving DecidableEq, Repr

/-- The patrol (R70). The cursor is a region number and a block index. -/
structure Patrol where
  running : Bool
  cursor : Option (Nat × Nat)
  accumulator : Option Pair
  void : Bool
  pass : Word
  pace : Option Nat
  deriving DecidableEq, Repr

/-- The vote unit (R98). -/
structure VoteUnit where
  counter : Word
  table : List VoteEntry
  view : Option View
  lastHeard : PerLane (Option LaneState)
  lateCount : PerLane Nat
  lastLate : PerLane (Option Word)
  grace : Option Word
  window : Option Nat
  supervision : Option Nat
  deriving DecidableEq, Repr

/-- Lane control (R116, R161). -/
structure LaneControl where
  state : LaneState
  attempts : Nat
  retry : Option Nat
  retryDue : Bool
  permitTimer : Option Nat
  formation : Option Nat
  retainedState : LaneState
  retainedCause : Option Cause
  retainedServing : Bool
  deriving DecidableEq, Repr

/-- The copy engine (R130, R131). -/
structure CopyEngine where
  attempt : Nat
  phase : JoinPhase
  asked : Option Lane
  secondAsked : Bool
  expected : Option Expected
  admittedBy : Option (Lane × Nat)
  verifying : Option Snapshot
  serving : Option (Lane × Nat)
  cursor : Option Cursor
  dirty : List Nat
  catchUp : CatchUp
  tries : Nat
  kept : Option Snapshot
  received : Option Received
  answers : List (PortId × Nat)
  job : Option CopyJob
  repairs : List Nat
  repair : Option Repair
  progress : Option Nat
  holdTimer : Option Nat
  repairTimer : Option Nat
  deriving DecidableEq, Repr

/-- The clear pass and the log recovery scan (R131, R158, R159): the highest valid sequence found with its slot, and
the number of valid records. -/
structure ClearUnit where
  pass : Option ClearPass
  best : Option (Nat × Nat)
  valid : Nat
  deriving DecidableEq, Repr

/-- The fault log writer (R162, R166). `next` is `none` when the sequence is exhausted; `pulseTick` is the time left of
the running tick of an ALERT pulse. -/
structure LogWriter where
  running : Bool
  next : Option Nat
  queue : List (Nat × Report)
  position : Nat
  owed : Nat
  phase : AlertPhase
  pulseTick : Option Nat
  deriving DecidableEq, Repr

/-- The whole part. `sram` lists the SRAM cells that do not read as zero, addresses rising (notes/assumptions/7, 9);
`pending` is the queue of waiting commands, the front first. -/
structure State where
  lines : Lines
  loader : Loader
  through : ThroughPath
  map : RegionMap
  checker : WordChecker
  sram : List (Nat × SramCell)
  port : StorePort
  sig : SignatureUnit
  patrol : Patrol
  link1 : LinkPort
  link2 : LinkPort
  vote : VoteUnit
  lane : LaneControl
  copy : CopyEngine
  clear : ClearUnit
  log : LogWriter
  pending : List Instr
  deriving DecidableEq, Repr

/-- Why the part would stop. The manual gives every event an effect on the state, so there is no way to stop: the type
is empty, and no meaning can answer with a fault. -/
inductive Fault where
  deriving DecidableEq, Repr

/-- Why a command has no meaning. -/
inductive Refusal where
  /-- Raised by an arm of exec for a row that has no meaning yet. Safe: the part does not go on. No arm raises it. -/
  | notModelled (mnemonic : String)
  deriving DecidableEq, Repr

/-- A link port after a reset (R85). -/
def LinkPort.afterReset : LinkPort :=
  { running := false, peer := none, control := [], bulk := [], reserved := 0, transmitter := .resting,
    gathering := false, received := [], errors := ⟨0, 0, 0, 0⟩ }

/-- The state after the reset `kind` with the LANE-ID levels `straps`, where the SUPPLY-LOW level, the SRAM contents, the
retained fields and the queue of commands are those given (R153 and the reset values of every chapter). After PIN too the
log writer's next sequence stands at 1 and its write position at slot 0 until the scan fixes them (notes/assumptions/38). -/
def State.afterReset (kind : ResetKind) (straps : BitVec 2) (supplyLow : Bool) (sram : List (Nat × SramCell))
    (retainedState : LaneState) (retainedCause : Option Cause) (retainedServing : Bool) (pending : List Instr) : State :=
  { lines := { straps := straps, supplyLow := supplyLow, hold := true, permit := false, alert := false, answer := none }
    loader := { reset := kind, reading := true }
    through := { access := none, merge := none }
    map := { image := none, lock := false, status := [] }
    checker := { repeats := [], substs := [] }
    sram := sram
    port := { burst := none, procWaiting := false, logAge := none, recvAge := none, fillAge := none, copyAge := none,
              patrolAge := none, drain := none, afterDrain := false }
    sig := { live := [], snapCycle := 0#32, snap := [] }
    patrol := { running := false, cursor := none, accumulator := none, void := false, pass := 0#32, pace := none }
    link1 := LinkPort.afterReset
    link2 := LinkPort.afterReset
    vote := { counter := 0#32, table := [], view := none, lastHeard := PerLane.all none, lateCount := PerLane.all 0,
              lastLate := PerLane.all none, grace := none, window := none, supervision := none }
    lane := { state := .starting, attempts := 0, retry := none, retryDue := false, permitTimer := none,
              formation := none, retainedState := retainedState, retainedCause := retainedCause,
              retainedServing := retainedServing }
    copy := { attempt := 0, phase := .none, asked := none, secondAsked := false, expected := none, admittedBy := none,
              verifying := none, serving := none, cursor := none, dirty := [], catchUp := .none, tries := 0,
              kept := none, received := none, answers := [], job := none, repairs := [], repair := none,
              progress := none, holdTimer := none, repairTimer := none }
    clear := { pass := none, best := none, valid := 0 }
    log := { running := false, next := some 1, queue := [], position := 0, owed := 0, phase := .idle,
             pulseTick := none }
    pending := pending }

/-- The part right after power-on, straps read as lane 0, SUPPLY-LOW inactive (notes/assumptions/8), nothing listed in
the SRAM (notes/assumptions/7), no command waiting. -/
def State.reset : State := State.afterReset .power 0#2 false [] .starting none false []

end Sys2Proof.Machine
end

