-- ==== Sys2Proof/Machine/RegionMap.lean ====
section
/-! DEFINITION. What the region map and the image answer: classification of blocks and accesses, slots, copyable
blocks, settings, peers (R2-R5, R9-R11, R84). -/

namespace Sys2Proof.Machine

/-- A policy that no valid image leaves in use: what an out-of-range policy number would give. -/
def noPolicy : Policy := { cls := .plain, copy := false, isolates := false, reporting := .none }

/-- The policy of a region (R2, R5). -/
def Image.policyOf (im : Image) (r : Region) : Policy := im.policies.getD r.policy noPolicy

/-- CONSTANT and VOTED regions are signature regions (R3). -/
def RegionClass.isSignature : RegionClass → Bool
  | .constant => true
  | .voted => true
  | _ => false

/-- Whether a region is copyable (R4): the effective copy field is yes for CONSTANT and VOTED and no for LOG (R5). -/
def Image.copyable (im : Image) (r : Region) : Bool := (Image.policyOf im r).copy

/-- Whether a region is a signature region (R3). -/
def Image.isSignature (im : Image) (r : Region) : Bool := RegionClass.isSignature (Image.policyOf im r).cls

/-- Whether a region is the LOG region. -/
def Image.isLog (im : Image) (r : Region) : Bool := decide ((Image.policyOf im r).cls = .log)

/-- Whether a block lies in a region (R2). -/
def Region.covers (r : Region) (b : Nat) : Bool := decide (r.first ≤ b) && decide (b < r.first + r.count)

/-- The seed of region number `i` (R2). -/
def seedOf (i : Nat) : Nat := i + 1

/-- The slot of region number `i`: how many signature regions stand before it, if it is one itself (R3). -/
def Image.slotOf (im : Image) (i : Nat) : Option Nat :=
  match im.regions[i]? with
  | some r =>
    if Image.isSignature im r then some ((im.regions.take i).countP (Image.isSignature im)) else none
  | none => none

/-- What the map answers for region number `i` (R9). -/
def Image.locateRegion (im : Image) (i : Nat) : Option Located :=
  im.regions[i]?.map (fun r =>
    { index := i, region := r, policy := Image.policyOf im r, slot := Image.slotOf im i,
      copyable := Image.copyable im r })

/-- What the map answers for a block number, or none where it is unmapped (R1, R9). -/
def Image.locate (im : Image) (block : Nat) : Option Located :=
  match im.regions.findIdx? (fun r => Region.covers r block) with
  | some i => Image.locateRegion im i
  | none => none

/-- The signature regions with their numbers, in slot order (R3). -/
def Image.slotRegions (im : Image) : List (Nat × Region) :=
  (im.regions.zipIdx.map (fun x => (x.2, x.1))).filter (fun x => Image.isSignature im x.2)

/-- The clear-state value of every slot (R63). -/
def Image.clearPairs (im : Image) : List Pair :=
  (Image.slotRegions im).map (fun x => clearPair (seedOf x.1) (64 * x.2.count) im.fill)

/-- The smaller of two optional numbers. -/
def minOption : Option Nat → Option Nat → Option Nat
  | none, y => y
  | x, none => x
  | some a, some b => some (if a ≤ b then a else b)

/-- The lowest block at or above `low` of a region, if it has one. -/
def Region.nextFrom (low : Nat) (r : Region) : Option Nat :=
  if low ≤ r.first then some r.first else if low < r.first + r.count then some low else none

/-- The lowest block at or above `low` in the regions that `p` picks. -/
def Image.nextBlock (im : Image) (p : Region → Bool) (low : Nat) : Option Nat :=
  ((im.regions.filter p).map (Region.nextFrom low)).foldr minOption none

/-- The region map's answer for a block, in the image that is loaded (R8: none before one is). -/
def locate (s : State) (block : Nat) : Option Located :=
  match s.map.image with
  | some im => Image.locate im block
  | none => none

/-- The region map's answer for a region number. -/
def locateRegion (s : State) (i : Nat) : Option Located :=
  match s.map.image with
  | some im => Image.locateRegion im i
  | none => none

/-- The lowest copyable block at or above `low` (R4). -/
def nextCopyable (s : State) (low : Nat) : Option Nat :=
  match s.map.image with
  | some im => Image.nextBlock im (Image.copyable im) low
  | none => none

/-- The lowest block at or above `low` that a clear pass treats: every mapped block in STARTING (R158), every mapped
block outside the LOG region on a joiner (R131). -/
def nextToClear (s : State) (joiner : Bool) (low : Nat) : Option Nat :=
  match s.map.image with
  | some im => Image.nextBlock im (fun r => !(joiner && Image.isLog im r)) low
  | none => none

/-- Whether a block is copyable (R4). -/
def isCopyable (s : State) (block : Nat) : Bool :=
  match locate s block with
  | some loc => loc.copyable
  | none => false

/-- The LOG region, if the image has one (R3). -/
def logRegion (s : State) : Option Region :=
  match s.map.image with
  | some im => im.regions.find? (Image.isLog im)
  | none => none

/-- The settings in force; zeros stand for none before an image is loaded, when nothing reads them (R53). -/
def settings (s : State) : Settings :=
  match s.map.image with
  | some im => im.settings
  | none => ⟨0, 0, 0, 0, 0, 0, 0, 0, 0, 0, 0, 0, 0⟩

/-- The fill pattern (R63). -/
def fillPattern (s : State) : Word :=
  match s.map.image with
  | some im => im.fill
  | none => 0

/-- Word-address lines in use (R17). -/
def linesInUse (s : State) : Nat :=
  match s.map.image with
  | some im => im.lines
  | none => 0

/-- The lane count of the loaded image. -/
def laneCount (s : State) : Nat :=
  match s.map.image with
  | some im => im.laneCount
  | none => 0

/-- The part's own lane, from its straps; a part whose straps read 3 goes to FAILED (R155) and never uses it. -/
def ownLane (s : State) : Lane :=
  match s.lines.straps.toNat with
  | 0 => .zero
  | 1 => .one
  | _ => .two

/-- The lanes in ascending order. -/
def allLanes : List Lane := [.zero, .one, .two]

/-- The peers, in ascending order: the other lanes of the lane count (R84). -/
def peers (s : State) : List Lane :=
  allLanes.filter (fun l => decide (l ≠ ownLane s) && decide (Lane.number l < laneCount s))

/-- The lane `k` places upwards from a lane number, counting round from 2 back to 0 (R84). -/
def laneUp (n k : Nat) : Lane :=
  match (n + k) % 3 with
  | 0 => .zero
  | 1 => .one
  | _ => .two

/-- The lane wired to a port (R84): LINK-1 to the next lane upwards and LINK-2 to the next but one with three lanes;
LINK-1 to the other lane and LINK-2 idle with two. -/
def wiredPeer (lanes own : Nat) : PortId → Option Lane
  | .link1 => if lanes = 3 then some (laneUp own 1) else some (if own = 0 then .one else .zero)
  | .link2 => if lanes = 3 then some (laneUp own 2) else none

/-- The word address of an access: the byte address divided by 4 (R1). -/
def wordAddress (byteAddress : Word) : Nat := byteAddress.toNat / 4

/-- The block number of a word address (R1). -/
def blockOf (word : Nat) : Nat := word / 64

/-- A word's position in a region (R2). -/
def positionIn (r : Region) (word : Nat) : Nat := word - 64 * r.first

/-- The seven byte patterns a write may enable (R22). -/
def validEnables (e : BitVec 4) : Bool :=
  decide (e = 0b0001#4) || decide (e = 0b0010#4) || decide (e = 0b0100#4) || decide (e = 0b1000#4) ||
  decide (e = 0b0011#4) || decide (e = 0b1100#4) || decide (e = 0b1111#4)

/-- Why an access is refused as soon as it is taken, if it is: the rights of R10 and R11 first, then a write's byte
enables (R22). -/
def refusalAtTaking (s : State) (acc : Access) : Option RefusalReason :=
  match locate s (blockOf acc.word) with
  | none => some .unmapped
  | some loc =>
    if acc.isWrite then
      if loc.policy.cls = .log then some .logWrite
      else if loc.policy.cls = .constant ∧ s.map.lock = true then some .locked
      else if validEnables acc.enables then none
      else some .byteEnables
    else none

/-- The old word with the enabled bytes taken from the write data (R22, R28). -/
def mergeBytes (old new : Word) (e : BitVec 4) : Word :=
  let mask : Word := (if e.getLsbD 0 then 0x000000FF#32 else 0) ||| (if e.getLsbD 1 then 0x0000FF00#32 else 0) |||
    (if e.getLsbD 2 then 0x00FF0000#32 else 0) ||| (if e.getLsbD 3 then 0xFF000000#32 else 0)
  (old &&& ~~~mask) ||| (new &&& mask)

end Sys2Proof.Machine
end

