-- ==== Sys2Proof/Machine/Ops.lean ====
section
/-! DEFINITION. The operations the commands share: store-port requests, reports, frames offered to the ports, the lane
bus, HOLD and PERMIT, standings and voter sets. Each changes only what its rule names. -/

namespace Sys2Proof.Machine

/-! Store-port requests (R43, R44). -/

/-- How long a background request has waited, if it waits. -/
def ageOf (p : StorePort) : Background → Option Nat
  | .log => p.logAge
  | .recv => p.recvAge
  | .fill => p.fillAge
  | .copy => p.copyAge
  | .patrol => p.patrolAge

/-- The arbiter with one client's age replaced. -/
def setAge (p : StorePort) (b : Background) (a : Option Nat) : StorePort :=
  match b with
  | .log => { p with logAge := a }
  | .recv => { p with recvAge := a }
  | .fill => { p with fillAge := a }
  | .copy => { p with copyAge := a }
  | .patrol => { p with patrolAge := a }

/-- Whether a background request waits. -/
def waits (p : StorePort) (b : Background) : Bool := (ageOf p b).isSome

/-- Whether a client's burst holds the port. -/
def holdsPort (p : StorePort) (c : Client) : Bool :=
  match p.burst with
  | some b => decide (b.owner = c)
  | none => false

/-- A background request placed, its age at zero; a request that would be a second one is not placed (R43). -/
def place (b : Background) (s : State) : State :=
  if waits s.port b then s else { s with port := setAge s.port b (some 0) }

/-- A drain without a client; the drain ends with its last member, and the after-drain mark is then set (R44, R47). -/
def leaveDrain (p : StorePort) (b : Background) : StorePort :=
  match p.drain with
  | some l =>
    if l.contains b then
      if (l.filter (fun x => decide (x ≠ b))).isEmpty then { p with drain := none, afterDrain := true }
      else { p with drain := some (l.filter (fun x => decide (x ≠ b))) }
    else p
  | none => p

/-- A waiting background request withdrawn with its age (R44). -/
def withdraw (b : Background) (s : State) : State :=
  { s with port := leaveDrain (setAge s.port b none) b }

/-! Reports (R163). -/

/-- A report with its record fields fixed as they stand (R163, R164), made by no processor read. -/
def makeReport (s : State) (kind : RecordKind) (names : Option Nat) (place detail1 detail2 : Word) : Report :=
  { kind := kind, state := s.lane.state, names := names, cycle := s.vote.counter, place := place, detail1 := detail1,
    detail2 := detail2, pass := s.patrol.pass, enables := none }

/-- The LOG request: it waits while the report queue holds a report and no LOG burst is in progress (R43, R165). -/
def placeLog (s : State) : State :=
  if s.log.queue.isEmpty || holdsPort s.port (.background .log) then s else place .log s

/-- The sequence number after `n` (R163): none once the last number has been taken. -/
def sequenceAfter (n : Nat) : Option Nat := if n = Config.lastSequence then none else some (n + 1)

/-- A report taken by the fault log writer: numbered, then queued or dropped (R163). Before the writer runs it is
discarded (R160, R162), and so it is once numbered where there is no LOG region (R167). -/
def offer (r : Report) (s : State) : State :=
  if s.log.running then
    match s.log.next with
    | none => s
    | some n =>
      if (logRegion s).isSome && decide (s.log.queue.length < Config.reportDepth) then
        placeLog { s with log := { s.log with next := sequenceAfter n, queue := s.log.queue ++ [(n, r)] } }
      else { s with log := { s.log with next := sequenceAfter n } }
  else s

/-- A report made of the state as it stands and offered. -/
def report (kind : RecordKind) (names : Option Nat) (place detail1 detail2 : Word) (s : State) : State :=
  offer (makeReport s kind names place detail1 detail2) s

/-- A word address or a block number in word 3 of a record. -/
def placeWord (n : Nat) : Word := BitVec.ofNat 32 n

/-! Link ports (R85, R91, R93-R95). -/

/-- A port's state. -/
def getPort (s : State) : PortId → LinkPort
  | .link1 => s.link1
  | .link2 => s.link2

/-- The state with a port's replaced. -/
def setPort (s : State) (p : PortId) (v : LinkPort) : State :=
  match p with
  | .link1 => { s with link1 := v }
  | .link2 => { s with link2 := v }

/-- A port that runs and is not idle (R84, R85). -/
def LinkPort.active (v : LinkPort) : Bool := v.running && v.peer.isSome

/-- The port wired to a lane, if there is one. -/
def portTo (s : State) (l : Lane) : Option PortId :=
  if s.link1.peer = some l then some .link1 else if s.link2.peer = some l then some .link2 else none

/-- Clock periods that a run of bytes takes on the line: eight bit periods a byte (R86). -/
def lineClocks (divisor bytes : Nat) : Nat := bytes * 8 * divisor

/-- The transmitter of a port that rests starts the oldest control frame, else the oldest bulk frame (R94). -/
def startNext (sender divisor : Nat) (v : LinkPort) : LinkPort :=
  if v.transmitter = .resting then
    match v.control with
    | f :: rest =>
      { v with control := rest,
               transmitter := .sending (frameBytes sender f) (lineClocks divisor (frameBytes sender f).length) }
    | [] =>
      match v.bulk with
      | f :: rest =>
        { v with bulk := rest,
                 transmitter := .sending (frameBytes sender f) (lineClocks divisor (frameBytes sender f).length) }
      | [] => v
  else v

/-- The port's transmitter started if it rests. -/
def startPort (p : PortId) (s : State) : State :=
  setPort s p (startNext s.lines.straps.toNat (settings s).linkDivisor (getPort s p))

/-- A count of 0..255 raised by one, saturating (R85). -/
def raise255 (n : Nat) : Nat := if n < 255 then n + 1 else 255

/-- The error counts with one kind's raised (R91). -/
def raiseError (e : ErrorCounts) : LinkErrorKind → ErrorCounts
  | .check => { e with check := raise255 e.check }
  | .form => { e with form := raise255 e.form }
  | .overrun => { e with overrun := raise255 e.overrun }
  | .txFull => { e with txFull := raise255 e.txFull }

/-- The count of one error kind. -/
def errorCount (e : ErrorCounts) : LinkErrorKind → Nat
  | .check => e.check
  | .form => e.form
  | .overrun => e.overrun
  | .txFull => e.txFull

/-- An error of a port: its count raised and one LINK-ERROR report offered (R91, R93). The last two arguments are the
kind byte and the sender byte of the second detail, each with its mark of bits 24 and 25 (R170). -/
def linkError (p : PortId) (kind : LinkErrorKind) (reason : Option FormReason) (kindByte senderByte : Nat × Bool)
    (s : State) : State :=
  let e := raiseError (getPort s p).errors kind
  report .linkError none 0
    (packFields [(PortId.code p, 0), (LinkErrorKind.code kind, 8), (formReasonField reason, 16)])
    (packFields [(errorCount e kind, 0), (kindByte.1, 8), (senderByte.1, 16), (bit kindByte.2, 24),
      (bit senderByte.2, 25)])
    (setPort s p { getPort s p with errors := e })

/-- A byte as the gather reached it, with its mark, or the free value where it was not reached (R91). -/
def reachedByte : Option Byte → Nat × Bool
  | some b => (b.toNat, true)
  | none => (Config.unreachedByte.toNat, false)

/-- A frame dropped for want of room in its queue (R93). -/
def txFull (p : PortId) (f : Frame) (s : State) : State :=
  linkError p .txFull none (FrameKind.code (Frame.kind f), Config.txFullKindReached)
    (Config.unreachedByte.toNat, false) s

/-- A control frame offered to a port: appended, or dropped as TX-FULL; a resting transmitter starts it at once
(R93, R94). An idle or stopped port takes none (R84, R85). -/
def offerControl (p : PortId) (f : Frame) (s : State) : State :=
  if LinkPort.active (getPort s p) then
    if (getPort s p).control.length < Config.controlDepth then
      startPort p (setPort s p { getPort s p with control := (getPort s p).control ++ [f] })
    else txFull p f s
  else s

/-- Whether a port's bulk queue has a free slot, a reserved slot counting as occupied (R93). -/
def bulkFree (v : LinkPort) : Bool := decide (v.bulk.length + v.reserved < Config.bulkDepth)

/-- A bulk frame offered into a free slot, or dropped as TX-FULL (R93). -/
def offerBulk (p : PortId) (f : Frame) (s : State) : State :=
  if LinkPort.active (getPort s p) then
    if bulkFree (getPort s p) then startPort p (setPort s p { getPort s p with bulk := (getPort s p).bulk ++ [f] })
    else txFull p f s
  else s

/-- One slot of a port's bulk queue reserved (R93). -/
def reserveSlot (p : PortId) (s : State) : State :=
  setPort s p { getPort s p with reserved := (getPort s p).reserved + 1 }

/-- One reserved slot freed (R93). -/
def freeSlot (p : PortId) (s : State) : State :=
  setPort s p { getPort s p with reserved := (getPort s p).reserved - 1 }

/-- The frame of a COPY burst fills the slot reserved for it (R93). -/
def fillSlot (p : PortId) (f : Frame) (s : State) : State := offerBulk p f (freeSlot p s)

/-- A frame offered to both links, each port on its own (R84, R93), LINK-1 first (notes/assumptions/36). -/
def offerBoth (f : Frame) (s : State) : State := offerControl .link2 f (offerControl .link1 f s)

/-- A control frame offered to a named lane (R84). -/
def offerTo (l : Lane) (f : Frame) (s : State) : State :=
  match portTo s l with
  | some p => offerControl p f s
  | none => s

/-- A queued frame that a purge discards: BLOCK or ADMIT of the attempt (R95). -/
def purged (attempt : Nat) : Frame → Bool
  | .block n _ _ => decide (n = attempt)
  | .admitSnapshot n _ _ _ => decide (n = attempt)
  | _ => false

/-- The bulk queue of a port purged of an attempt's frames (R95). -/
def purgeBulk (p : PortId) (attempt : Nat) (s : State) : State :=
  setPort s p { getPort s p with bulk := (getPort s p).bulk.filter (fun f => !purged attempt f) }

/-! Lane bus, HOLD and PERMIT (R21, R52, R118, R119). -/

/-- The access answered: READY, with data and ERROR as given; the merge buffer is emptied and the through path is idle
(R21). -/
def answerAccess (a : Answer) (s : State) : State :=
  { s with lines := { s.lines with answer := some a }, through := { access := none, merge := none } }

/-- The answer that the burst in progress owes the processor, given now if there is one (R21, R52). -/
def giveDueAnswer (s : State) : State :=
  match s.port.burst with
  | some b =>
    match b.answer with
    | some a => answerAccess a { s with port := { s.port with burst := some { b with answer := none } } }
    | none => s
  | none => s

/-- A waiting PROC request withdrawn and its access dropped unanswered (R44, R52). -/
def dropWaitingAccess (s : State) : State :=
  if s.port.procWaiting then
    { s with port := { s.port with procWaiting := false }, through := { access := none, merge := none } }
  else s

/-- HOLD asserted: a PROC burst in progress is answered first, a waiting access is dropped (R52, R118). -/
def assertHold (s : State) : State :=
  if s.lines.hold then s
  else
    let s := dropWaitingAccess (giveDueAnswer s)
    { s with lines := { s.lines with hold := true } }

/-- HOLD released (R118). -/
def releaseHold (s : State) : State := { s with lines := { s.lines with hold := false } }

/-- The lane view as it stands; every lane EXCLUDED before one is set (R98, R111). -/
def viewOf (s : State) : View := s.vote.view.getD (PerLane.all .excluded)

/-- A lane's standing (R111). -/
def standing (s : State) (l : Lane) : Standing := PerLane.get (viewOf s) l

/-- Whether a lane is the one that a two-lane part lacks: lane 2, ABSENT until the next reset whatever happens (R111). -/
def isAbsentLane (s : State) (l : Lane) : Bool := decide (laneCount s = 2) && decide (l = .two)

/-- How many lanes of a view stand MEMBER. -/
def memberCount (v : View) : Nat := (allLanes.filter (fun l => decide (PerLane.get v l = .member))).length

/-- The two conditions under which PERMIT toggles (R119). -/
def permitDue (s : State) : Bool := decide (s.lane.state = .member) && decide (2 ≤ memberCount (viewOf s))

/-- The test of R119: the permit timer is started when the conditions come to hold and stopped when they cease. -/
def permitTest (s : State) : State :=
  if permitDue s then
    match s.lane.permitTimer with
    | some _ => s
    | none => { s with lane := { s.lane with permitTimer := some Config.permitHalfPeriod } }
  else { s with lane := { s.lane with permitTimer := none } }

/-- A lane's standing set, and PERMIT tested in the same step (R111, R119). -/
def setStanding (l : Lane) (st : Standing) (s : State) : State :=
  permitTest { s with vote := { s.vote with view := some (PerLane.set (viewOf s) l st) } }

/-- The lane state set, with self's standing mirroring it (R111) and the retained state following it (R129); PERMIT is
tested in the same step (R119). -/
def setLaneState (st : LaneState) (s : State) : State :=
  let mirror := match st with
    | .member => Standing.member
    | .joining => Standing.joining
    | _ => Standing.excluded
  setStanding (ownLane s) mirror { s with lane := { s.lane with state := st, retainedState := st } }

/-- The STATE frame of a change of lane state, offered to both links (R120). -/
def offerState (s : State) : State := offerBoth (.state s.lane.state s.vote.counter) s

/-! Standings of peers and voter sets (R104, R112). -/

/-- A voter set without a lane. -/
def withoutVoter (l : Lane) (e : VoteEntry) : VoteEntry :=
  { e with voters := e.voters.map (fun v => PerLane.set v l false) }

/-- A peer made EXCLUDED: one that stood MEMBER leaves the voter set of every unvoted entry (R104, R112). -/
def excludePeer (l : Lane) (s : State) : State :=
  if standing s l = .member then
    setStanding l .excluded { s with vote := { s.vote with table := s.vote.table.map (withoutVoter l) } }
  else setStanding l .excluded s

/-- Whether EXCLUDED is a change that PEER-EXCLUDED reports: from MEMBER or JOINING (R112). -/
def exclusionCounts (st : Standing) : Bool := decide (st = .member) || decide (st = .joining)

/-- The PEER-EXCLUDED report (R112, R170). -/
def reportExcluded (l : Lane) (reason : Cause) (detail2 : Word) (s : State) : State :=
  report .peerExcluded none 0
    (packFields [(Lane.number l, 0), (Cause.code reason, 8), (PerLane.get s.vote.lateCount l, 16)]) detail2 s

/-- Whether a cycle number lies at or after another: an offset of at most 2,147,483,647 (R98). -/
def cycleAtOrAfter (c from' : Word) : Bool := decide ((c - from').toNat ≤ 2147483647)

/-- A lane that becomes MEMBER by ADMITTED or NOTICE: late count 0, last late cycle none, and a voter of every entry
whose set is fixed and whose cycle is at or after the first one it votes in (R104, R112). -/
def memberByFrame (l : Lane) (firstCycle : Word) (s : State) : State :=
  setStanding l .member
    { s with vote := { s.vote with
        lateCount := PerLane.set s.vote.lateCount l 0
        lastLate := PerLane.set s.vote.lastLate l none
        table := s.vote.table.map (fun e =>
          if cycleAtOrAfter e.cycle firstCycle then
            { e with voters := e.voters.map (fun v => PerLane.set v l true) } else e) } }

/-! Timers. -/

/-- Milliseconds in ticks (R172). -/
def ms (n : Nat) : Nat := n * Config.ticksPerMs

/-- The lane state is FORMING or MEMBER. -/
def running (s : State) : Bool := decide (s.lane.state = .forming) || decide (s.lane.state = .member)

end Sys2Proof.Machine
end

