-- ==== Sys2Proof/Machine/Sram.lean ====
section
/-! DEFINITION. The SRAM behind the store port: word addresses to 40-bit cells, in one canonical form.

Addresses rise strictly, and no listed cell is the cell an unlisted address reads as. -/

namespace Sys2Proof.Machine

/-- What an unlisted cell reads as: DESIGN CHOICE, unsafe (notes/assumptions/7). R153 says only that the contents are
not kept by a power-on reset. -/
def unwrittenCell : SramCell := 0

/-- The cell at a word address. -/
def sramRead : List (Nat × SramCell) → Nat → SramCell
  | [], _ => unwrittenCell
  | (k, c) :: rest, a => if a = k then c else sramRead rest a

/-- The list with `(a, c)` at its place in address order, or with no entry for `a` when `c` is the unwritten cell. -/
def sramWrite : List (Nat × SramCell) → Nat → SramCell → List (Nat × SramCell)
  | [], a, c => if c = unwrittenCell then [] else [(a, c)]
  | (k, d) :: rest, a, c =>
    if a < k then (if c = unwrittenCell then (k, d) :: rest else (a, c) :: (k, d) :: rest)
    else if a = k then (if c = unwrittenCell then rest else (a, c) :: rest)
    else (k, d) :: sramWrite rest a c

/-- The canonical form: addresses at or above `low` and strictly rising, no unwritten cell listed. -/
def sramCanonicalFrom : Nat → List (Nat × SramCell) → Bool
  | _, [] => true
  | low, (k, c) :: rest => decide (low ≤ k) && decide (c ≠ unwrittenCell) && sramCanonicalFrom (k + 1) rest

/-- The canonical form of the SRAM. -/
def sramCanonical (m : List (Nat × SramCell)) : Bool := sramCanonicalFrom 0 m

/-- Cells written back to what they held, the last write undone first. `done` gives the writes in the order they were
made, each with the cell's earlier content. -/
def sramUndo (m : List (Nat × SramCell)) (done : List (Nat × SramCell)) : List (Nat × SramCell) :=
  done.reverse.foldl (fun m w => sramWrite m w.1 w.2) m

end Sys2Proof.Machine
end

