-- ==== Sys2Proof/Machine/WordAccess.lean ====
section
/-! DEFINITION. Reading and writing words within a burst: the spare store first, the SRAM otherwise; counts, repeat and
substitution tables, reports, signature deltas and dirty marking (R15-R20, R24-R39, R57-R62, R79, R143). -/

namespace Sys2Proof.Machine

/-- The substitution entry of a word address, if it is substituted (R20). -/
def substOf (s : State) (a : Nat) : Option SubstEntry := s.checker.substs.find? (fun e => decide (e.address = a))

/-- A word read with its outcome: a substituted word is CLEAN with its spare-store value, and any other word is read
from SRAM and classified (R18-R20). -/
def readWord (s : State) (a : Nat) : ReadOutcome :=
  match substOf s a with
  | some e => .clean e.value
  | none => classifyCell (linesInUse s) a (sramRead s.sram a)

/-- A cell written to SRAM within a burst, the burst keeping what it overwrote for a reset that cuts it (R53). -/
def writeCell (a : Nat) (c : SramCell) (s : State) : State :=
  { s with
    sram := sramWrite s.sram a c
    port := { s.port with burst := s.port.burst.map (fun b =>
      { b with overwritten := b.overwritten ++ [(a, sramRead s.sram a)] }) } }

/-- A word written: in the spare store if it is substituted, else in SRAM with a fresh check code (R17, R20, R39). -/
def writeWord (a : Nat) (v : Word) (s : State) : State :=
  match substOf s a with
  | some _ =>
    { s with checker := { s.checker with substs := s.checker.substs.map (fun e =>
        if e.address = a then { e with value := v } else e) } }
  | none => writeCell a (encodeCell (linesInUse s) a v) s

/-! Region counts and flags (R7, R15, R16). -/

/-- A region's counts and flags. -/
def statusOf (s : State) (i : Nat) : RegionStatus := s.map.status.getD i ⟨0, 0, false, false⟩

/-- A region's counts and flags changed. -/
def modifyStatus (i : Nat) (f : RegionStatus → RegionStatus) (s : State) : State :=
  { s with map := { s.map with status := s.map.status.modify i f } }

/-- A count raised by one, saturating at 65,535 (R15). -/
def raiseCount (n : Nat) : Nat := if n < Config.countMax then n + 1 else Config.countMax

/-- A region's two counts as a record carries them (R40, R170). -/
def countsWord (s : State) (i : Nat) : Word :=
  packFields [((statusOf s i).corrected, 0), ((statusOf s i).uncorrectable, 16)]

/-! The repeat and substitution tables (R34-R38). -/

/-- The count an update leaves an entry at, and its no-spare mark: a new entry has count 1, and an entry in the table has
its count raised, but not beyond 3 (R35). -/
def repeatAfter (table : List RepeatEntry) (a : Nat) : RepeatEntry :=
  match table.find? (fun e => decide (e.address = a)) with
  | some e => { address := a, count := if e.count < 3 then e.count + 1 else 3, noSpare := e.noSpare }
  | none => { address := a, count := 1, noSpare := false }

/-- The other entries, the head removed first where a new address meets a full table (R35). -/
def repeatOthers (table : List RepeatEntry) (a : Nat) : List RepeatEntry :=
  if (table.find? (fun e => decide (e.address = a))).isNone && decide (Config.repeatDepth ≤ table.length) then table.tail
  else table.filter (fun e => decide (e.address ≠ a))

/-- The word checker's tables after an update for address `a`, whose good value is `v` (R35-R37). -/
def repeatUpdate (c : WordChecker) (a : Nat) (v : Word) (origin : Origin) : WordChecker × RepeatNews :=
  let e := repeatAfter c.repeats a
  let others := repeatOthers c.repeats a
  if e.count = 3 then
    if c.substs.length < Config.substDepth then
      ({ repeats := others, substs := c.substs ++ [{ address := a, value := v, origin := origin }] }, .substituted)
    else if e.noSpare then ({ c with repeats := others ++ [e] }, .nothing)
    else ({ c with repeats := others ++ [{ e with noSpare := true }] }, .noSpare)
  else ({ c with repeats := others ++ [e] }, .nothing)

/-- The SUBSTITUTED or NO-SPARE report that a repeat-table update makes (R36, R37, R40). -/
def reportNews (news : RepeatNews) (region a : Nat) (v : Word) (origin : Origin) (s : State) : State :=
  match news with
  | .nothing => s
  | .substituted =>
    report .substituted (some region) (placeWord a)
      (packFields [(Origin.code origin, 0), (s.checker.substs.length, 8)]) v s
  | .noSpare => report .noSpare (some region) (placeWord a) (packFields [(3, 0), (16, 8)]) v s

/-- Whether the region's correction reporting calls for a CORRECTED report (R7). -/
def reportsCorrection (s : State) (loc : Located) : Bool :=
  match loc.policy.reporting with
  | .every => true
  | .firstPerPass => !(statusOf s loc.index).reported
  | .none => false

/-- A CORRECTED outcome of a read: the corrected count is raised, the repeat table updated, and the reports offered in
the order of R33 (R7, R15, R24, R35-R37, R40). -/
def noteCorrected (client : Client) (loc : Located) (a : Nat) (v : Word) (syn : Byte) (wrong : Nat) (s : State) : State :=
  let s := modifyStatus loc.index (fun r => { r with corrected := raiseCount r.corrected }) s
  let upd := repeatUpdate s.checker a v .correction
  let s := { s with checker := upd.1 }
  let s :=
    if reportsCorrection s loc then
      report .corrected (some loc.index) (placeWord a)
        (packFields [(Client.code client, 0), (syn.toNat, 8), (wrong, 16)]) (countsWord s loc.index)
        (if loc.policy.reporting = .firstPerPass then modifyStatus loc.index (fun r => { r with reported := true }) s
         else s)
    else s
  reportNews upd.2 loc.index a v .correction s

/-- An uncorrectable count raised (R15). -/
def raiseUncorrectable (loc : Located) (s : State) : State :=
  modifyStatus loc.index (fun r => { r with uncorrectable := raiseCount r.uncorrectable }) s

/-- An UNCORRECTABLE outcome: the count raised and the report offered (R15, R25, R40). -/
def noteUncorrectable (client : Client) (loc : Located) (a : Nat) (syn : Byte) (s : State) : State :=
  let s := raiseUncorrectable loc s
  report .uncorrectable (some loc.index) (placeWord a) (packFields [(Client.code client, 0), (syn.toNat, 8)])
    (countsWord s loc.index) s

/-- An ADDRESS outcome: the count raised and the report offered (R15, R25, R40). -/
def noteAddressFault (client : Client) (loc : Located) (a : Nat) (syn : Byte) (line : Nat) (s : State) : State :=
  let s := raiseUncorrectable loc s
  report .addressFault (some loc.index) (placeWord a)
    (packFields [(Client.code client, 0), (syn.toNat, 8), (line, 16)]) (countsWord s loc.index) s

/-! Signature deltas (R57, R58, R61, R79). -/

/-- The patrol's adjustment for a delta at a position of a region: made when the region is the one being walked, its
accumulator is present and the block lies below the cursor (R79). -/
def patrolAdjust (region position d : Nat) (p : Patrol) : Patrol :=
  match p.cursor, p.accumulator with
  | some (r, blockIndex), some acc =>
    if r = region ∧ position / 64 < blockIndex then { p with accumulator := some (pairAdd acc position d) } else p
  | _, _ => p

/-- The delta of a stored write applied to the live pair of its slot and passed to the patrol (R57, R61). -/
def applyDelta (loc : Located) (a : Nat) (old new : Word) (s : State) : State :=
  match loc.slot with
  | some k =>
    let position := positionIn loc.region a
    { s with
      sig := { s.sig with live := s.sig.live.modify k (fun pr => pairAdd pr position (delta old new)) }
      patrol := patrolAdjust loc.index position (delta old new) s.patrol }
  | none => s

/-- A region's broken flag set (R16, R62). -/
def setBroken (loc : Located) (s : State) : State := modifyStatus loc.index (fun r => { r with broken := true }) s

/-! Dirty marking (R32, R143). -/

/-- A block behind the copy cursor: the cursor is complete or above it (R143). -/
def behindCursor (s : State) (block : Nat) : Bool :=
  match s.copy.cursor with
  | some .complete => true
  | some (.at c) => decide (block < c)
  | none => false

/-- A block appended to the dirty queue of a serving part when it is behind the cursor and absent (R143, R144). -/
def appendDirty (block : Nat) (s : State) : State :=
  if s.copy.serving.isSome && behindCursor s block && !s.copy.dirty.contains block then
    { s with copy := { s.copy with dirty := s.copy.dirty ++ [block] } }
  else s

/-- A processor write handed to the copy engine with its block (R32, R143). -/
def handToCopyEngine (loc : Located) (block : Nat) (s : State) : State :=
  if loc.copyable then appendDirty block s else s

/-! The class action (R6, R150). -/

/-- A CONSTANT block offered to the repair list (R150). -/
def offerRepair (region block : Nat) (s : State) : State :=
  if s.copy.repairs.contains block then s
  else if s.copy.repairs.length < Config.repairDepth then
    { s with copy := { s.copy with repairs := s.copy.repairs ++ [block] } }
  else report .repairDeferred (some region) (placeWord block) 0 0 s

/-- What the class action leaves to the end of the burst: the cause a VOTED region, or a PLAIN one with action ISOLATE,
hands lane control, by the lane state (R6, R78). -/
def classCause (s : State) (loc : Located) : AtEnd :=
  if loc.policy.cls = .voted ∨ (loc.policy.cls = .plain ∧ loc.policy.isolates = true) then
    match s.lane.state with
    | .forming => .leave .memory (some loc.index)
    | .member => .leave .memory (some loc.index)
    | .joining => .failAttempt .memory
    | _ => .nothing
  else .nothing

/-- What the class action does within the burst: a bad CONSTANT block is offered to the repair list (R6, R150). -/
def classRepair (loc : Located) (block : Nat) (s : State) : State :=
  if loc.policy.cls = .constant ∧ running s = true then offerRepair loc.index block s else s

/-! The burst in progress. -/

/-- A burst begun by an owner: nothing overwritten, answered or due yet (R41). -/
def beginBurst (c : Client) (s : State) : State :=
  { s with port := { s.port with burst := some { owner := c, answer := none, atEnd := .nothing, overwritten := [] } } }

/-- The work due at the end of the burst. -/
def setAtEnd (e : AtEnd) (s : State) : State :=
  { s with port := { s.port with burst := s.port.burst.map (fun b => { b with atEnd := e }) } }

/-- The answer due at the end of a PROC burst (R21). -/
def setDueAnswer (a : Answer) (s : State) : State :=
  { s with port := { s.port with burst := s.port.burst.map (fun b => { b with answer := some a }) } }

end Sys2Proof.Machine
end

