-- ==== Sys2Proof/Machine/LaneControl.lean ====
section
/-! DEFINITION. The steps that lane control and the copy engine share: the end of serving, isolation, the start and the
failure of a restoration attempt, admission, discovery, and the clear starts (R71, R72, R75, R115, R121-R128, R131,
R132, R137, R138, R148). -/

namespace Sys2Proof.Machine

/-! The patrol's starts (R71, R72, R75). -/

/-- The patrol starts running, its pace timer loaded with the full interval (R71). -/
def startPatrol (s : State) : State :=
  { s with patrol := { s.patrol with running := true, pace := some (settings s).patrolInterval } }

/-- A region start (R75). -/
def regionStart (i : Nat) (s : State) : State :=
  let acc := match locateRegion s i with
    | some loc => if loc.slot.isSome then some { a := seedOf i, b := 0 } else none
    | none => none
  modifyStatus i (fun r => { r with reported := false })
    { s with patrol := { s.patrol with accumulator := acc, void := false } }

/-- The patrol restarted at a clear start and suspended (R72). The region start gives region 0 its accumulator in STARTING
too (R72, R75; notes/assumptions/35). -/
def restartPatrol (s : State) : State :=
  let s := regionStart 0 { s with patrol := { s.patrol with pass := s.patrol.pass + 1, cursor := some (0, 0) } }
  withdraw .patrol { s with patrol := { s.patrol with running := false, pace := none } }

/-! The clear passes (R64, R131, R158). -/

/-- Every live pair at its clear-state value (R63, R64). -/
def clearLivePairs (s : State) : State :=
  { s with sig := { s.sig with live := match s.map.image with
      | some im => Image.clearPairs im
      | none => [] } }

/-- A clear pass begun at the lowest block it treats. Its FILL request is placed unless a FILL burst of an earlier pass
still holds the port, whose end places it (R43, R131). -/
def beginClear (joiner : Bool) (s : State) : State :=
  let s := { s with clear := { s.clear with pass := some { next := nextToClear s joiner 0, joiner := joiner } } }
  if (nextToClear s joiner 0).isSome && !holdsPort s.port (.background .fill) then place .fill s else s

/-! The end of serving (R95, R148). -/

/-- A restoration's waiting COPY request withdrawn with its slot, and the slot of a COPY burst in progress freed: the
frame it would have made is one the purge discards (R44, R95). -/
def endRestoreJob (s : State) : State :=
  let s := match s.copy.job with
    | some (.restore p) => freeSlot p (withdraw .copy { s with copy := { s.copy with job := none } })
    | _ => s
  match s.port.burst with
  | some b =>
    match b.atEnd with
    | .sendBlock p _ _ _ => freeSlot p (setAtEnd .nothing s)
    | .damaged p block true => freeSlot p (setAtEnd (.damaged p block false) s)
    | _ => s
  | none => s

/-- Whether an end of serving makes the joiner EXCLUDED (R148). -/
def outcomeExcludes (outcome : Cause) : Bool := decide (outcome ≠ .admitted) && decide (outcome ≠ .replaced)

/-- Serving ended, but for its reports: timers, hold, request, purge, queue, cursor, ABANDON and standing (R148). -/
def endServingStep (outcome : Cause) (abandon : Option Cause) (s : State) : State :=
  match s.copy.serving with
  | none => s
  | some (joiner, attempt) =>
    let s := endRestoreJob s
    let s := { s with
      copy := { s.copy with progress := none, holdTimer := none, catchUp := .none, kept := none, dirty := [],
                            cursor := none, serving := none }
      lane := { s.lane with retainedServing := false } }
    let s := match portTo s joiner with
      | some p => purgeBulk p attempt s
      | none => s
    let s := match abandon with
      | some c => offerTo joiner (.abandon attempt c) s
      | none => s
    if outcomeExcludes outcome then excludePeer joiner s else s

/-- The SERVE-END report and, for a change to EXCLUDED, the PEER-EXCLUDED report after it (R112, R148, R170). `before`
is the state in which the serving still stood. -/
def reportServeEnd (before : State) (outcome : Cause) (slot : Option Nat) (s : State) : State :=
  match before.copy.serving with
  | none => s
  | some (joiner, attempt) =>
    let s := report .serveEnd none 0
      (packFields [(Lane.number joiner, 0), (attempt, 8), (Cause.code outcome, 16)])
      (packFields [(before.copy.tries, 0), (slot.getD 0xFF, 8)]) s
    if outcomeExcludes outcome && exclusionCounts (standing before joiner) then reportExcluded joiner outcome 0 s else s

/-- Serving ended with its reports (R148). -/
def endServing (outcome : Cause) (abandon : Option Cause) (slot : Option Nat) (s : State) : State :=
  reportServeEnd s outcome slot (endServingStep outcome abandon s)

/-! Repair work (R44, R123, R131). -/

/-- The received block dropped and its RECV request withdrawn (R44). -/
def dropReceived (s : State) : State :=
  match s.copy.received with
  | some _ => withdraw .recv { s with copy := { s.copy with received := none } }
  | none => s

/-- A kept FETCH answer's waiting COPY request withdrawn with its slot (R44, R149). -/
def endAnswerJob (s : State) : State :=
  match s.copy.job with
  | some (.answer p) => freeSlot p (withdraw .copy { s with copy := { s.copy with job := none } })
  | _ => s

/-- The repair list emptied, the repair in progress dropped with its received block, and the FETCH answers withdrawn
(R123, R131). -/
def dropRepairWork (s : State) : State :=
  let s := match s.copy.received with
    | some (.fetched _ _) => dropReceived s
    | _ => s
  let s := endAnswerJob s
  { s with copy := { s.copy with repairs := [], repair := none, repairTimer := none, answers := [] } }

/-- The cause that the class action of a bad block hands lane control, if it does (R6). -/
def blockCause (s : State) (b : Nat) : Option (Cause × Option Nat) :=
  match locate s b with
  | some loc =>
    match classCause s loc with
    | .leave c n => some (c, n)
    | _ => none
  | none => none

/-- The cause that the end of a burst will hand lane control in FORMING or MEMBER (R21, R122, R142, R149). -/
def causeAtEnd (s : State) : AtEnd → Option (Cause × Option Nat)
  | .leave c n => some (c, n)
  | .damaged _ b _ => blockCause s b
  | .refuseFetched _ b => blockCause s b
  | _ => none

/-- The cause that a burst in progress has found in FORMING or MEMBER and hands lane control at its end (R21, R122). -/
def foundCause (s : State) : Option (Cause × Option Nat) :=
  match s.port.burst with
  | some b => causeAtEnd s b.atEnd
  | none => none

/-- Whether a burst in progress has found a cause that fails the attempt at its end (R78, R81, R134). -/
def failureFound (s : State) : Bool :=
  match s.port.burst with
  | some b =>
    match b.atEnd with
    | .failAttempt _ => true
    | _ => false
  | none => false

/-- A cause that a burst in progress has found but not yet handed over is overtaken by another cause that lane control
takes first (R122, R128; notes/assumptions/5). -/
def dropFoundCause (s : State) : State :=
  match s.port.burst with
  | some b =>
    match b.atEnd with
    | .leave _ _ => setAtEnd .nothing s
    | .failAttempt _ => setAtEnd .nothing s
    | .damaged _ _ false => setAtEnd .nothing s
    | _ => s
  | none => s

/-! Isolation (R123). -/

/-- The vote unit on leaving FORMING or MEMBER (R115). -/
def emptyVote (s : State) : State :=
  { s with vote := { s.vote with table := [], window := none, supervision := none, grace := none } }

/-- The retry timer's start: the retry delay in units of 100 ms (R124). -/
def retryTicks (s : State) : Nat := ms ((settings s).retryDelay * 100)

/-- A view as a record carries it: lane 0 lowest (R170). -/
def viewWord (v : View) : Word :=
  packFields [(Standing.code v.l0, 0), (Standing.code v.l1, 8), (Standing.code v.l2, 16)]

/-- The ISOLATED report, with the lane state and the view before the step (R123). -/
def reportIsolated (before : State) (cause : Cause) (names : Option Nat) (s : State) : State :=
  offer { makeReport s .isolated names 0 (packFields [(Cause.code cause, 0)]) (viewWord (viewOf before)) with
            state := before.lane.state } s

/-- Isolation, in the ten steps of R123; on leaving STARTING the patrol starts (R71) and the formation window timer is
stopped (R161). -/
def isolate (cause : Cause) (names : Option Nat) (before : State) : State :=
  let s := setLaneState .isolated (dropFoundCause before)
  let s := assertHold s
  let s := emptyVote s
  let s := endServingStep .isolated (some .isolated) s
  let s := dropRepairWork s
  let s := { s with lane := { s.lane with
      attempts := 0
      retry := if 0 < (settings s).attemptLimit then some (retryTicks s) else none
      retryDue := false
      retainedCause := some cause
      formation := none } }
  let s := if before.lane.state = .starting then startPatrol s else s
  let s := reportIsolated before cause names s
  let s := reportServeEnd before .isolated none s
  offerState s

/-- A cause handed to lane control: it isolates the lane in FORMING and MEMBER, and has no effect elsewhere (R122). -/
def leave (cause : Cause) (names : Option Nat) (s : State) : State :=
  if running s then isolate cause names s else s

/-! Restoration attempts (R127, R128, R131, R132, R138). -/

/-- The attempt number after `n`: from 255 to 1 (R131). -/
def nextAttempt (n : Nat) : Nat := if n < 255 then n + 1 else 1

/-- A peer asked with JOIN: it becomes the asked peer and the progress timer is started (R132). -/
def askPeer (l : Lane) (s : State) : State :=
  let s := { s with copy := { s.copy with asked := some l, progress := some (ms (settings s).progressLimit) } }
  match s.map.image with
  | some im => offerTo l (.join s.copy.attempt im.digest) s
  | none => s

/-- The peer chosen for JOIN: the lowest that stands MEMBER, else the lowest last heard as MEMBER, else the lowest
(R132). -/
def chooseSource (s : State) : Option Lane :=
  match (peers s).find? (fun l => decide (standing s l = .member)) with
  | some l => some l
  | none =>
    match (peers s).find? (fun l => decide (PerLane.get s.vote.lastHeard l = some .member)) with
    | some l => some l
    | none => (peers s).head?

/-- The joiner moves to REQUEST (R132). -/
def enterRequest (s : State) : State :=
  let s := { s with copy := { s.copy with phase := .request } }
  match chooseSource s with
  | some l => askPeer l s
  | none => s

/-- The end of a joiner's clear: the patrol starts, and an attempt still in progress moves to REQUEST (R71, R131). -/
def endJoinerClear (s : State) : State :=
  let s := startPatrol { s with clear := { s.clear with pass := none } }
  if s.lane.state = .joining ∧ s.copy.phase = .clear then enterRequest s else s

/-- The start of a joiner's clear: live pairs at clear-state, broken flags clear, patrol restarted, vote table emptied and
counter 0 (R64, R72, R115). -/
def clearStart (s : State) : State :=
  let s := clearLivePairs s
  let s := { s with map := { s.map with status := s.map.status.map (fun r => { r with broken := false }) } }
  let s := restartPatrol s
  { s with vote := { s.vote with table := [], counter := 0, window := none, supervision := none } }

/-- The start of an attempt in the copy engine (R131). A joiner's clear that has no block to write is over at once
(notes/assumptions/17). -/
def startAttempt (s : State) : State :=
  let s := { s with copy := { s.copy with attempt := nextAttempt s.copy.attempt, admittedBy := none } }
  let s := dropReceived (dropRepairWork s)
  let s := clearStart s
  let s := { s with copy := { s.copy with phase := .clear, asked := none, secondAsked := false, expected := none,
                                           verifying := none } }
  let s := beginClear true s
  if (nextToClear s true 0).isNone then endJoinerClear s else s

/-- The lane enters JOINING (R127). -/
def enterJoining (trigger : Trigger) (s : State) : State :=
  let s := setLaneState .joining (dropFoundCause s)
  let s := { s with lane := { s.lane with retry := none, retryDue := false, formation := none } }
  let s := assertHold s
  let s := report .restoreBegin none 0 (packFields [(Trigger.code trigger, 0), (s.lane.attempts, 8)])
    (placeWord (nextAttempt s.copy.attempt)) s
  offerState (startAttempt s)

/-- A member peer heard in STARTING or FORMING: to JOINING, or to ISOLATED with cause SUPPLY (R121, R126). A burst in
progress that has found a cause is taken whole before it: its cause isolates the lane (R41, R72; notes/assumptions/5). -/
def hearMember (s : State) : State :=
  if s.lines.supplyLow then isolate .supply none s
  else
    match foundCause s with
    | some (c, n) => leave c n s
    | none => enterJoining .discovery s

/-- The RESTORE-END report (R127, R128, R138, R170). -/
def reportRestoreEnd (outcome : Cause) (sourceCause : Option Cause) (s : State) : State :=
  report .restoreEnd none 0
    (packFields [(Cause.code outcome, 0), (s.lane.attempts, 8), (causeField sourceCause, 16)])
    (packFields [(s.copy.attempt, 0), (laneField s.copy.asked, 8)]) s

/-- What the copy engine does when an attempt fails (R138): `refused` says that the asked peer refused the JOIN. -/
def endAttempt (cause : Cause) (refused : Bool) (s : State) : State :=
  let s := dropReceived { s with copy := { s.copy with progress := none } }
  let s := match s.copy.asked with
    | some l =>
      if refused || decide (cause = Cause.abandoned) then s else offerTo l (.abandon s.copy.attempt cause) s
    | none => s
  { s with copy := { s.copy with phase := .none, expected := none, verifying := none } }

/-- The failure of an attempt in JOINING (R128); `sourceCause` is the cause of the source's ABANDON (R138). -/
def failAttempt (cause : Cause) (refused : Bool) (sourceCause : Option Cause) (s : State) : State :=
  if s.lane.state = .joining then
    let s := endAttempt cause refused s
    let s := setLaneState .isolated (dropFoundCause s)
    let n := if cause = .supply then s.lane.attempts else if s.lane.attempts < 15 then s.lane.attempts + 1 else 15
    let s := { s with lane := { s.lane with
        attempts := n
        retry := if n < (settings s).attemptLimit then some (retryTicks s) else none
        retainedCause := some cause } }
    offerState (reportRestoreEnd cause sourceCause s)
  else s

/-- The other peer asked for the current attempt, if there is one and it has not been asked; else the attempt fails with
cause NO-SOURCE (R132). -/
def askOther (refused : Bool) (s : State) : State :=
  match if s.copy.secondAsked then none else (peers s).find? (fun l => decide (some l ≠ s.copy.asked)) with
  | some l => askPeer l { s with copy := { s.copy with secondAsked := true } }
  | none => failAttempt .noSource refused none s

/-! Entering MEMBER (R114, R115, R127, R137). -/

/-- The lane enters MEMBER: HOLD released, attempt count 0 (R127). -/
def enterMember (s : State) : State :=
  let s := releaseHold (setLaneState .member s)
  { s with lane := { s.lane with attempts := 0 } }

/-- The view that a joiner takes at admission: ADMIT's, with self MEMBER (R115), and with the lane that a two-lane part lacks
ABSENT whatever ADMIT shows, for no event changes that (R111; notes/assumptions/37). -/
def admittedView (snap : Snapshot) (s : State) : View :=
  PerLane.set (if laneCount s = 2 then PerLane.set snap.view .two .absent else snap.view) (ownLane s) .member

/-- Admission with a verified ADMIT (R13, R115, R127, R137). The RESTORE-END report follows the attempt count's return to 0
and carries that 0 (notes/assumptions/23). -/
def admission (snap : Snapshot) (s : State) : State :=
  let s := match s.copy.asked with
    | some l =>
      offerTo l (.admitted s.copy.attempt snap.cycle)
        { s with copy := { s.copy with admittedBy := some (l, s.copy.attempt) } }
    | none => s
  let s := { s with
    copy := { s.copy with phase := .none, expected := none, verifying := none, progress := none }
    map := { s.map with lock := true }
    vote := { s.vote with
      counter := snap.cycle
      view := some (admittedView snap s)
      lateCount := PerLane.all 0
      lastLate := PerLane.all none
      grace := some (snap.cycle + 3)
      table := []
      window := none
      supervision := some (ms (settings s).cycleLimit) } }
  let s := enterMember (dropFoundCause s)
  offerState (reportRestoreEnd .admitted none s)

end Sys2Proof.Machine
end

