-- ==== Sys2Proof/Machine/Bursts.lean ====
section
/-! DEFINITION. What each client of the store port does in its burst (R42): the burst's changes are made at the grant, as
one event (R41), and what the rules place at the burst's end is left in the burst (notes/assumptions/3). -/

namespace Sys2Proof.Machine

/-- The word addresses of a block, ascending (R1). -/
def blockWords (block : Nat) : List Nat := (List.range 64).map (fun j => 64 * block + j)

/-- A word of a block read: a corrected word is counted, reported and written back (R33), a bad word is counted and
reported. The value is none for a bad word (R19, R76, R78, R142). -/
def scrubWord (client : Client) (loc : Located) (a : Nat) (s : State) : Option Word × State :=
  match readWord s a with
  | .clean v => (some v, s)
  | .corrected v syn wrong => (some v, writeWord a v (noteCorrected client loc a v syn wrong s))
  | .uncorrectable _ syn => (none, noteUncorrectable client loc a syn s)
  | .address _ syn line => (none, noteAddressFault client loc a syn line s)

/-- A run of words read one after another. -/
def scrubWords (client : Client) (loc : Located) : List Nat → State → List (Option Word) × State
  | [], s => ([], s)
  | a :: rest, s =>
    let r := scrubWord client loc a s
    let q := scrubWords client loc rest r.2
    (r.1 :: q.1, q.2)

/-- Words written one after another with one value. -/
def fillWords (v : Word) : List Nat → State → State
  | [], s => s
  | a :: rest, s => fillWords v rest (writeWord a v s)

/-- Words written one after another, from an address upwards. -/
def writeWords : Nat → List Word → State → State
  | _, [], s => s
  | a, v :: rest, s => writeWords (a + 1) rest (writeWord a v s)

/-- Whether every word of a block read was good. -/
def allGood (words : List (Option Word)) : Bool := words.all Option.isSome

/-- A full word stored into its region: without a read in a PLAIN region (R27), else with the old word read first, its
delta applied (R30), or the region's broken flag set over a bad old word (R31, R59, R62). The first component says that
the old word was bad. -/
def storeWord (client : Client) (loc : Located) (a : Nat) (v : Word) (s : State) : Bool × State :=
  if loc.slot.isNone then (false, writeWord a v s)
  else
    match readWord s a with
    | .clean old => (false, applyDelta loc a old v (writeWord a v s))
    | .corrected old syn wrong => (false, applyDelta loc a old v (writeWord a v (noteCorrected client loc a old syn wrong s)))
    | .uncorrectable _ syn => (true, setBroken loc (writeWord a v (noteUncorrectable client loc a syn s)))
    | .address _ syn line => (true, setBroken loc (writeWord a v (noteAddressFault client loc a syn line s)))

/-! PROC (R21-R32). -/

/-- The byte enables that a report of an access carries: those of a read (R22). -/
def readEnables (acc : Access) : Option (BitVec 4) := if acc.isWrite then none else some acc.enables

/-- The ACCESS-REFUSED report (R12, R22, R40, R170). -/
def reportRefused (acc : Access) (reason : RefusalReason) (s : State) : State :=
  offer { makeReport s .accessRefused ((locate s (blockOf acc.word)).map (·.index)) (placeWord acc.word)
            (packFields [(acc.enables.toNat, 0), (bit acc.isWrite, 8), (RefusalReason.code reason, 16)])
            (if acc.isWrite then acc.data else 0) with enables := readEnables acc } s

/-- The reports queued since `before` carry the byte enables of the read that made them (R22; notes/assumptions/34). -/
def carryEnables (acc : Access) (before s : State) : State :=
  { s with log := { s.log with queue := s.log.queue.take before.log.queue.length ++
      (s.log.queue.drop before.log.queue.length).map (fun x => (x.1, { x.2 with enables := readEnables acc })) } }

/-- The answer to a refused access: ERROR, with data zero for a read (R10, R11, R22). -/
def refusedAnswer (acc : Access) : Answer := { data := if acc.isWrite then none else some 0, error := true }

/-- An access refused: reported and answered at once (R10-R12, R21, R22). -/
def refuseAccess (acc : Access) (reason : RefusalReason) (s : State) : State :=
  answerAccess (refusedAnswer acc) (reportRefused acc reason s)

/-- The class action of a PROC read or partial write that found a bad word (R6, R25, R29). -/
def procClassAction (loc : Located) (block : Nat) (s : State) : State :=
  classRepair loc block (setAtEnd (classCause s loc) s)

/-- A processor read (R23-R25). -/
def procRead (loc : Located) (a : Nat) (s : State) : State :=
  match readWord s a with
  | .clean v => setDueAnswer { data := some v, error := false } s
  | .corrected v syn wrong =>
    setDueAnswer { data := some v, error := false } (writeWord a v (noteCorrected .proc loc a v syn wrong s))
  | .uncorrectable raw syn =>
    setDueAnswer { data := some raw, error := true } (procClassAction loc (blockOf a) (noteUncorrectable .proc loc a syn s))
  | .address raw syn line =>
    setDueAnswer { data := some raw, error := true }
      (procClassAction loc (blockOf a) (noteAddressFault .proc loc a syn line s))

/-- What word 1 of the ISOLATED record of a SIGNATURE-BROKEN names (R123; notes/assumptions/20). -/
def brokenNames (loc : Located) : Option Nat := if Config.brokenNamesSlot then loc.slot else some loc.index

/-- A full-word processor write (R27, R30-R32): over a bad old word the lane leaves with SIGNATURE-BROKEN at the end. -/
def procFullWrite (loc : Located) (a : Nat) (v : Word) (s : State) : State :=
  let r := storeWord .proc loc a v s
  let s := handToCopyEngine loc (blockOf a) r.2
  setDueAnswer { data := none, error := false }
    (if r.1 then setAtEnd (.leave .signatureBroken (brokenNames loc)) s else s)

/-- The merge and store of a partial write over a good old word (R28, R30, R32). -/
def procMerge (loc : Located) (acc : Access) (old : Word) (s : State) : State :=
  let v := mergeBytes old acc.data acc.enables
  let s := writeWord acc.word v { s with through := { s.through with merge := some v } }
  setDueAnswer { data := none, error := false }
    (handToCopyEngine loc (blockOf acc.word) (applyDelta loc acc.word old v s))

/-- The PARTIAL-REFUSED report, with the outcome's code 3 or 4 (R29, R40, R170). -/
def reportPartialRefused (loc : Located) (acc : Access) (outcome : Nat) (s : State) : State :=
  report .partialRefused (some loc.index) (placeWord acc.word) (packFields [(acc.enables.toNat, 0), (outcome, 8)])
    acc.data s

/-- A single-byte or halfword processor write (R28, R29). -/
def procPartialWrite (loc : Located) (acc : Access) (s : State) : State :=
  match readWord s acc.word with
  | .clean old => procMerge loc acc old s
  | .corrected old syn wrong => procMerge loc acc old (noteCorrected .proc loc acc.word old syn wrong s)
  | .uncorrectable _ syn =>
    setDueAnswer { data := none, error := true } (procClassAction loc (blockOf acc.word)
      (reportPartialRefused loc acc 3 (noteUncorrectable .proc loc acc.word syn s)))
  | .address _ syn line =>
    setDueAnswer { data := none, error := true } (procClassAction loc (blockOf acc.word)
      (reportPartialRefused loc acc 4 (noteAddressFault .proc loc acc.word syn line s)))

/-- The burst of an access by its form (R22, R26). -/
def procBurst (loc : Located) (acc : Access) (s : State) : State :=
  if acc.isWrite then
    if acc.enables = 0b1111#4 then procFullWrite loc acc.word acc.data s else procPartialWrite loc acc s
  else carryEnables acc s (procRead loc acc.word s)

/-- A PROC grant: a CONSTANT write that finds the lock flag set is refused and the grant ends at once (R11, R21), and any
other access has its burst. -/
def grantProc (s : State) : State :=
  match s.through.access with
  | none => s
  | some acc =>
    match locate s (blockOf acc.word) with
    | none => s
    | some loc =>
      if acc.isWrite ∧ loc.policy.cls = .constant ∧ s.map.lock = true then refuseAccess acc .locked s
      else procBurst loc acc (beginBurst .proc s)

/-! PATROL (R74-R81). -/

/-- The values of a block folded into an accumulator, position after position; a bad word is not folded (R77, R78). -/
def foldRead (acc : Pair) : Nat → List (Option Word) → Pair
  | _, [] => acc
  | p, some w :: rest => foldRead (pairAdd acc p w.toNat) (p + 1) rest
  | p, none :: rest => foldRead acc (p + 1) rest

/-- The consequence of a region-end mismatch, by the lane state (R81). -/
def mismatchEnd (s : State) (slot : Nat) : AtEnd :=
  match s.lane.state with
  | .forming => .leave .signature (some slot)
  | .member => .leave .signature (some slot)
  | .joining => .failAttempt .signature
  | _ => .nothing

/-- The compare at the end of a signature region's walk (R80, R81). -/
def regionCompare (loc : Located) (slot : Nat) (live acc : Pair) (s : State) : State :=
  if live = acc then s
  else
    setAtEnd (mismatchEnd s slot)
      (report .signatureFault (some slot) (placeWord (loc.region.first + loc.region.count - 1))
        (placeWord (sigSub live.a acc.a)) (placeWord (sigSub live.b acc.b)) s)

/-- The region end (R80): no compare for a void walk, a broken region or a region without a slot. -/
def regionEnd (loc : Located) (s : State) : State :=
  match loc.slot, s.patrol.accumulator with
  | some slot, some acc =>
    if s.patrol.void || (statusOf s loc.index).broken then s
    else
      match s.sig.live[slot]? with
      | some live => regionCompare loc slot live acc s
      | none => s
  | _, _ => s

/-- How many regions the region table holds. -/
def regionCount (s : State) : Nat :=
  match s.map.image with
  | some im => im.regions.length
  | none => 0

/-- The cursor advanced past block index `k` of a region: the next block, the next region, or a new pass (R74). -/
def advanceCursor (loc : Located) (k : Nat) (s : State) : State :=
  if k + 1 < loc.region.count then { s with patrol := { s.patrol with cursor := some (loc.index, k + 1) } }
  else
    let s := regionEnd loc s
    if loc.index + 1 < regionCount s then
      regionStart (loc.index + 1) { s with patrol := { s.patrol with cursor := some (loc.index + 1, 0) } }
    else
      regionStart 0 { s with patrol := { s.patrol with cursor := some (0, 0), pass := s.patrol.pass + 1 } }

/-- What a PATROL burst makes of the block it has read: fold, void mark, class action (R77, R78). -/
def dealWithBlock (loc : Located) (k : Nat) (words : List (Option Word)) (s : State) : State :=
  let s :=
    if loc.slot.isSome then
      { s with patrol := { s.patrol with
          accumulator := s.patrol.accumulator.map (fun acc => foldRead acc (64 * k) words)
          void := s.patrol.void || !allGood words } }
    else s
  if allGood words then s else classRepair loc (loc.region.first + k) (setAtEnd (classCause s loc) s)

/-- A PATROL burst (R76): the block at the cursor. -/
def grantPatrol (s0 : State) : State :=
  let s := beginBurst (.background .patrol) s0
  match s.patrol.cursor with
  | none => s
  | some (i, k) =>
    match locateRegion s i with
    | none => s
    | some loc =>
      let r := scrubWords (.background .patrol) loc (blockWords (loc.region.first + k)) s
      advanceCursor loc k (dealWithBlock loc k r.1 r.2)

/-! COPY (R142, R144, R149). -/

/-- The block a restoration's COPY burst reads: the one at the cursor, or the head of the dirty queue once the cursor is
complete (R142, R144). -/
def blockToSend (c : CopyEngine) : Option Nat :=
  match c.cursor with
  | some (.at b) => some b
  | some .complete => c.dirty.head?
  | none => none

/-- The copy cursor after block `b`: the next copyable block above, or complete (R142). -/
def cursorFrom (s : State) (low : Nat) : Cursor :=
  match nextCopyable s low with
  | some b => .at b
  | none => .complete

/-- The cursor moved past the block read, or the block taken off the dirty queue (R142, R144). -/
def takeBlock (b : Nat) (s : State) : State :=
  match s.copy.cursor with
  | some (.at _) => { s with copy := { s.copy with cursor := some (cursorFrom s (b + 1)) } }
  | _ => { s with copy := { s.copy with dirty := s.copy.dirty.tail } }

/-- A COPY burst for the restoration served (R142, R144). -/
def copyForRestore (p : PortId) (s : State) : State :=
  match s.copy.serving, blockToSend s.copy with
  | some (_, attempt), some b =>
    match locate s b with
    | some loc =>
      let r := scrubWords (.background .copy) loc (blockWords b) (takeBlock b s)
      setAtEnd (if allGood r.1 then .sendBlock p attempt b (r.1.filterMap id) else .damaged p b true) r.2
    | none => freeSlot p s
  | _, _ => freeSlot p s

/-- A COPY burst for the FETCH answer kept for a port (R149). -/
def copyForFetch (p : PortId) (s : State) : State :=
  match s.copy.answers.find? (fun x => decide (x.1 = p)) with
  | some (_, b) =>
    let s := { s with copy := { s.copy with answers := s.copy.answers.filter (fun x => decide (x.1 ≠ p)) } }
    match locate s b with
    | some loc =>
      let r := scrubWords (.background .copy) loc (blockWords b) s
      setAtEnd (if allGood r.1 then .sendFetched p b (r.1.filterMap id) else .refuseFetched p b) r.2
    | none => freeSlot p s
  | none => freeSlot p s

/-- A COPY burst: its job is taken at the grant. -/
def grantCopy (s0 : State) : State :=
  let s := beginBurst (.background .copy) { s0 with copy := { s0.copy with job := none } }
  match s0.copy.job with
  | some (.restore p) => copyForRestore p s
  | some (.answer p) => copyForFetch p s
  | none => s

/-! FILL and the log recovery scan (R131, R158, R159). -/

/-- The record check over words 0 to 6: their sum plus one, modulo 2^32 (R159, R164). -/
def recordCheck (words : List Word) : Word := words.foldl (fun acc w => acc + w) 0 + 1

/-- Whether the eight words of a slot, none of them bad, are a valid record (R159). -/
def validRecord (words : List (Option Word)) : Option Nat :=
  let ws := words.filterMap id
  if allGood words ∧ ws.length = 8 ∧ ws.headD 0 ≠ 0 ∧ ws.getD 7 0 = recordCheck (ws.take 7) then some (ws.headD 0).toNat
  else none

/-- The better of two candidates for the newest record: the higher sequence, and of equals the one found first, in the
lower slot (R159). -/
def betterRecord (best : Option (Nat × Nat)) (sequence slot : Nat) : Option (Nat × Nat) :=
  match best with
  | none => some (sequence, slot)
  | some (q, j) => if q < sequence then some (sequence, slot) else some (q, j)

/-- One record slot read by the scan (R159). -/
def scanSlot (loc : Located) (slot : Nat) (s : State) : State :=
  let r := scrubWords (.background .fill) loc ((List.range 8).map (fun j => 64 * loc.region.first + 8 * slot + j)) s
  match validRecord r.1 with
  | some sequence =>
    { r.2 with clear := { r.2.clear with best := betterRecord r.2.clear.best sequence slot, valid := r.2.clear.valid + 1 } }
  | none => r.2

/-- Record slots read one after another (R159). -/
def scanSlots (loc : Located) : List Nat → State → State
  | [], s => s
  | j :: rest, s => scanSlots loc rest (scanSlot loc j s)

/-- The eight slots of a LOG-region block read in place (R159). -/
def scanBlock (loc : Located) (b : Nat) (s : State) : State :=
  scanSlots loc ((List.range 8).map (fun j => 8 * (b - loc.region.first) + j)) s

/-- The treatment of a block by a clear pass (R131, R158). -/
def clearBlock (loc : Located) (b : Nat) (s : State) : State :=
  if loc.policy.cls = .log then
    match s.loader.reset with
    | .power => fillWords 0 (blockWords b) s
    | .pin => scanBlock loc b s
  else fillWords (fillPattern s) (blockWords b) s

/-- A FILL burst (R42, R158). -/
def grantFill (s0 : State) : State :=
  let s := beginBurst (.background .fill) s0
  match s.clear.pass with
  | some { next := some b, joiner := joiner } =>
    let s := { s with clear := { s.clear with pass := some { next := nextToClear s joiner (b + 1), joiner := joiner } } }
    match locate s b with
    | some loc => clearBlock loc b s
    | none => s
  | _ => s

/-! RECV (R134, R152). -/

/-- The words of a received block stored from an address upwards; says whether an old word was bad (R134). -/
def storeWords (loc : Located) : Nat → List Word → State → Bool × State
  | _, [], s => (false, s)
  | a, v :: rest, s =>
    let r := storeWord (.background .recv) loc a v s
    let q := storeWords loc (a + 1) rest r.2
    (r.1 || q.1, q.2)

/-- A RECV burst that writes a received block (R134). -/
def recvBlock (b : Nat) (words : List Word) (s : State) : State :=
  match locate s b with
  | some loc =>
    let r := storeWords loc (64 * b) words s
    if r.1 then setAtEnd (.failAttempt .signatureBroken) r.2 else r.2
  | none => s

/-- A word of the local block re-read for a repair; none marks it bad (R152). -/
def rereadWord (loc : Located) (a : Nat) (s : State) : Option Word × State :=
  match readWord s a with
  | .clean v => (some v, s)
  | .corrected v syn wrong => (some v, writeWord a v (noteCorrected (.background .recv) loc a v syn wrong s))
  | .uncorrectable _ _ => (none, raiseUncorrectable loc s)
  | .address _ _ _ => (none, raiseUncorrectable loc s)

/-- The local block re-read, word after word (R152). -/
def rereadWords (loc : Located) : List Nat → State → List (Option Word) × State
  | [], s => ([], s)
  | a :: rest, s =>
    let r := rereadWord loc a s
    let q := rereadWords loc rest r.2
    (r.1 :: q.1, q.2)

/-- The first position at which a good local word differs from the fetched one, with the local word (R152). -/
def firstDiffering : Nat → List (Option Word) → List Word → Option (Nat × Word)
  | p, some v :: rest, w :: ws => if v = w then firstDiffering (p + 1) rest ws else some (p, v)
  | p, none :: rest, _ :: ws => firstDiffering (p + 1) rest ws
  | _, _, _ => none

/-- A repair write: the repeat table is updated, which may substitute the word, and the fetched value is stored with no
delta (R35, R36, R152, R60; notes/assumptions/32). -/
def repairWord (loc : Located) (a : Nat) (v : Word) (s : State) : State :=
  let upd := repeatUpdate s.checker a v .repair
  reportNews upd.2 loc.index a v .repair (writeWord a v { s with checker := upd.1 })

/-- The bad words of a block written with the fetched values, from an address upwards (R152). -/
def repairWords (loc : Located) : Nat → List (Option Word) → List Word → State → State
  | a, none :: rest, w :: ws, s => repairWords loc (a + 1) rest ws (repairWord loc a w s)
  | a, some _ :: rest, _ :: ws, s => repairWords loc (a + 1) rest ws s
  | _, _, _, s => s

/-- The repair's block off the list and no repair in progress (R151, R152). -/
def closeRepair (b : Nat) (s : State) : State :=
  { s with copy := { s.copy with repairs := s.copy.repairs.filter (fun x => decide (x ≠ b)), repair := none } }

/-- The peer that a repair in progress has asked. -/
def repairPeer (s : State) : Option Lane := s.copy.repair.map (·.asked)

/-- A RECV burst that repairs a CONSTANT block (R152). -/
def recvRepair (b : Nat) (words : List Word) (s : State) : State :=
  match locate s b with
  | some loc =>
    let peer := laneField (repairPeer s)
    let r := rereadWords loc (blockWords b) s
    match firstDiffering 0 r.1 words with
    | some (p, v) =>
      setAtEnd (.leave .repairDisagree none)
        (report .repairDisagree (some loc.index) (placeWord b) (packFields [(peer, 0), (p, 8)]) v (closeRepair b r.2))
    | none =>
      report .repaired (some loc.index) (placeWord b) (packFields [(peer, 0)])
        (placeWord (r.1.filter Option.isNone).length) (closeRepair b (repairWords loc (64 * b) r.1 words r.2))
  | none => s

/-- A RECV burst: the received block is cleared at the grant (R134). -/
def grantRecv (s0 : State) : State :=
  let s := beginBurst (.background .recv) { s0 with copy := { s0.copy with received := none } }
  match s0.copy.received with
  | some (.block b words) => recvBlock b words s
  | some (.fetched b words) => recvRepair b words s
  | none => s

/-! LOG (R164-R166). -/

/-- The eight words of a record (R164, R170). R170 has no place for the byte enables of a read but in the first detail of
ACCESS-REFUSED (notes/assumptions/34). -/
def recordWords (sequence : Nat) (r : Report) : List Word :=
  let words := [placeWord sequence,
    packFields [(RecordKind.code r.kind, 0), (LaneState.code r.state, 8), (r.names.getD 0xFF, 16)],
    r.cycle, r.place, r.detail1, r.detail2, r.pass]
  words ++ [recordCheck words]

/-- A pulse owed to ALERT, begun at once if none is in progress (R166). -/
def owePulse (s : State) : State :=
  let s := { s with log := { s.log with owed := raise255 s.log.owed } }
  if s.log.phase = .idle then
    { s with log := { s.log with phase := .high, pulseTick := some 1 }, lines := { s.lines with alert := true } }
  else s

/-- A LOG burst: the head report leaves the queue and its record is written at the write position, which steps (R165). -/
def grantLog (s0 : State) : State :=
  let s := beginBurst (.background .log) s0
  match s.log.queue, logRegion s with
  | (sequence, r) :: rest, some region =>
    let s := writeWords (64 * region.first + 8 * s.log.position) (recordWords sequence r)
      { s with log := { s.log with queue := rest } }
    owePulse { s with log := { s.log with
      position := if s.log.position + 1 < 8 * region.count then s.log.position + 1 else 0 } }
  | _, _ => s

/-- The burst of a background client. -/
def grantBackground : Background → State → State
  | .log => grantLog
  | .recv => grantRecv
  | .fill => grantFill
  | .copy => grantCopy
  | .patrol => grantPatrol

end Sys2Proof.Machine
end

