-- ==== Sys2Proof/Machine/Arbiter.lean ====
section
/-! DEFINITION. The grant rule of the store port arbiter (R45-R47, R50). -/

namespace Sys2Proof.Machine

/-- The background clients in background order (R46). -/
def backgroundOrder : List Background := [.log, .recv, .fill, .copy, .patrol]

/-- Whether a background request is overdue: its wait age is at or above the background wait limit (R45). -/
def isOverdue (limit : Nat) (p : StorePort) (b : Background) : Bool :=
  match ageOf p b with
  | some n => decide (limit ≤ n)
  | none => false

/-- The overdue clients, in background order (R47). -/
def overdueClients (limit : Nat) (p : StorePort) : List Background := backgroundOrder.filter (isOverdue limit p)

/-- The waiting background clients, in background order. -/
def waitingClients (p : StorePort) : List Background := backgroundOrder.filter (waits p)

/-- Whether a PROC request waits and the catch-up hold is not in force (R50). -/
def procGrantable (s : State) : Bool := s.port.procWaiting && decide (s.copy.catchUp = .none)

/-- Whether some request waits. -/
def someRequest (p : StorePort) : Bool := p.procWaiting || !(waitingClients p).isEmpty

/-- The arbiter's choice (R46): the client granted and the drain after the grant. The after-drain mark is cleared by every
decision. -/
inductive Choice where
  | proc
  | background (b : Background) (drain : Option (List Background))
  | free
  deriving DecidableEq, Repr

/-- The six cases of R46, in order. -/
def choose (s : State) : Choice :=
  match s.port.drain with
  | some (b :: rest) => .background b (some rest)
  | _ =>
    if s.port.afterDrain && procGrantable s then .proc
    else
      match overdueClients (settings s).waitLimit s.port with
      | b :: rest => .background b (some rest)
      | [] =>
        if procGrantable s then .proc
        else
          match waitingClients s.port with
          | b :: _ => .background b none
          | [] => .free

/-- A grant decision carried out: the request granted stops waiting with its age, and its burst begins (R46). -/
def carryOut (c : Choice) (s : State) : State :=
  match c with
  | .proc => grantProc { s with port := { s.port with procWaiting := false, afterDrain := false } }
  | .background b drain =>
    grantBackground b { s with port := { setAge s.port b none with afterDrain := false, drain := drain } }
  | .free => { s with port := { s.port with afterDrain := false } }

/-- The arbiter decides whenever the port is free and a request waits (R46). -/
def arbitrate (s : State) : State :=
  if s.port.burst.isNone && someRequest s.port then carryOut (choose s) s else s

/-- The decisions at the end of a step: a second one follows a PROC grant that ended at once under R11. -/
def settle (s : State) : State := arbitrate (arbitrate s)

end Sys2Proof.Machine
end

