-- ==== Sys2Proof/Machine/Vote.lean ====
section
/-! DEFINITION. The vote table and the vote: voter sets, the comparison slot by slot, its outcome, late lanes, the standing
check and the end of a formation (R101-R109, R114). -/

namespace Sys2Proof.Machine

/-- The lanes of an entry's voter set, in lane order; none before the own mark fixes it (R101, R104). -/
def votersOf (e : VoteEntry) : List Lane :=
  match e.voters with
  | some v => allLanes.filter (fun l => PerLane.get v l)
  | none => []

/-- Whether a lane's pairs are stored in an entry: self's own pairs, or a peer's frame (R105). -/
def isPresent (own : Lane) (e : VoteEntry) (l : Lane) : Bool :=
  if l = own then e.own.isSome else (PerLane.get e.peers l).isSome

/-- The voters that are present (R105). -/
def presentVoters (own : Lane) (e : VoteEntry) : List Lane := (votersOf e).filter (isPresent own e)

/-- The voters that are missing: late for the entry's cycle (R108). -/
def lateVoters (own : Lane) (e : VoteEntry) : List Lane := (votersOf e).filter (fun l => !isPresent own e l)

/-- An entry whose voter set is fixed and whose every voter is present (R105). -/
def isComplete (own : Lane) (e : VoteEntry) : Bool := e.voters.isSome && (lateVoters own e).isEmpty

/-- The part's own slot count, as its snapshot carries it. -/
def ownSlots (e : VoteEntry) : Nat := (e.own.getD []).length

/-- The pairs an entry holds of a lane. -/
def lanePairs (own : Lane) (e : VoteEntry) (l : Lane) : Option (List Pair) :=
  if l = own then e.own else (PerLane.get e.peers l).map (·.pairs)

/-- What a lane is compared by in a slot: its pair, or nothing where its slot count differs from the part's own. With no
slots at all, equal slot counts compare as equal (R106). -/
def slotKey (own : Lane) (e : VoteEntry) (slot : Nat) (l : Lane) : Option Pair :=
  match lanePairs own e l with
  | some ps => if ps.length = ownSlots e then (if ps.isEmpty then some ⟨0, 0⟩ else ps[slot]?) else none
  | none => none

/-- Two lanes are equal in a slot; a lane with nothing to compare by equals no other (R106). -/
def keysEqual (x y : Option Pair) : Bool := x.isSome && decide (x = y)

/-- The result of a slot over the present voters (R106). -/
def slotResult : List (Lane × Option Pair) → SlotResult
  | [(la, a), (lb, b), (lc, c)] =>
    if keysEqual a b && keysEqual b c then .agree
    else if keysEqual a b then .minority lc
    else if keysEqual a c then .minority lb
    else if keysEqual b c then .minority la
    else .noMajority
  | [(_, a), (_, b)] => if keysEqual a b then .agree else .noMajority
  | _ => .unchecked

/-- The results of all slots; a part with no slots takes one result over the slot counts (R106). -/
def slotResults (own : Lane) (e : VoteEntry) : List SlotResult :=
  (List.range (if ownSlots e = 0 then 1 else ownSlots e)).map
    (fun j => slotResult ((presentVoters own e).map (fun l => (l, slotKey own e j l))))

/-- Some slot lacks a majority (R107). -/
def lacksMajority (rs : List SlotResult) : Bool := rs.any (fun r => decide (r = .noMajority))

/-- The lanes that are minority in at least one slot (R107). -/
def minorityLanes (rs : List SlotResult) : List Lane :=
  allLanes.filter (fun l => rs.any (fun r => decide (r = .minority l)))

/-- The first slot that did not agree: a minority or no majority (R108). -/
def firstUnequal (rs : List SlotResult) : Option Nat :=
  rs.findIdx? (fun r => decide (r ≠ .agree) && decide (r ≠ .unchecked))

/-- A set of lanes as bits of a record, lane 0 lowest (R170). -/
def laneBits (ls : List Lane) : Nat := ls.foldl (fun acc l => acc + 2 ^ Lane.number l) 0

/-- Late counts after a vote: a late voter's raised, at most 7; a present peer voter's 0 (R98, R108). -/
def lateCountsAfter (own : Lane) (e : VoteEntry) (counts : PerLane Nat) : PerLane Nat :=
  let counts := (lateVoters own e).foldl
    (fun c l => PerLane.set c l (if PerLane.get c l < 7 then PerLane.get c l + 1 else 7)) counts
  ((presentVoters own e).filter (fun l => decide (l ≠ own))).foldl (fun c l => PerLane.set c l 0) counts

/-- Last late cycles after a vote (R108). -/
def lastLateAfter (own : Lane) (e : VoteEntry) (cycles : PerLane (Option Word)) : PerLane (Option Word) :=
  (lateVoters own e).foldl (fun c l => PerLane.set c l (some e.cycle)) cycles

/-- Why a vote makes a peer EXCLUDED, if it does: NO-MAJORITY for every present peer, else MINORITY, or LATE at the
threshold (R107, R108). -/
def exclusionReason (own : Lane) (e : VoteEntry) (rs : List SlotResult) (threshold : Nat) (counts : PerLane Nat)
    (l : Lane) : Option Cause :=
  if l = own then none
  else if (presentVoters own e).contains l then
    if lacksMajority rs then some .noMajority
    else if (minorityLanes rs).contains l then some .minority
    else none
  else if (lateVoters own e).contains l ∧ threshold ≤ PerLane.get counts l then some .late
  else none

/-- Whether the grace after an admission exempts a cycle from the standing check: 1 to 3 after the admission's (R109). -/
def inGrace (grace : Option Word) (c : Word) : Bool :=
  match grace with
  | some g => decide (1 ≤ (c - (g - 3)).toNat) && decide ((c - (g - 3)).toNat ≤ 3)
  | none => false

/-- The standing check: a present peer's view shows self as other than MEMBER (R109). -/
def notSeen (own : Lane) (grace : Option Word) (e : VoteEntry) : Bool :=
  !e.forming && !inGrace grace e.cycle &&
    (presentVoters own e).any (fun l => match PerLane.get e.peers l with
      | some f => decide (l ≠ own) && decide (PerLane.get f.view own ≠ .member)
      | none => false)

/-- The grace limit after an entry is voted: cleared by a cycle beyond it (R109). -/
def graceAfter (grace : Option Word) (c : Word) : Option Word :=
  match grace with
  | some g => if 1 ≤ (c - g).toNat ∧ (c - g).toNat ≤ 2147483647 then none else some g
  | none => none

/-- The VOTE report (R108, R170). -/
def reportVote (own : Lane) (e : VoteEntry) (rs : List SlotResult) (s : State) : State :=
  report .vote none 0
    (packFields [(laneBits (presentVoters own e), 0), (laneBits (minorityLanes rs), 4),
      (laneBits (lateVoters own e), 8), (bit (lacksMajority rs), 12),
      (bit (!lacksMajority rs && (minorityLanes rs).isEmpty), 13), (bit (decide (e.cycle + 1 = s.vote.counter)), 16)])
    (packFields [((firstUnequal rs).getD 0xFF, 0)]) s

/-- The peers a vote excludes, with their reasons, in lane order. -/
def votedOut (own : Lane) (e : VoteEntry) (rs : List SlotResult) (threshold : Nat) (counts : PerLane Nat) :
    List (Lane × Cause) :=
  allLanes.filterMap (fun l => (exclusionReason own e rs threshold counts l).map (fun c => (l, c)))

/-- Peers made EXCLUDED by a vote, in lane order (R107, R108). -/
def excludeAll : List (Lane × Cause) → State → State
  | [], s => s
  | x :: rest, s => excludeAll rest (excludePeer x.1 s)

/-- The PEER-EXCLUDED reports of a vote, for each change to EXCLUDED, in lane order (R107, R112). `before` is the state
before the vote. -/
def reportAllExcluded (before : State) : List (Lane × Cause) → State → State
  | [], s => s
  | x :: rest, s =>
    reportAllExcluded before rest
      (if exclusionCounts (standing before x.1) then reportExcluded x.1 x.2 0 s else s)

/-- Formation partners made MEMBER with late count 0 (R114). -/
def makeMembers : List Lane → State → State
  | [], s => s
  | l :: rest, s =>
    makeMembers rest
      (setStanding l .member { s with vote := { s.vote with lateCount := PerLane.set s.vote.lateCount l 0 } })

/-- The present peer voters that a formation vote did not find faulty (R114). -/
def partnersOf (own : Lane) (e : VoteEntry) (rs : List SlotResult) : List Lane :=
  (presentVoters own e).filter (fun l => decide (l ≠ own) && !(minorityLanes rs).contains l)

/-- The end of a formation that does not put self out (R114): self and the present peer voters not found faulty are
MEMBER. -/
def endFormation (own : Lane) (e : VoteEntry) (rs : List SlotResult) (s : State) : State :=
  if s.lane.state = .forming then
    offerState (makeMembers (partnersOf own e rs) (enterMember s))
  else s

/-- What a vote hands on once its reports are made: one cause to lane control, NO-MAJORITY before MINORITY before
NOT-SEEN, or the end of a formation (R107, R109, R114). -/
def handOnVote (own : Lane) (grace : Option Word) (e : VoteEntry) (rs : List SlotResult) (s : State) : State :=
  if lacksMajority rs then leave .noMajority none s
  else if (minorityLanes rs).contains own then leave .minority none s
  else if e.forming then endFormation own e rs s
  else if notSeen own grace e then leave .notSeen none s
  else s

/-- An entry voted (R105-R109): timer stopped, entry removed, counts and standings changed, reports made, consequences
handed on. -/
def castVote (e : VoteEntry) (s0 : State) : State :=
  let own := ownLane s0
  let rs := slotResults own e
  let counts := lateCountsAfter own e s0.vote.lateCount
  let out := votedOut own e rs (settings s0).lateThreshold counts
  let s := { s0 with vote := { s0.vote with
      window := none
      table := s0.vote.table.filter (fun x => decide (x.cycle ≠ e.cycle))
      lateCount := counts
      lastLate := lastLateAfter own e s0.vote.lastLate
      grace := graceAfter s0.vote.grace e.cycle } }
  let s := excludeAll out s
  let clean := !lacksMajority rs && (minorityLanes rs).isEmpty && (lateVoters own e).isEmpty
  let s := if clean then s else reportVote own e rs s
  let s := reportAllExcluded s0 out s
  handOnVote own s0.vote.grace e rs s

/-- The entry that is complete is voted in the same step (R102, R104, R105). -/
def voteIfComplete (s : State) : State :=
  match s.vote.table.find? (isComplete (ownLane s)) with
  | some e => castVote e s
  | none => s

/-- The entry whose window runs. -/
def windowEntry (s : State) : Option VoteEntry := s.vote.table.find? (fun e => e.window)

/-- An entry created by an early arrival (R101). -/
def earlyEntry (c : Word) : VoteEntry :=
  { cycle := c, own := none, voters := none, peers := PerLane.all none, window := false, forming := false }

/-- The entry for a cycle changed, created first if there is none. -/
def updateEntry (c : Word) (f : VoteEntry → VoteEntry) (table : List VoteEntry) : List VoteEntry :=
  if table.any (fun e => decide (e.cycle = c)) then table.map (fun e => if e.cycle = c then f e else e)
  else table ++ [f (earlyEntry c)]

/-- The voter set that the own mark fixes (R104). -/
def votersAtMark (s : State) : PerLane Bool :=
  let votes := fun l =>
    if l = ownLane s then true
    else if s.lane.state = .forming then
      (peers s).contains l && decide (PerLane.get s.vote.lastHeard l = some .forming)
    else decide (standing s l = .member)
  ⟨votes .zero, votes .one, votes .two⟩

/-- A formation partner: a peer voter of an unvoted entry marked in FORMING (R113). -/
def isPartner (s : State) (l : Lane) : Bool :=
  s.vote.table.any (fun e => e.forming && decide (l ≠ ownLane s) && (votersOf e).contains l)

end Sys2Proof.Machine
end

