-- ==== Sys2Proof/Machine/BurstEnd.lean ====
section
/-! DEFINITION. The end of a burst, the end of the clear pass in STARTING, and the commands of the store port: accesses,
requests, ages, the pace timer (R21, R41-R50, R71-R73, R131, R142, R158-R160). -/

namespace Sys2Proof.Machine

/-- The outcome of every command: a next state, the arbiter having decided (R46). -/
def done (s : State) : Host.Outcome State Fault Refusal := .next (settle s)

/-! The end of the clear pass in STARTING (R160). -/

/-- Where the log recovery scan leaves the writer (R159). -/
def scanResult (best : Option (Nat × Nat)) (slots : Nat) : Option Nat × Nat :=
  match best with
  | none => (some 1, 0)
  | some (sequence, slot) => (sequenceAfter sequence, if slot + 1 < slots then slot + 1 else 0)

/-- How many record slots the LOG region has (R165). -/
def recordSlots (s : State) : Nat :=
  match logRegion s with
  | some r => 8 * r.count
  | none => 0

/-- The fault log writer started with what the scan fixed (R160 step 1). -/
def startWriter (s : State) : State :=
  { s with log := { s.log with
      running := true
      next := (scanResult s.clear.best (recordSlots s)).1
      position := (scanResult s.clear.best (recordSlots s)).2 } }

/-- The STARTED report (R160 step 2, R170). -/
def reportStarted (s : State) : State :=
  report .started none 0
    (packFields [(ResetKind.code s.loader.reset, 0), (LaneState.code s.lane.retainedState, 8),
      (causeField s.lane.retainedCause, 16), (bit s.lane.retainedServing, 24)])
    (placeWord s.clear.valid) s

/-- The marks of the clamped settings as a number, the first setting in bit 0 (R168). -/
def clampMarks : List Bool → Nat
  | [] => 0
  | b :: rest => bit b + 2 * clampMarks rest

/-- The IMAGE-CLAMPED report, if any setting was clamped (R156, R160 step 3). -/
def reportClamped (s : State) : State :=
  match s.map.image with
  | some im =>
    if im.clamped.any id then
      report .imageClamped none 0 (placeWord (im.clamped.filter id).length) (placeWord (clampMarks im.clamped)) s
    else s
  | none => s

/-- Whether a peer was last heard as MEMBER (R121). -/
def memberHeard (s : State) : Bool := (peers s).any (fun l => decide (PerLane.get s.vote.lastHeard l = some .member))

/-- The step that ends the clear pass in STARTING (R160). -/
def endStartingClear (s : State) : State :=
  let s := reportStarted (startWriter { s with clear := { s.clear with pass := none } })
  let s := offerState (reportClamped s)
  let s := { s with lane := { s.lane with formation := some (ms (settings s).formationWindow) } }
  if memberHeard s then hearMember s else s

/-! The end of a burst. -/

/-- The class action taken after a COPY burst that found a bad word (R6, R142, R149). -/
def copyClassAction (b : Nat) (s : State) : State :=
  match blockCause s b with
  | some (c, n) => leave c n s
  | none =>
    match locate s b with
    | some loc => classRepair loc b s
    | none => s

/-- What falls due when a burst ends. -/
def endWork (e : AtEnd) (s : State) : State :=
  match e with
  | .nothing => s
  | .leave c n => leave c n s
  | .failAttempt c => failAttempt c false none s
  | .sendBlock p attempt b words => fillSlot p (.block attempt b words) s
  | .damaged p b true => copyClassAction b (endServing .damaged (some .damaged) none (freeSlot p s))
  | .damaged _ b false => copyClassAction b s
  | .sendFetched p b words => fillSlot p (.fetched b words) s
  | .refuseFetched p b => copyClassAction b (offerControl p (.refuse (.fetch b) .damaged) (freeSlot p s))

/-- The clear pass goes on or ends with a FILL burst (R43, R131, R158). -/
def fillGoesOn (s : State) : State :=
  match s.clear.pass with
  | some { next := some _, joiner := _ } => place .fill s
  | some { next := none, joiner := true } => endJoinerClear s
  | some { next := none, joiner := false } => endStartingClear s
  | none => s

/-- The port released; the drain ends with its last member's burst (R41, R47). -/
def releasePort (s : State) : State :=
  if s.port.drain = some [] then { s with port := { s.port with burst := none, drain := none, afterDrain := true } }
  else { s with port := { s.port with burst := none } }

/-- The end of burst `b`, in the order of notes/assumptions/4: release, answer, work due, vote, clear pass, LOG request. -/
def endBurst (b : Burst) (s : State) : State :=
  let s := releasePort s
  let s := match b.answer with
    | some a => answerAccess a s
    | none => s
  let s := voteIfComplete (endWork b.atEnd s)
  let s := if b.owner = .background .fill then fillGoesOn s else s
  placeLog s

/-- BURST_END (R46); nothing holds the port otherwise (notes/assumptions/2). -/
def execBurstEnd (s : State) : Host.Outcome State Fault Refusal :=
  match s.port.burst with
  | some b => done (endBurst b s)
  | none => .next s

/-! Accesses and requests. -/

/-- Whether the through path can take an access: HOLD released and idle (R21, R52). -/
def takesAccess (s : State) : Bool := !s.lines.hold && s.through.access.isNone

/-- An access taken: refused at once, or held with its PROC request placed (R21). -/
def takeAccess (acc : Access) (s : State) : State :=
  match refusalAtTaking s acc with
  | some reason => refuseAccess acc reason s
  | none =>
    { s with lines := { s.lines with answer := none }, through := { s.through with access := some acc },
             port := { s.port with procWaiting := true } }

/-- ACCESS_TAKEN (R21). -/
def execAccessTaken (address : Word) (isWrite : Bool) (enables : BitVec 4) (data : Word) (s : State) :
    Host.Outcome State Fault Refusal :=
  if takesAccess s then
    done (takeAccess { word := wordAddress address, isWrite := isWrite, enables := enables, data := data } s)
  else .next s

/-- REQUEST_OVERDUE (R45): the age of a waiting request reaches the background wait limit. -/
def execRequestOverdue (client : Background) (s : State) : Host.Outcome State Fault Refusal :=
  match ageOf s.port client with
  | some n => done { s with port := setAge s.port client (some (max n (settings s).waitLimit)) }
  | none => .next s

/-- PACE_TIMER_EXPIRY (R73). -/
def execPaceTimerExpiry (s : State) : Host.Outcome State Fault Refusal :=
  if s.patrol.running && s.patrol.pace.isSome then
    done (place .patrol { s with patrol := { s.patrol with pace := some (settings s).patrolInterval } })
  else .next s

/-- The COPY request that is due, if one is: a FETCH answer whose port has room, the older first, else the block of the
restoration served (R142, R144, R149; notes/assumptions/14). -/
def copyDue (s : State) : Option CopyJob :=
  if waits s.port .copy || holdsPort s.port (.background .copy) then none
  else
    match s.copy.answers.find? (fun x => bulkFree (getPort s x.1)) with
    | some x => some (.answer x.1)
    | none =>
      match s.copy.serving, blockToSend s.copy with
      | some (joiner, _), some _ =>
        match portTo s joiner with
        | some p => if bulkFree (getPort s p) then some (.restore p) else none
        | none => none
      | _, _ => none

/-- The port a COPY job is for. -/
def CopyJob.port : CopyJob → PortId
  | .answer p => p
  | .restore p => p

/-- COPY_REQUEST (R142): the slot is reserved as the request is placed. -/
def execCopyRequest (s : State) : Host.Outcome State Fault Refusal :=
  match copyDue s with
  | some job => done (place .copy (reserveSlot (CopyJob.port job) { s with copy := { s.copy with job := some job } }))
  | none => .next s

/-! ALERT (R166). -/

/-- ALERT_HIGH_TICK_END (R166). -/
def execAlertHighTickEnd (s : State) : Host.Outcome State Fault Refusal :=
  if s.log.phase = .high then
    done { s with lines := { s.lines with alert := false }, log := { s.log with phase := .low, pulseTick := some 1 } }
  else .next s

/-- ALERT_PULSE_END (R166). -/
def execAlertPulseEnd (s : State) : Host.Outcome State Fault Refusal :=
  if s.log.phase = .low then
    if 1 < s.log.owed then
      done { s with lines := { s.lines with alert := true },
                    log := { s.log with owed := s.log.owed - 1, phase := .high, pulseTick := some 1 } }
    else done { s with log := { s.log with owed := s.log.owed - 1, phase := .idle, pulseTick := none } }
  else .next s

end Sys2Proof.Machine
end

