-- ==== Sys2Proof/Machine/Marks.lean ====
section
/-! DEFINITION. The own mark and the two timers of the vote unit (R65, R99, R100, R105, R110, R145). -/

namespace Sys2Proof.Machine

/-- Step 1 of R100: the own cycle counter raised, wrapping. -/
def raiseCounter (s : State) : State := { s with vote := { s.vote with counter := s.vote.counter + 1 } }

/-- Step 2 of R100: an earlier entry whose window runs is voted. -/
def closeEarlier (s : State) : State :=
  match windowEntry s with
  | some e => castVote e s
  | none => s

/-- The vote table with the entry for the own cycle created or completed: own pairs, voter set, and whether the mark was
taken in FORMING (R100 step 3, R104). -/
def markedTable (s : State) : List VoteEntry :=
  updateEntry s.vote.counter
    (fun e => { e with own := some s.sig.live, voters := some (votersAtMark s),
                       forming := decide (s.lane.state = .forming) })
    s.vote.table

/-- The snapshot (R65), the lock flag set by a mark in FORMING (R13, R100 step 7; notes/assumptions/11), and the entry for the mark's
cycle (R100 step 3). -/
def markEntry (s : State) : State :=
  { s with
    sig := { s.sig with snapCycle := s.vote.counter, snap := s.sig.live }
    map := { s.map with lock := s.map.lock || decide (s.lane.state = .forming) }
    vote := { s.vote with table := markedTable s } }

/-- The SIGNATURE frame offered to both links (R100 step 4). -/
def sendSignature (s : State) : State :=
  offerBoth (.signature s.vote.counter s.lane.state (viewOf s) s.sig.snap) s

/-- The entry for the own cycle. -/
def ownEntry (s : State) : Option VoteEntry := s.vote.table.find? (fun e => decide (e.cycle = s.vote.counter))

/-- Step 5 of R100: the entry is voted if complete, else its window runs. -/
def voteOrWait (s : State) : State :=
  match ownEntry s with
  | some e =>
    if isComplete (ownLane s) e then castVote e s
    else
      { s with vote := { s.vote with
          window := some (ms (settings s).voteWindow)
          table := updateEntry s.vote.counter (fun e => { e with window := true }) s.vote.table } }
  | none => s

/-- Step 6 of R100: the cycle-supervision timer started afresh, in a lane the vote has left in FORMING or MEMBER. -/
def restartSupervision (s : State) : State :=
  if running s then { s with vote := { s.vote with supervision := some (ms (settings s).cycleLimit) } } else s

/-- Whether a catch-up hold begins at this mark (R145). -/
def holdBegins (s : State) : Bool :=
  s.copy.serving.isSome && decide (s.copy.cursor = some .complete) && decide (s.copy.catchUp = .none) &&
    decide (s.copy.dirty.length ≤ (settings s).catchUpThreshold)

/-- The mark handed to the copy engine (R145). -/
def markCopyEngine (s : State) : State :=
  if holdBegins s then
    { s with copy := { s.copy with
        catchUp := .hold
        kept := some { cycle := s.sig.snapCycle, view := viewOf s, pairs := s.sig.snap }
        holdTimer := some (ms (settings s).holdLimit) } }
  else s

/-- Steps 3 to 7 of R100 and the hand-over to the copy engine. -/
def completeMark (s : State) : State := markCopyEngine (restartSupervision (voteOrWait (sendSignature (markEntry s))))

/-- An own mark (R100). -/
def takeMark (s : State) : State :=
  let s := closeEarlier (raiseCounter s)
  if running s then completeMark s else s

/-- Whether an edge on CYCLE is a mark (R99): in FORMING and MEMBER. An edge that falls between the grant of a burst which
found a cause and the burst's end is taken after the release (R41), and so in ISOLATED (R62; notes/assumptions/5). -/
def marksCycle (s : State) : Bool := running s && (foundCause s).isNone

/-- OWN_MARK (R100): any other edge is ignored (R99). -/
def execOwnMark (s : State) : Host.Outcome State Fault Refusal :=
  if marksCycle s then done (takeMark s) else .next s

/-- VOTE_WINDOW_EXPIRY (R105). Between the grant of a burst that found a cause and the burst's end the vote is taken in
the lane that still runs (notes/assumptions/5). -/
def execVoteWindowExpiry (s : State) : Host.Outcome State Fault Refusal :=
  match s.vote.window, windowEntry s with
  | some _, some e => done (castVote e s)
  | _, _ => .next s

/-- CYCLE_SUPERVISION_EXPIRY (R110). -/
def execCycleSupervisionExpiry (s : State) : Host.Outcome State Fault Refusal :=
  if s.vote.supervision.isSome && running s then done (leave .stall none s) else .next s

end Sys2Proof.Machine
end

