-- ==== Sys2Proof/Machine/Restoration.lean ====
section
/-! DEFINITION. The timers and the spontaneous steps of the copy engine: the waits of a joiner and of a source, the
catch-up hold, ADMIT, its verification, and constant repair (R132, R136, R137, R146, R147, R151). -/

namespace Sys2Proof.Machine

/-! The progress timer and the hold timer. -/

/-- Serving ended with ABANDON, the joiner EXCLUDED; an entry it leaves complete is voted (R104, R148). -/
def giveUpServing (cause : Cause) (s : State) : State := voteIfComplete (endServing cause (some cause) none s)

/-- Silence in REQUEST: ABANDON with cause SILENT, then the other peer is asked (R132; notes/assumptions/31). -/
def silentInRequest (s : State) : State :=
  let s := match s.copy.asked with
    | some l => offerTo l (.abandon s.copy.attempt .silent) s
    | none => s
  askOther false s

/-- The expiry of the progress timer, by joiner phase and catch-up phase (R132, R136, R147). -/
def progressExpires (s : State) : State :=
  match s.copy.phase with
  | .request => silentInRequest s
  | .copy => failAttempt .silent false none s
  | .verify => failAttempt .silent false none s
  | _ => if s.copy.catchUp = .answer then giveUpServing .noAdmit s else s

/-- PROGRESS_TIMER_EXPIRY (R132). -/
def execProgressTimerExpiry (s : State) : Host.Outcome State Fault Refusal :=
  if s.copy.progress.isSome then done (progressExpires { s with copy := { s.copy with progress := none } })
  else .next s

/-- The hold has run out in HOLD: PROC is granted again, the try counted, and serving ends at the limit (R146). -/
def holdRunsOut (s : State) : State :=
  let s := { s with copy := { s.copy with catchUp := .none, kept := none, tries := s.copy.tries + 1 } }
  if (settings s).tryLimit ≤ s.copy.tries then giveUpServing .catchUp s else s

/-- The expiry of the hold timer (R146, R147). -/
def holdExpires (s : State) : State :=
  match s.copy.catchUp with
  | .hold => holdRunsOut s
  | .answer => giveUpServing .noAdmit s
  | .none => s

/-- HOLD_TIMER_EXPIRY (R146). -/
def execHoldTimerExpiry (s : State) : Host.Outcome State Fault Refusal :=
  if s.copy.holdTimer.isSome then done (holdExpires { s with copy := { s.copy with holdTimer := none } })
  else .next s

/-! ADMIT (R137, R146). -/

/-- Whether a COPY request for the restoration waits. -/
def restoreJobWaits (s : State) : Bool :=
  match s.copy.job with
  | some (.restore _) => true
  | _ => false

/-- Whether ADMIT may be offered, but for room in the bulk queue (R146). -/
def admitReady (s : State) : Bool :=
  decide (s.copy.catchUp = .hold) && s.copy.dirty.isEmpty && !restoreJobWaits s &&
    !holdsPort s.port (.background .copy)

/-- The port, attempt and snapshot of the ADMIT that is due, if one is (R146). -/
def admitDue (s : State) : Option (PortId × Nat × Snapshot) :=
  if admitReady s then
    match s.copy.serving, s.copy.kept with
    | some (joiner, attempt), some snap =>
      match portTo s joiner with
      | some p => if bulkFree (getPort s p) then some (p, attempt, snap) else none
      | none => none
    | _, _ => none
  else none

/-- ADMIT offered, and the wait for the answer begun (R146). -/
def offerAdmit (p : PortId) (attempt : Nat) (snap : Snapshot) (s : State) : State :=
  let s := offerBulk p (.admitSnapshot attempt snap.cycle snap.view snap.pairs) s
  { s with copy := { s.copy with catchUp := .answer, progress := some (ms (settings s).progressLimit) } }

/-- ADMIT_OFFER (R146). -/
def execAdmitOffer (s : State) : Host.Outcome State Fault Refusal :=
  match admitDue s with
  | some (p, attempt, snap) => done (offerAdmit p attempt snap s)
  | none => .next s

/-- The lowest slot in which two lists of pairs are unequal; with different counts, the lower count at the latest
(R137). -/
def firstUnequalSlot : Nat → List Pair → List Pair → Option Nat
  | _, [], [] => none
  | j, p :: ps, q :: qs => if p = q then firstUnequalSlot (j + 1) ps qs else some j
  | j, _, _ => some j

/-- Whether an ADMIT is to be verified now: in VERIFY with no received block whose RECV burst has not ended (R137). A
burst in progress that has found a cause is taken whole before the comparison and fails the attempt at its end (R41, R81;
notes/assumptions/5). -/
def verifyDue (s : State) : Option Snapshot :=
  if decide (s.lane.state = .joining) && decide (s.copy.phase = .verify) && s.copy.received.isNone &&
      !holdsPort s.port (.background .recv) && !failureFound s then s.copy.verifying
  else none

/-- MISMATCH offered to the source and the attempt failed (R137, R138). -/
def mismatchFound (slot : Nat) (s : State) : State :=
  let s := match s.copy.asked with
    | some l => offerTo l (.mismatch s.copy.attempt slot) s
    | none => s
  failAttempt .mismatch false none s

/-- The comparison of ADMIT's pairs with the live pairs and its consequence (R137). -/
def verifyAdmit (snap : Snapshot) (s : State) : State :=
  match firstUnequalSlot 0 s.sig.live snap.pairs with
  | none => admission snap s
  | some slot => mismatchFound slot s

/-- ADMIT_VERIFY (R137). -/
def execAdmitVerify (s : State) : Host.Outcome State Fault Refusal :=
  match verifyDue s with
  | some snap => done (verifyAdmit snap s)
  | none => .next s

/-! Constant repair (R151). -/

/-- The peers that may be asked for a block, in ascending order (R151). -/
def repairPeers (s : State) : List Lane :=
  match s.lane.state with
  | .member => (peers s).filter (fun l => decide (standing s l = .member))
  | .forming => (peers s).filter (fun l => decide (PerLane.get s.vote.lastHeard l = some .forming))
  | _ => []

/-- A peer asked for a block with FETCH, the repair timer started (R151). -/
def askRepair (b : Nat) (l : Lane) (other : Bool) (s : State) : State :=
  offerTo l (.fetch b) { s with copy := { s.copy with
    repair := some { block := b, asked := l, otherAsked := other, taken := false }
    repairTimer := some (ms (settings s).progressLimit) } }

/-- No peer is left to ask: the block leaves the list with a REPAIR-FAILED report (R151, R170). -/
def failRepair (b : Nat) (last : Option Lane) (reason : RepairReason) (s : State) : State :=
  report .repairFailed ((locate s b).map (·.index)) (placeWord b) (packFields [(laneField last, 0)])
    (placeWord (RepairReason.code reason)) (closeRepair b { s with copy := { s.copy with repairTimer := none } })

/-- The other peer asked for the block of the repair in progress, or the repair failed (R151; notes/assumptions/30). -/
def repairNext (r : Repair) (reason : RepairReason) (s : State) : State :=
  match if r.otherAsked then none else (repairPeers s).find? (fun l => decide (l ≠ r.asked)) with
  | some l => askRepair r.block l true s
  | none => failRepair r.block (some r.asked) reason s

/-- The block whose repair is to be started, if the four conditions of R151 hold. While a burst in progress has found a
cause that isolates the lane at its end, such as REPAIR-DISAGREE, none is started: the start is taken after the burst
(R41, R122, R152; notes/assumptions/5). -/
def repairDue (s : State) : Option Nat :=
  if running s && s.map.lock && s.copy.repair.isNone && (foundCause s).isNone then s.copy.repairs.head? else none

/-- A repair started (R151). -/
def startRepair (b : Nat) (s : State) : State :=
  match repairPeers s with
  | l :: _ => askRepair b l false s
  | [] => failRepair b none .noPeer s

/-- REPAIR_START (R151). -/
def execRepairStart (s : State) : Host.Outcome State Fault Refusal :=
  match repairDue s with
  | some b => done (startRepair b s)
  | none => .next s

/-- REPAIR_TIMER_EXPIRY (R151). -/
def execRepairTimerExpiry (s : State) : Host.Outcome State Fault Refusal :=
  match s.copy.repairTimer, s.copy.repair with
  | some _, some r => done (repairNext r .silent s)
  | _, _ => .next s

end Sys2Proof.Machine
end

