-- ==== Sys2Proof/Machine/Deliveries.lean ====
section
/-! DEFINITION. The fourteen deliveries: the head frame of a port's receive queue taken by its consumer (R92, R96, R97).
A delivery whose kind is not the head frame's does nothing (notes/assumptions/2). -/

namespace Sys2Proof.Machine

/-! Arrival. -/

/-- In COPY and VERIFY every frame from the source's lane restarts the progress timer (R136). -/
def sourceHeard (l : Lane) (s : State) : State :=
  if s.lane.state = .joining ∧ (s.copy.phase = .copy ∨ s.copy.phase = .verify) ∧ s.copy.asked = some l then
    { s with copy := { s.copy with progress := some (ms (settings s).progressLimit) } }
  else s

/-- A frame leaves the receive queue and has reached its consumer (R92, R136). -/
def arrive (p : PortId) (rest : List Frame) (l : Lane) (s : State) : State :=
  sourceHeard l (setPort s p { getPort s p with received := rest })

/-- The lane is in JOINING and has asked this lane for this attempt, in a phase. -/
def currentAttempt (phase : JoinPhase) (l : Lane) (attempt : Nat) (s : State) : Bool :=
  decide (s.lane.state = .joining) && decide (s.copy.phase = phase) && decide (s.copy.asked = some l) &&
    decide (s.copy.attempt = attempt)

/-! SIGNATURE and STATE (R102, R103, R112, R113, R121). -/

/-- The last heard state set (R113). -/
def hear (l : Lane) (st : LaneState) (s : State) : State :=
  { s with vote := { s.vote with lastHeard := PerLane.set s.vote.lastHeard l (some st) } }

/-- A peer that stands MEMBER and carries another state becomes EXCLUDED with reason STATE (R112). -/
def excludeByState (l : Lane) (st : LaneState) (carried : Word) (s : State) : State :=
  if standing s l = .member ∧ st ≠ .member then reportExcluded l .state carried (excludePeer l s) else s

/-- Whether a member peer heard now counts for discovery: in the formation window of STARTING, or in FORMING
(R121, R161). -/
def discovers (s : State) : Bool :=
  (decide (s.lane.state = .starting) && s.lane.formation.isSome) || decide (s.lane.state = .forming)

/-- A frame carrying MEMBER heard by lane control; a formation partner's does not count (R113, R121). -/
def discover (st : LaneState) (partner : Bool) (s : State) : State :=
  if decide (st = .member) && !partner && discovers s then hearMember s else s

/-- Where a SIGNATURE's cycle lies (R102). -/
inductive Arrival where
  | current
  | early
  | skewed
  | late
  deriving DecidableEq, Repr

/-- The classification of a SIGNATURE by the offset of its cycle from the own counter (R98, R102). -/
def classifyArrival (s : State) (c : Word) : Arrival :=
  let offset := (c - s.vote.counter).toNat
  if offset = 0 then
    match ownEntry s with
    | some e => if e.window then .current else .late
    | none => .late
  else if offset ≤ 3 then .early
  else if offset ≤ 2147483647 then .skewed
  else .late

/-- A frame stored in the entry for its cycle (R102). -/
def storeFrame (l : Lane) (c : Word) (f : PeerFrame) (s : State) : State :=
  { s with vote := { s.vote with table := updateEntry c (fun e => { e with peers := PerLane.set e.peers l (some f) }) s.vote.table } }

/-- The SKEW report (R102, R170). -/
def reportSkew (l : Lane) (c : Word) (s : State) : State :=
  report .skew none 0 (packFields [(Lane.number l, 0)]) c s

/-- The PEER-LATE report, for a peer counted late for this very cycle (R103, R170). -/
def reportPeerLate (l : Lane) (c : Word) (s : State) : State :=
  if PerLane.get s.vote.lastLate l = some c then
    report .peerLate none 0 (packFields [(Lane.number l, 0), (PerLane.get s.vote.lateCount l, 8)]) c s
  else s

/-- What the vote unit does with a SIGNATURE in FORMING and MEMBER (R102, R103). -/
def takeSignature (l : Lane) (c : Word) (f : PeerFrame) (s : State) : State :=
  match classifyArrival s c with
  | .current => storeFrame l c f s
  | .early => storeFrame l c f s
  | .skewed => reportSkew l c s
  | .late => reportPeerLate l c s

/-- A SIGNATURE taken by the vote unit and lane control (R102, R112, R121; notes/assumptions/12). One that is late or
skewed excludes its sender too, by R112 (notes/assumptions/12). -/
def signatureArrives (l : Lane) (c : Word) (f : PeerFrame) (s : State) : State :=
  let s := hear l f.state s
  let partner := isPartner s l
  let s := if running s then voteIfComplete (takeSignature l c f (excludeByState l f.state c s)) else s
  discover f.state partner s

/-- SIGNATURE_DELIVERY (R102). -/
def execSignatureDelivery (p : PortId) (s : State) : Host.Outcome State Fault Refusal :=
  match (getPort s p).received, (getPort s p).peer with
  | .signature c st view pairs :: rest, some l =>
    done (signatureArrives l c { pairs := pairs, state := st, view := view } (arrive p rest l s))
  | _, _ => .next s

/-- A STATE taken by the vote unit and lane control (R112, R113, R121). -/
def stateArrives (l : Lane) (st : LaneState) (counter : Word) (s : State) : State :=
  let s := hear l st s
  let partner := isPartner s l
  discover st partner (voteIfComplete (excludeByState l st counter s))

/-- STATE_DELIVERY (R112). -/
def execStateDelivery (p : PortId) (s : State) : Host.Outcome State Fault Refusal :=
  match (getPort s p).received, (getPort s p).peer with
  | .state st counter :: rest, some l => done (stateArrives l st counter (arrive p rest l s))
  | _, _ => .next s

/-- Whether a NOTICE finds its use in the lane state: in every one by R112, in every one but STARTING by R157. Which of the
two rules holds in STARTING is left free (notes/assumptions/33). -/
def takesNotice (s : State) : Bool := decide (s.lane.state ≠ .starting) || Config.noticeTakenInStarting

/-- A NOTICE (R112): no change for self or a lane already MEMBER, and any other lane becomes MEMBER, one that ADMIT's view
showed as ABSENT too; lane 2 of two lanes alone stays as it is (R111). -/
def noticeArrives (joiner : Lane) (cycle : Word) (s : State) : State :=
  if takesNotice s = false ∨ joiner = ownLane s ∨ standing s joiner = .member ∨ isAbsentLane s joiner = true then s
  else voteIfComplete (memberByFrame joiner cycle s)

/-- NOTICE_DELIVERY (R112). -/
def execNoticeDelivery (p : PortId) (s : State) : Host.Outcome State Fault Refusal :=
  match (getPort s p).received, (getPort s p).peer with
  | .notice joiner cycle :: rest, some l => done (noticeArrives joiner cycle (arrive p rest l s))
  | _, _ => .next s

/-! JOIN (R140, R141). -/

/-- The answers to a JOIN (R140). -/
inductive JoinAnswer where
  | refuse (reason : RefuseReason)
  | replace
  | accept
  deriving DecidableEq, Repr

/-- A JOIN judged, in the order of R140. -/
def judgeJoin (l : Lane) (digest : Pair) (s : State) : JoinAnswer :=
  if s.lane.state ≠ .member then .refuse .notMember
  else if s.map.image.map (·.digest) ≠ some digest then .refuse .image
  else
    match s.copy.serving with
    | some (joiner, _) => if joiner = l then .replace else .refuse .busy
    | none => .accept

/-- The copy cursor when serving begins (R140). -/
def firstCursor (s : State) : Cursor := cursorFrom s 0

/-- The joiner's standing becomes JOINING; one that stood MEMBER leaves the voter sets (R104, R112, R140). -/
def standJoining (l : Lane) (s : State) : State :=
  if standing s l = .member then
    setStanding l .joining { s with vote := { s.vote with table := s.vote.table.map (withoutVoter l) } }
  else setStanding l .joining s

/-- A JOIN accepted (R140); an entry left complete is voted (R104, R105; notes/assumptions/13). -/
def acceptJoin (p : PortId) (l : Lane) (attempt : Nat) (s : State) : State :=
  let s := offerControl p (.accept attempt) s
  let s := { s with
    copy := { s.copy with serving := some (l, attempt), dirty := [], cursor := some (firstCursor s), tries := 0,
                          catchUp := .none }
    lane := { s.lane with retainedServing := true } }
  let s := standJoining l s
  voteIfComplete (report .serveBegin none 0 (packFields [(Lane.number l, 0), (attempt, 8)]) 0 s)

/-- A JOIN taken by the copy engine (R140, R141). -/
def joinArrives (p : PortId) (l : Lane) (attempt : Nat) (digest : Pair) (s : State) : State :=
  match judgeJoin l digest s with
  | .refuse reason => offerControl p (.refuse (.join attempt) reason) s
  | .replace => acceptJoin p l attempt (endServing .replaced none none s)
  | .accept => acceptJoin p l attempt s

/-- JOIN_DELIVERY (R140). -/
def execJoinDelivery (p : PortId) (s : State) : Host.Outcome State Fault Refusal :=
  match (getPort s p).received, (getPort s p).peer with
  | .join attempt digest :: rest, some l => done (joinArrives p l attempt digest (arrive p rest l s))
  | _, _ => .next s

/-! ACCEPT and REFUSE (R132, R151). -/

/-- The next expected block from a block number upwards (R132, R135). -/
def expectedFrom (s : State) (low : Nat) : Expected :=
  match nextCopyable s low with
  | some b => .at b
  | none => .pastEnd

/-- An ACCEPT taken (R132). -/
def acceptArrives (l : Lane) (attempt : Nat) (s : State) : State :=
  if currentAttempt .request l attempt s then
    { s with copy := { s.copy with progress := some (ms (settings s).progressLimit), phase := .copy,
                                   expected := some (expectedFrom s 0) } }
  else s

/-- ACCEPT_DELIVERY (R132). -/
def execAcceptDelivery (p : PortId) (s : State) : Host.Outcome State Fault Refusal :=
  match (getPort s p).received, (getPort s p).peer with
  | .accept attempt :: rest, some l => done (acceptArrives l attempt (arrive p rest l s))
  | _, _ => .next s

/-- Whether a frame answers the FETCH of the repair in progress (R151; notes/assumptions/16). -/
def answersRepair (l : Lane) (b : Nat) (r : Repair) : Bool :=
  decide (r.block = b) && decide (r.asked = l) && !r.taken

/-- A REFUSE taken, for a JOIN (R132) or a FETCH (R151). -/
def refuseArrives (l : Lane) (subject : RefuseSubject) (reason : RefuseReason) (s : State) : State :=
  match subject with
  | .join attempt => if currentAttempt .request l attempt s then askOther true s else s
  | .fetch b =>
    match s.copy.repair with
    | some r => if answersRepair l b r then repairNext r (.refused reason) s else s
    | none => s

/-- REFUSE_DELIVERY (R132, R151). -/
def execRefuseDelivery (p : PortId) (s : State) : Host.Outcome State Fault Refusal :=
  match (getPort s p).received, (getPort s p).peer with
  | .refuse subject reason :: rest, some l => done (refuseArrives l subject reason (arrive p rest l s))
  | _, _ => .next s

/-! BLOCK, NAK, ADMIT (R133, R135, R137, R144). -/

/-- The copyable blocks skipped when block `b` arrives and `e` was expected, ascending (R135). -/
def skippedBlocks (s : State) (e b : Nat) : List Nat :=
  ((List.range (b - e)).map (fun j => e + j)).filter (isCopyable s)

/-- A NAK offered to the source for each skipped block (R135). -/
def offerNaks (p : PortId) (attempt : Nat) : List Nat → State → State
  | [], s => s
  | b :: rest, s => offerNaks p attempt rest (offerControl p (.nak attempt b) s)

/-- The check of a block number against the next expected block (R135). -/
def checkExpected (p : PortId) (attempt b : Nat) (s : State) : State :=
  match s.copy.expected with
  | some (.at e) =>
    if b < e then s
    else
      let s := offerNaks p attempt (skippedBlocks s e b) s
      { s with copy := { s.copy with expected := some (expectedFrom s (b + 1)) } }
  | _ => s

/-- A BLOCK taken: written when it is of the current attempt and copyable, discarded otherwise (R133, R135). -/
def blockArrives (p : PortId) (l : Lane) (attempt b : Nat) (words : List Word) (s : State) : State :=
  if currentAttempt .copy l attempt s && isCopyable s b then
    let s := checkExpected p attempt b s
    place .recv { s with copy := { s.copy with received := some (.block b words) } }
  else s

/-- Whether the copy engine can take a received block: it holds none (R92), and no burst in progress has found a cause that
fails the attempt, which a BLOCK is taken after (R41; notes/assumptions/5). -/
def canTakeBlock (s : State) : Bool := s.copy.received.isNone && !failureFound s

/-- BLOCK_DELIVERY (R133): only when the copy engine can take a received block (R92). -/
def execBlockDelivery (p : PortId) (s : State) : Host.Outcome State Fault Refusal :=
  match (getPort s p).received, (getPort s p).peer, canTakeBlock s with
  | .block attempt b words :: rest, some l, true => done (blockArrives p l attempt b words (arrive p rest l s))
  | _, _, _ => .next s

/-- A NAK taken (R144). -/
def nakArrives (l : Lane) (attempt b : Nat) (s : State) : State :=
  if s.copy.serving = some (l, attempt) ∧ isCopyable s b = true then appendDirty b s else s

/-- NAK_DELIVERY (R144). -/
def execNakDelivery (p : PortId) (s : State) : Host.Outcome State Fault Refusal :=
  match (getPort s p).received, (getPort s p).peer with
  | .nak attempt b :: rest, some l => done (nakArrives l attempt b (arrive p rest l s))
  | _, _ => .next s

/-- An ADMIT taken: the joiner moves to VERIFY (R137). -/
def admitArrives (l : Lane) (attempt : Nat) (snap : Snapshot) (s : State) : State :=
  if currentAttempt .copy l attempt s then
    { s with copy := { s.copy with phase := .verify, verifying := some snap } }
  else s

/-- ADMIT_DELIVERY (R137). -/
def execAdmitDelivery (p : PortId) (s : State) : Host.Outcome State Fault Refusal :=
  match (getPort s p).received, (getPort s p).peer with
  | .admitSnapshot attempt cycle view pairs :: rest, some l =>
    done (admitArrives l attempt { cycle := cycle, view := view, pairs := pairs } (arrive p rest l s))
  | _, _ => .next s

/-! ADMITTED, MISMATCH, ABANDON (R138, R139, R147, R148). -/

/-- In ANSWER, from the joiner served, with its attempt number (R147). -/
def verdictCounts (l : Lane) (attempt : Nat) (s : State) : Bool :=
  decide (s.copy.catchUp = .answer) && decide (s.copy.serving = some (l, attempt))

/-- The third lane: the peer that is not the joiner, in three-lane mode (R147). -/
def thirdLane (s : State) (joiner : Lane) : Option Lane :=
  if laneCount s = 3 then (peers s).find? (fun l => decide (l ≠ joiner)) else none

/-- NOTICE to the third lane, with the kept cycle plus 1 (R147). -/
def offerNotice (joiner : Lane) (kept : Option Snapshot) (s : State) : State :=
  match thirdLane s joiner, kept with
  | some l, some snap => offerTo l (.notice joiner (snap.cycle + 1)) s
  | _, _ => s

/-- An ADMITTED taken (R112, R147). -/
def admittedArrives (l : Lane) (attempt : Nat) (cycle : Word) (s : State) : State :=
  if verdictCounts l attempt s then
    voteIfComplete (offerNotice l s.copy.kept (memberByFrame l (cycle + 1) (endServing .admitted none none s)))
  else s

/-- ADMITTED_DELIVERY (R147). -/
def execAdmittedDelivery (p : PortId) (s : State) : Host.Outcome State Fault Refusal :=
  match (getPort s p).received, (getPort s p).peer with
  | .admitted attempt cycle :: rest, some l => done (admittedArrives l attempt cycle (arrive p rest l s))
  | _, _ => .next s

/-- A MISMATCH taken (R147). -/
def mismatchArrives (l : Lane) (attempt slot : Nat) (s : State) : State :=
  if verdictCounts l attempt s then voteIfComplete (endServing .mismatch none (some slot) s) else s

/-- MISMATCH_DELIVERY (R147). -/
def execMismatchDelivery (p : PortId) (s : State) : Host.Outcome State Fault Refusal :=
  match (getPort s p).received, (getPort s p).peer with
  | .mismatch attempt slot :: rest, some l => done (mismatchArrives l attempt slot (arrive p rest l s))
  | _, _ => .next s

/-- An ABANDON taken: in JOINING by R138, in MEMBER by R139 and R148. -/
def abandonArrives (l : Lane) (attempt : Nat) (cause : Cause) (s : State) : State :=
  match s.lane.state with
  | .joining =>
    if s.copy.asked = some l ∧ s.copy.attempt = attempt then failAttempt .abandoned false (some cause) s else s
  | .member =>
    if s.copy.admittedBy = some (l, attempt) then leave .noAdmit none s
    else if s.copy.serving = some (l, attempt) then voteIfComplete (endServing .abandoned none none s)
    else s
  | _ => s

/-- ABANDON_DELIVERY (R138, R139, R148). -/
def execAbandonDelivery (p : PortId) (s : State) : Host.Outcome State Fault Refusal :=
  match (getPort s p).received, (getPort s p).peer with
  | .abandon attempt cause :: rest, some l => done (abandonArrives l attempt cause (arrive p rest l s))
  | _, _ => .next s

/-! FETCH and FETCHED (R149, R151, R152). -/

/-- Whether the lane answers FETCH frames: MEMBER, or FORMING with the lock flag set (R149). -/
def answersFetches (s : State) : Bool :=
  decide (s.lane.state = .member) || (decide (s.lane.state = .forming) && s.map.lock)

/-- Whether a block lies in a CONSTANT region (R149). -/
def isConstantBlock (s : State) (b : Nat) : Bool :=
  match locate s b with
  | some loc => decide (loc.policy.cls = .constant)
  | none => false

/-- A FETCH answer kept for a port; a second one of the port replaces the first in its place (R149; notes/assumptions/15). -/
def keepAnswer (p : PortId) (b : Nat) (answers : List (PortId × Nat)) : List (PortId × Nat) :=
  if answers.any (fun x => decide (x.1 = p)) then answers.map (fun x => if x.1 = p then (p, b) else x)
  else answers ++ [(p, b)]

/-- A FETCH taken (R149). -/
def fetchArrives (p : PortId) (b : Nat) (s : State) : State :=
  if answersFetches s then
    if isConstantBlock s b then { s with copy := { s.copy with answers := keepAnswer p b s.copy.answers } }
    else offerControl p (.refuse (.fetch b) .image) s
  else offerControl p (.refuse (.fetch b) .notMember) s

/-- FETCH_DELIVERY (R149). -/
def execFetchDelivery (p : PortId) (s : State) : Host.Outcome State Fault Refusal :=
  match (getPort s p).received, (getPort s p).peer with
  | .fetch b :: rest, some l => done (fetchArrives p b (arrive p rest l s))
  | _, _ => .next s

/-- A FETCHED taken: for the repair in progress it becomes the received block (R151, R152). -/
def fetchedArrives (l : Lane) (b : Nat) (words : List Word) (s : State) : State :=
  match s.copy.repair with
  | some r =>
    if answersRepair l b r then
      place .recv { s with copy := { s.copy with repairTimer := none, repair := some { r with taken := true },
                                                 received := some (.fetched b words) } }
    else s
  | none => s

/-- FETCHED_DELIVERY (R152): only when the copy engine can take a received block (R92). -/
def execFetchedDelivery (p : PortId) (s : State) : Host.Outcome State Fault Refusal :=
  match (getPort s p).received, (getPort s p).peer, canTakeBlock s with
  | .fetched b words :: rest, some l, true => done (fetchedArrives l b words (arrive p rest l s))
  | _, _, _ => .next s

end Sys2Proof.Machine
end

