-- ==== Sys2Proof/Machine/LaneEvents.lean ====
section
/-! DEFINITION. The commands of lane control: PERMIT, the formation window, the retry timer, RESTORE and SUPPLY-LOW
(R119, R121, R124-R126, R161). -/

namespace Sys2Proof.Machine

/-- PERMIT_TIMER_EXPIRY (R119). -/
def execPermitTimerExpiry (s : State) : Host.Outcome State Fault Refusal :=
  if s.lane.permitTimer.isSome then
    done { s with lines := { s.lines with permit := !s.lines.permit },
                  lane := { s.lane with permitTimer := some Config.permitHalfPeriod } }
  else .next s

/-- The lane enters FORMING (R161). -/
def enterForming (s : State) : State :=
  let s := setLaneState .forming { s with lane := { s.lane with formation := none } }
  offerState (startPatrol (releaseHold s))

/-- FORMATION_WINDOW_EXPIRY (R161). -/
def execFormationWindowExpiry (s : State) : Host.Outcome State Fault Refusal :=
  if decide (s.lane.state = .starting) && s.lane.formation.isSome then done (enterForming s) else .next s

/-- The retry timer's expiry in ISOLATED (R124, R126). -/
def retryExpires (s : State) : State :=
  if s.lines.supplyLow then { s with lane := { s.lane with retry := none, retryDue := true } }
  else enterJoining .retry { s with lane := { s.lane with retry := none } }

/-- RETRY_TIMER_EXPIRY (R124). -/
def execRetryTimerExpiry (s : State) : Host.Outcome State Fault Refusal :=
  if decide (s.lane.state = .isolated) && s.lane.retry.isSome then done (retryExpires s) else .next s

/-- RESTORE_EDGE (R125): ignored outside ISOLATED and while SUPPLY-LOW is active. -/
def execRestoreEdge (s : State) : Host.Outcome State Fault Refusal :=
  if decide (s.lane.state = .isolated) && !s.lines.supplyLow then
    done (enterJoining .restore { s with lane := { s.lane with attempts := 0, retry := none, retryDue := false } })
  else .next s

/-- SUPPLY_LOW_ACTIVE (R126): in JOINING the attempt fails. -/
def execSupplyLowActive (s : State) : Host.Outcome State Fault Refusal :=
  if s.lines.supplyLow then .next s
  else done (failAttempt .supply false none { s with lines := { s.lines with supplyLow := true } })

/-- SUPPLY_LOW_INACTIVE (R126): in ISOLATED with retry due set, an attempt begins. -/
def execSupplyLowInactive (s : State) : Host.Outcome State Fault Refusal :=
  if s.lines.supplyLow then
    if decide (s.lane.state = .isolated) && s.lane.retryDue then
      done (enterJoining .retry { s with lines := { s.lines with supplyLow := false },
                                         lane := { s.lane with retryDue := false } })
    else done { s with lines := { s.lines with supplyLow := false } }
  else .next s

end Sys2Proof.Machine
end

