-- ==== Sys2Proof/Machine/LinkEvents.lean ====
section
/-! DEFINITION. The commands of a link port: the receiver and the transmitter (R86, R89-R91, R94). -/

namespace Sys2Proof.Machine

/-- FRAME_START (R89): a hunting receiver begins gathering. -/
def execFrameStart (p : PortId) (s : State) : Host.Outcome State Fault Refusal :=
  if LinkPort.active (getPort s p) && !(getPort s p).gathering then
    done (setPort s p { getPort s p with gathering := true })
  else .next s

/-- The receiver hunting again (R89). -/
def hunt (p : PortId) (s : State) : State := setPort s p { getPort s p with gathering := false }

/-- A byte reached, with its mark (R170). -/
def seen (b : Byte) : Nat × Bool := (b.toNat, true)

/-- A frame that passed every check: appended to the receive queue, or dropped as OVERRUN (R90). -/
def acceptFrame (p : PortId) (kind sender : Byte) (f : Frame) (s : State) : State :=
  if (getPort s p).received.length < Config.receiveDepth then
    setPort s p { getPort s p with received := (getPort s p).received ++ [f] }
  else linkError p .overrun none (seen kind) (seen sender) s

/-- A frame gathered whole: frame check, body form, room (R90, R91). -/
def frameWhole (p : PortId) (kind : FrameKind) (sender : Byte) (covered body : List Byte) (check : Nat) (s : State) :
    State :=
  let k : Byte := BitVec.ofNat 8 (FrameKind.code kind)
  if frameCheck covered = check then
    match parseBody kind body with
    | some f => acceptFrame p k sender f s
    | none => linkError p .form (some .body) (seen k) (seen sender) s
  else linkError p .check none (seen k) (seen sender) s

/-- What a gathering port makes of bytes: nothing while it is hunting, stopped or idle. -/
def gathered (s : State) (p : PortId) (bytes : List Byte) : Gather :=
  match (getPort s p).peer with
  | some l => if (getPort s p).running && (getPort s p).gathering then gather l bytes else .incomplete
  | none => .incomplete

/-- FRAME_RECEIVED (R90). -/
def execFrameReceived (p : PortId) (bytes : List Byte) (s : State) : Host.Outcome State Fault Refusal :=
  match gathered s p bytes with
  | .whole kind sender covered body check => done (frameWhole p kind sender covered body check (hunt p s))
  | _ => .next s

/-- FRAME_ENVELOPE_ERROR (R89, R91). -/
def execFrameEnvelopeError (p : PortId) (bytes : List Byte) (s : State) : Host.Outcome State Fault Refusal :=
  match gathered s p bytes with
  | .formError reason kind sender =>
    done (linkError p .form (some reason) (reachedByte kind) (reachedByte sender) (hunt p s))
  | _ => .next s

/-- TRANSMIT_FRAME_END (R94): the gap of 16 bit periods begins (R86). -/
def execTransmitFrameEnd (p : PortId) (s : State) : Host.Outcome State Fault Refusal :=
  match (getPort s p).transmitter with
  | .sending _ _ => done (setPort s p { getPort s p with transmitter := .gap (16 * (settings s).linkDivisor) })
  | _ => .next s

/-- GAP_END (R94): the oldest control frame is started, else the oldest bulk frame. -/
def execGapEnd (p : PortId) (s : State) : Host.Outcome State Fault Refusal :=
  match (getPort s p).transmitter with
  | .gap _ => done (startPort p (setPort s p { getPort s p with transmitter := .resting }))
  | _ => .next s

end Sys2Proof.Machine
end

