-- ==== Sys2Proof/Machine/Start.lean ====
section
/-! DEFINITION. The resets and the end of the image read (R53, R153-R158). -/

namespace Sys2Proof.Machine

/-- POWER_RESET (R153): SRAM contents not kept, retained fields STARTING, none, no. -/
def execPowerReset (straps : BitVec 2) (s : State) : Host.Outcome State Fault Refusal :=
  .next (State.afterReset .power straps s.lines.supplyLow [] .starting none false s.pending)

/-- The SRAM as a reset leaves it that cuts a burst after `written` of its cells were written: the later ones keep their
old contents (R53, R82). -/
def cutSram (written : Nat) (s : State) : List (Nat × SramCell) :=
  match s.port.burst with
  | some b => sramUndo s.sram (b.overwritten.drop written)
  | none => s.sram

/-- PIN_RESET (R153): SRAM and retained fields kept. -/
def execPinReset (straps : BitVec 2) (written : Nat) (s : State) : Host.Outcome State Fault Refusal :=
  .next (State.afterReset .pin straps s.lines.supplyLow (cutSram written s) s.lane.retainedState s.lane.retainedCause
    s.lane.retainedServing s.pending)

/-- A port started with the lane wired to it (R84, R85). -/
def startLink (lanes straps : Nat) (p : PortId) (v : LinkPort) : LinkPort :=
  { v with running := true, peer := wiredPeer lanes straps p }

/-- The lane view at image acceptance (R111, R157). -/
def firstView (lanes : Nat) : View := ⟨.excluded, .excluded, if lanes = 3 then .excluded else .absent⟩

/-- The acceptance of a valid image, but for the restart of the patrol and the start of the clear (R157). -/
def loadTables (im : Image) (s : State) : State :=
  { s with
    loader := { s.loader with reading := false }
    map := { s.map with image := some im, status := im.regions.map (fun _ => ⟨0, 0, false, false⟩) }
    sig := { s.sig with live := Image.clearPairs im, snap := (Image.clearPairs im).map (fun _ => ⟨0, 0⟩) }
    link1 := startLink im.laneCount s.lines.straps.toNat .link1 s.link1
    link2 := startLink im.laneCount s.lines.straps.toNat .link2 s.link2
    vote := { s.vote with view := some (firstView im.laneCount) } }

/-- A valid image accepted (R157). -/
def acceptImage (im : Image) (s : State) : State := beginClear false (restartPatrol (loadTables im s))

/-- The entry to FAILED (R155, R166); the retained state follows the lane state (R129; notes/assumptions/19). -/
def enterFailed (s : State) : State :=
  { s with loader := { s.loader with reading := false }, lines := { s.lines with alert := true },
           lane := { s.lane with state := .failed, retainedState := .failed } }

/-- Whether the image is being read, which it is in STARTING alone (R117, R154). -/
def readsImage (s : State) : Bool := s.loader.reading && decide (s.lane.state = .starting)

/-- IMAGE_READ_COMPLETE (R155). -/
def execImageReadComplete (words : List Word) (s : State) : Host.Outcome State Fault Refusal :=
  if readsImage s then
    match loadImage? s.lines.straps.toNat words with
    | some im => done (acceptImage im s)
    | none => done (enterFailed s)
  else .next s

end Sys2Proof.Machine
end

