-- ==== Sys2Proof/Machine/Dispatch.lean ====
section
/-! DEFINITION. One arm for each command. -/

namespace Sys2Proof.Machine

def exec (i : Instr) (s : State) : Host.Outcome State Fault Refusal :=
  match i with
  | .powerReset straps => Sys2Proof.Machine.execPowerReset straps s
  | .pinReset straps written => Sys2Proof.Machine.execPinReset straps written s
  | .imageReadComplete words => Sys2Proof.Machine.execImageReadComplete words s
  | .accessTaken address isWrite enables data => Sys2Proof.Machine.execAccessTaken address isWrite enables data s
  | .burstEnd => Sys2Proof.Machine.execBurstEnd s
  | .requestOverdue client => Sys2Proof.Machine.execRequestOverdue client s
  | .paceTimerExpiry => Sys2Proof.Machine.execPaceTimerExpiry s
  | .copyRequest => Sys2Proof.Machine.execCopyRequest s
  | .alertPulseEnd => Sys2Proof.Machine.execAlertPulseEnd s
  | .ownMark => Sys2Proof.Machine.execOwnMark s
  | .voteWindowExpiry => Sys2Proof.Machine.execVoteWindowExpiry s
  | .cycleSupervisionExpiry => Sys2Proof.Machine.execCycleSupervisionExpiry s
  | .permitTimerExpiry => Sys2Proof.Machine.execPermitTimerExpiry s
  | .formationWindowExpiry => Sys2Proof.Machine.execFormationWindowExpiry s
  | .retryTimerExpiry => Sys2Proof.Machine.execRetryTimerExpiry s
  | .restoreEdge => Sys2Proof.Machine.execRestoreEdge s
  | .supplyLowActive => Sys2Proof.Machine.execSupplyLowActive s
  | .supplyLowInactive => Sys2Proof.Machine.execSupplyLowInactive s
  | .progressTimerExpiry => Sys2Proof.Machine.execProgressTimerExpiry s
  | .holdTimerExpiry => Sys2Proof.Machine.execHoldTimerExpiry s
  | .repairTimerExpiry => Sys2Proof.Machine.execRepairTimerExpiry s
  | .admitOffer => Sys2Proof.Machine.execAdmitOffer s
  | .admitVerify => Sys2Proof.Machine.execAdmitVerify s
  | .repairStart => Sys2Proof.Machine.execRepairStart s
  | .frameReceived port bytes => Sys2Proof.Machine.execFrameReceived port bytes s
  | .frameEnvelopeError port bytes => Sys2Proof.Machine.execFrameEnvelopeError port bytes s
  | .transmitFrameEnd port => Sys2Proof.Machine.execTransmitFrameEnd port s
  | .gapEnd port => Sys2Proof.Machine.execGapEnd port s
  | .signatureDelivery port => Sys2Proof.Machine.execSignatureDelivery port s
  | .stateDelivery port => Sys2Proof.Machine.execStateDelivery port s
  | .noticeDelivery port => Sys2Proof.Machine.execNoticeDelivery port s
  | .joinDelivery port => Sys2Proof.Machine.execJoinDelivery port s
  | .acceptDelivery port => Sys2Proof.Machine.execAcceptDelivery port s
  | .refuseDelivery port => Sys2Proof.Machine.execRefuseDelivery port s
  | .blockDelivery port => Sys2Proof.Machine.execBlockDelivery port s
  | .nakDelivery port => Sys2Proof.Machine.execNakDelivery port s
  | .admitDelivery port => Sys2Proof.Machine.execAdmitDelivery port s
  | .admittedDelivery port => Sys2Proof.Machine.execAdmittedDelivery port s
  | .mismatchDelivery port => Sys2Proof.Machine.execMismatchDelivery port s
  | .abandonDelivery port => Sys2Proof.Machine.execAbandonDelivery port s
  | .fetchDelivery port => Sys2Proof.Machine.execFetchDelivery port s
  | .fetchedDelivery port => Sys2Proof.Machine.execFetchedDelivery port s
  | .frameStart port => Sys2Proof.Machine.execFrameStart port s
  | .alertHighTickEnd => Sys2Proof.Machine.execAlertHighTickEnd s

end Sys2Proof.Machine
end

