-- ==== Sys2Proof/Machine/Idle.lean ====
section
/-! DEFINITION. What the part does when no command waits: it queues the first step of its own that is due, and else one
tick passes (notes/assumptions/1, 25). -/

namespace Sys2Proof.Machine

/-- The delivery row of a frame kind (R92). -/
def deliveryOf (p : PortId) : FrameKind → Instr
  | .signature => .signatureDelivery p
  | .state => .stateDelivery p
  | .join => .joinDelivery p
  | .accept => .acceptDelivery p
  | .refuse => .refuseDelivery p
  | .nak => .nakDelivery p
  | .admitted => .admittedDelivery p
  | .mismatch => .mismatchDelivery p
  | .abandon => .abandonDelivery p
  | .notice => .noticeDelivery p
  | .fetch => .fetchDelivery p
  | .block => .blockDelivery p
  | .fetched => .fetchedDelivery p
  | .admitSnapshot => .admitDelivery p

/-- Whether the head frame may be delivered: BLOCK and FETCHED wait until the copy engine can take one (R92). -/
def deliverable (s : State) : FrameKind → Bool
  | .block => canTakeBlock s
  | .fetched => canTakeBlock s
  | _ => true

/-- The delivery due at a port (R92). -/
def deliveryDue (s : State) (p : PortId) : Option Instr :=
  match (getPort s p).received with
  | f :: _ => if (getPort s p).peer.isSome && deliverable s (Frame.kind f) then some (deliveryOf p (Frame.kind f)) else none
  | [] => none

/-- The steps of the part's own that may be due. -/
def ownSteps (s : State) : List Instr :=
  (deliveryDue s .link1).toList ++ (deliveryDue s .link2).toList ++
    (if (verifyDue s).isSome then [.admitVerify] else []) ++ (if (admitDue s).isSome then [.admitOffer] else []) ++
    (if (repairDue s).isSome then [.repairStart] else []) ++ (if (copyDue s).isSome then [.copyRequest] else [])

/-- A timer after a tick. -/
def tickTimer (t : Option Nat) : Option Nat := t.map (fun n => n - 1)

/-- Whether a timer expires at this tick. -/
def expires (t : Option Nat) : Bool :=
  match t with
  | some n => decide (n ≤ 1)
  | none => false

/-- A wait age after a tick (R43). -/
def tickAge (a : Option Nat) : Option Nat := a.map (fun n => n + 1)

/-- A transmitter after a tick: 40 clock periods pass (R172). -/
def tickTransmitter : Transmitter → Transmitter
  | .resting => .resting
  | .sending bytes clocks => .sending bytes (clocks - Config.clocksPerTick)
  | .gap clocks => .gap (clocks - Config.clocksPerTick)

/-- The command that a transmitter's tick makes due (R94). -/
def transmitterDue (p : PortId) : Transmitter → List Instr
  | .resting => []
  | .sending _ clocks => if clocks ≤ Config.clocksPerTick then [.transmitFrameEnd p] else []
  | .gap clocks => if clocks ≤ Config.clocksPerTick then [.gapEnd p] else []

/-- The end of the running tick of an ALERT pulse (R166). -/
def alertDue (s : State) : List Instr :=
  if expires s.log.pulseTick then
    match s.log.phase with
    | .high => [.alertHighTickEnd]
    | .low => [.alertPulseEnd]
    | .idle => []
  else []

/-- A command due when a timer expires. -/
def dueAt (t : Option Nat) (i : Instr) : List Instr := if expires t then [i] else []

/-- The expiries that fall at a tick. Which of several is taken first no rule says: the order of the list is
the model's choice (notes/assumptions/1). -/
def expiries (s : State) : List Instr :=
  transmitterDue .link1 s.link1.transmitter ++ transmitterDue .link2 s.link2.transmitter ++ alertDue s ++
    dueAt s.patrol.pace .paceTimerExpiry ++ dueAt s.vote.window .voteWindowExpiry ++
    dueAt s.vote.supervision .cycleSupervisionExpiry ++ dueAt s.lane.permitTimer .permitTimerExpiry ++
    dueAt s.lane.formation .formationWindowExpiry ++ dueAt s.lane.retry .retryTimerExpiry ++
    dueAt s.copy.progress .progressTimerExpiry ++ dueAt s.copy.holdTimer .holdTimerExpiry ++
    dueAt s.copy.repairTimer .repairTimerExpiry

/-- One tick: ages grow, timers and line times run, and the expiries that fall are queued. -/
def tick (s : State) : State :=
  { s with
    port := { s.port with
      logAge := tickAge s.port.logAge, recvAge := tickAge s.port.recvAge, fillAge := tickAge s.port.fillAge,
      copyAge := tickAge s.port.copyAge, patrolAge := tickAge s.port.patrolAge }
    patrol := { s.patrol with pace := tickTimer s.patrol.pace }
    link1 := { s.link1 with transmitter := tickTransmitter s.link1.transmitter }
    link2 := { s.link2 with transmitter := tickTransmitter s.link2.transmitter }
    vote := { s.vote with window := tickTimer s.vote.window, supervision := tickTimer s.vote.supervision }
    lane := { s.lane with permitTimer := tickTimer s.lane.permitTimer, formation := tickTimer s.lane.formation,
                          retry := tickTimer s.lane.retry }
    copy := { s.copy with progress := tickTimer s.copy.progress, holdTimer := tickTimer s.copy.holdTimer,
                          repairTimer := tickTimer s.copy.repairTimer }
    log := { s.log with pulseTick := tickTimer s.log.pulseTick }
    pending := s.pending ++ expiries s }

/-- The part with no command waiting. -/
def idle (s : State) : State :=
  match ownSteps s with
  | i :: _ => { s with pending := [i] }
  | [] => tick s

end Sys2Proof.Machine
end

