-- ==== Sys2Proof/WellFormed.lean ====
section
/-! DEFINITION. Which commands are well formed: operands the environment can bring. -/

namespace Sys2Proof

/-- The largest number of SRAM cells one burst writes: a repair burst writes back or repairs each of its 64 words once,
and no other burst writes a cell twice (R42, R152). -/
def burstWritesMax : Nat := 64

/-- The shortest frame that can be gathered whole: 7 bytes and an empty body (R86). R89 bounds the body length from above
only, so a length field of 0 passes the envelope checks and R90 judges the frame. -/
def shortestFrame : Nat := 7

/-- The longest frame, a BLOCK: 266 bytes (R86, R97). -/
def longestFrame : Nat := 266

/-- The bytes of the envelope up to the length field, where a gather can fail (R89). -/
def envelopeBytes : Nat := 5

/-- Whether a command's operands are within what can happen: at most 93 image words are read (R154, R168), a burst has
written at most 64 cells when a reset cuts it, a frame gathered whole has 7 to 266 bytes, and a gather fails at one of
its first five bytes. -/
def Instr.wellFormed : Instr → Bool
  | .pinReset _ written => decide (written ≤ burstWritesMax)
  | .imageReadComplete words => decide (words.length ≤ Config.imageWords)
  | .frameReceived _ bytes => decide (shortestFrame ≤ bytes.length) && decide (bytes.length ≤ longestFrame)
  | .frameEnvelopeError _ bytes => decide (1 ≤ bytes.length) && decide (bytes.length ≤ envelopeBytes)
  | _ => true

end Sys2Proof
end

