-- ==== Sys2Proof/Safety.lean ====
section
/-! DEFINITION. What counts as a safe state: the laws of the part that its chapters state, as predicates that statements
use. -/

namespace Sys2Proof.Machine

/-- R118: HOLD is asserted in every lane state except FORMING and MEMBER. -/
def HoldLaw (s : State) : Prop := s.lines.hold = !running s

/-- R119: the permit timer runs exactly while the lane is MEMBER and the view holds at least two MEMBER lanes. -/
def PermitLaw (s : State) : Prop := s.lane.permitTimer.isSome = permitDue s

/-- R34, R38: at most 8 repeat entries with counts 1 to 3 and at most 16 substitution entries, no address twice in the
two tables together. -/
def TableLaw (s : State) : Prop :=
  s.checker.repeats.length ≤ Config.repeatDepth ∧ s.checker.substs.length ≤ Config.substDepth ∧
    (∀ e ∈ s.checker.repeats, 1 ≤ e.count ∧ e.count ≤ 3) ∧
    (s.checker.repeats.map (·.address) ++ s.checker.substs.map (·.address)).Nodup

/-- R163: at most 8 reports wait. -/
def ReportLaw (s : State) : Prop := s.log.queue.length ≤ Config.reportDepth

/-- The SRAM keeps its canonical form. -/
def SramLaw (s : State) : Prop := sramCanonical s.sram = true

/-- R98, R101: the vote table's entries are for different cycles, the own one or up to three later; the entry for the own
cycle, and it alone, has own pairs, a voter set and a running window, and the window timer runs with it. -/
def VoteTableLaw (s : State) : Prop :=
  (s.vote.table.map (·.cycle)).Nodup ∧
    (∀ e ∈ s.vote.table, (e.cycle - s.vote.counter).toNat ≤ 3 ∧ e.window = decide (e.cycle = s.vote.counter) ∧
      e.own.isSome = e.window ∧ e.voters.isSome = e.window) ∧
    s.vote.window.isSome = s.vote.table.any (·.window)

/-- R143, R140, R148: the dirty queue holds no block twice and only copyable blocks; while the part is not serving it is
empty, there is no copy cursor and no catch-up hold; and only a MEMBER lane serves. -/
def ServingLaw (s : State) : Prop :=
  s.copy.dirty.Nodup ∧ (∀ b ∈ s.copy.dirty, isCopyable s b = true) ∧
    (s.copy.serving = none → s.copy.dirty = [] ∧ s.copy.cursor = none ∧ s.copy.catchUp = .none) ∧
    (s.copy.serving.isSome = true → s.lane.state = .member)

/-- R150, R123, R131: the repair list holds at most four distinct blocks, all of CONSTANT regions, is empty outside FORMING
and MEMBER, and holds the block of the repair in progress. -/
def RepairLaw (s : State) : Prop :=
  s.copy.repairs.length ≤ Config.repairDepth ∧ s.copy.repairs.Nodup ∧
    (∀ b ∈ s.copy.repairs, isConstantBlock s b = true) ∧
    (running s = false → s.copy.repairs = []) ∧ ∀ r, s.copy.repair = some r → r.block ∈ s.copy.repairs

/-- R2, R70, R74: a loaded image has a region, each region has a block and every block it covers is located in it, and the
patrol's cursor stands in a block of a region. -/
def MapLaw (s : State) : Prop :=
  ∀ im, s.map.image = some im →
    im.regions ≠ [] ∧
    (∀ (i : Nat) (r : Region), im.regions[i]? = some r →
      1 ≤ r.count ∧ ∀ b, Region.covers r b = true → Image.locate im b = Image.locateRegion im i) ∧
    ∀ i k, s.patrol.cursor = some (i, k) → ∃ r, im.regions[i]? = some r ∧ k < r.count

/-- R85, R90, R93: a port's queues stay within their depths, a reserved slot counting as occupied, and its error counts
within 0..255. -/
def PortLaw (v : LinkPort) : Prop :=
  v.control.length ≤ Config.controlDepth ∧ v.bulk.length + v.reserved ≤ Config.bulkDepth ∧
    v.received.length ≤ Config.receiveDepth ∧
    v.errors.check ≤ 255 ∧ v.errors.form ≤ 255 ∧ v.errors.overrun ≤ 255 ∧ v.errors.txFull ≤ 255

/-- Both ports keep the law of a port. -/
def LinkLaw (s : State) : Prop := PortLaw s.link1 ∧ PortLaw s.link2

/-- R111: self's standing mirrors the lane state. No port is wired to the own lane (R84), and the own lane is never the
joiner served. -/
def MirrorLaw (s : State) : Prop :=
  standing s (ownLane s) =
      (match s.lane.state with | .member => Standing.member | .joining => Standing.joining | _ => Standing.excluded) ∧
    (∀ p, (getPort s p).peer ≠ some (ownLane s)) ∧ ∀ l n, s.copy.serving = some (l, n) → l ≠ ownLane s

/-- R111: in two-lane mode lane 2 stands ABSENT; it is not the own lane, wired to no port (R84), served as no joiner and a
voter of no entry. While the image is still to be read no entry and no serving precedes the lane count. -/
def AbsentLaw (s : State) : Prop :=
  (s.loader.reading = true → s.vote.table = [] ∧ s.copy.serving = none) ∧
    (laneCount s = 2 →
      standing s .two = .absent ∧ ownLane s ≠ .two ∧ (∀ p, (getPort s p).peer ≠ some .two) ∧
      (∀ e ∈ s.vote.table, ∀ v, e.voters = some v → PerLane.get v .two = false) ∧
      ∀ l n, s.copy.serving = some (l, n) → l ≠ .two)

/-- A pair of two signature values of R54. -/
def Pair.inRange (p : Pair) : Prop := p.a < Config.M ∧ p.b < Config.M

/-- R54: every live value, snapshot value and accumulator value lies below M; a loaded image has at most 32 regions, so
every seed does too. -/
def PairLaw (s : State) : Prop :=
  (∀ p ∈ s.sig.live, Pair.inRange p) ∧ (∀ p ∈ s.sig.snap, Pair.inRange p) ∧
    (∀ p, s.patrol.accumulator = some p → Pair.inRange p) ∧ ∀ im, s.map.image = some im → im.regions.length ≤ 32

/-- R117, R154, R158, R161: the image is read, the clear pass of STARTING runs and the formation window runs in STARTING
alone, one after another. -/
def StartLaw (s : State) : Prop :=
  (s.loader.reading = true → s.lane.state = .starting ∧ s.clear.pass = none ∧ s.lane.formation = none) ∧
    (∀ p, s.clear.pass = some p → p.joiner = false → s.lane.state = .starting ∧ s.lane.formation = none) ∧
    (s.lane.formation.isSome = true → s.lane.state = .starting)

/-- The changes of lane state that the part makes, but for the resets (R121, R122, R127, R128, R155, R161). -/
def allowedChange : LaneState → LaneState → Bool
  | .starting, .forming => true
  | .starting, .joining => true
  | .starting, .isolated => true
  | .starting, .failed => true
  | .forming, .member => true
  | .forming, .isolated => true
  | .forming, .joining => true
  | .member, .isolated => true
  | .isolated, .joining => true
  | .joining, .member => true
  | .joining, .isolated => true
  | x, y => decide (x = y)

/-- The store port is free, nothing waits for it, no drain is in progress and the catch-up hold is not in force: a PROC
request placed now is granted at once (R46, R50). -/
def QuietPort (s : State) : Prop :=
  s.port.burst = none ∧ waitingClients s.port = [] ∧ s.port.drain = none ∧ s.copy.catchUp = .none

/-- No entry of the vote table is complete: no vote is due (R105). -/
def NoVoteDue (s : State) : Prop := s.vote.table.find? (isComplete (ownLane s)) = none

/-- The access that a command brings, as the through path holds it (R1, R21). -/
def accessOf (address : Word) (isWrite : Bool) (enables : BitVec 4) (data : Word) : Access :=
  { word := wordAddress address, isWrite := isWrite, enables := enables, data := data }

/-- Every word but those at the addresses that `touched` picks reads as before, spare store and SRAM alike. -/
def OtherWordsKept (s t : State) (touched : Nat → Prop) : Prop := ∀ b, ¬ touched b → readWord t b = readWord s b

/-- SRAM cells written in order over a memory. -/
def writeCells (m : List (Nat × SramCell)) (ws : List (Nat × SramCell)) : List (Nat × SramCell) :=
  ws.foldl (fun m w => sramWrite m w.1 w.2) m

/-- What each of the cells written in order held just before its write. -/
def cellsBefore : List (Nat × SramCell) → List (Nat × SramCell) → List (Nat × SramCell)
  | _, [] => []
  | m, w :: ws => (w.1, sramRead m w.1) :: cellsBefore (sramWrite m w.1 w.2) ws

/-- The burst in progress holds the cells it has overwritten with what they held, in the order it wrote them over a
canonical memory: what a PIN reset that cuts it needs (R53). -/
def CutLaw (s : State) : Prop :=
  ∀ b, s.port.burst = some b →
    ∃ m ws, sramCanonical m = true ∧ b.overwritten = cellsBefore m ws ∧ s.sram = writeCells m ws

/-- The value of a good word; none for a bad one (R19). -/
def goodValue : ReadOutcome → Option Word
  | .clean v => some v
  | .corrected v _ _ => some v
  | _ => none

/-- Whether a word was CORRECTED (R18). -/
def wasCorrected : ReadOutcome → Bool
  | .corrected _ _ _ => true
  | _ => false

/-- What the 64 words of a block from word address `base` read as, none for a bad word. -/
def blockRead (s : State) (base : Nat) : List (Option Word) :=
  (List.range 64).map (fun j => goodValue (readWord s (base + j)))

/-- What reading a block of a region word after word leaves of words, tables and counts (R15, R33, R35, R76, R78): a good
word reads CLEAN with its value, a bad word and every word outside the block read as before, the repeat and substitution
tables take one update for each CORRECTED word in ascending position, and the region's counts are raised, saturating. -/
structure Scrubbed (loc : Located) (base : Nat) (s t : State) : Prop where
  good : ∀ j v, j < 64 → goodValue (readWord s (base + j)) = some v → readWord t (base + j) = .clean v
  bad : ∀ j, j < 64 → goodValue (readWord s (base + j)) = none → readWord t (base + j) = readWord s (base + j)
  others : OtherWordsKept s t (fun a => base ≤ a ∧ a < base + 64)
  tables : t.checker = (List.range 64).foldl (fun c j =>
    match readWord s (base + j) with
    | .corrected v _ _ => (repeatUpdate c (base + j) v .correction).1
    | _ => c) s.checker
  corrected : loc.index < s.map.status.length → (statusOf s loc.index).corrected ≤ 65535 →
    (statusOf t loc.index).corrected = min 65535 ((statusOf s loc.index).corrected +
      (List.range 64).countP (fun j => wasCorrected (readWord s (base + j))))
  uncorrectable : loc.index < s.map.status.length → (statusOf s loc.index).uncorrectable ≤ 65535 →
    (statusOf t loc.index).uncorrectable = min 65535 ((statusOf s loc.index).uncorrectable +
      (blockRead s base).countP Option.isNone)
  otherCounts : ∀ i, i ≠ loc.index → (statusOf t i).corrected = (statusOf s i).corrected ∧
    (statusOf t i).uncorrectable = (statusOf s i).uncorrectable
  broken : ∀ i, (statusOf t i).broken = (statusOf s i).broken

/-- A valid record stands in record slot `k` of a LOG block: eight good words, a sequence other than 0, and the check of
R159. -/
def RecordAt (s : State) (block k n : Nat) : Prop :=
  ∃ w : Nat → Word, (∀ j < 8, goodValue (readWord s (64 * block + 8 * k + j)) = some (w j)) ∧ w 0 ≠ 0 ∧
    n = (w 0).toNat ∧ w 7 = w 0 + w 1 + w 2 + w 3 + w 4 + w 5 + w 6 + 1

/-- The log after reports offered one after another (R163). -/
def logAfter (s : State) (reports : List Report) : LogWriter := (reports.foldl (fun u r => offer r u) s).log

/-! The configuration image as R155 and R168 describe it, read off the words. -/

/-- Word `i` of the image. -/
def imageWord (words : List Word) (i : Nat) : Word := words.getD i 0

/-- The class code of a policy (R168). -/
def classCode (words : List Word) (policy : Nat) : Nat := bitField (imageWord words (17 + policy)) 0 3

/-- The region table: the first region-count entries of words 25 to 88 (R168). -/
def regionsRead (words : List Word) : List Region :=
  (List.range (bitField (imageWord words 2) 16 6)).map (fun i =>
    { first := bitField (imageWord words (25 + 2 * i)) 0 16, count := bitField (imageWord words (26 + 2 * i)) 0 17,
      policy := bitField (imageWord words (26 + 2 * i)) 24 4 })

/-- The digest of words 0 to 88 (R68). -/
def digestRead (words : List Word) : Pair :=
  { a := ((List.range 89).map (fun i => (imageWord words i).toNat)).sum % Config.M
    b := ((List.range 89).map (fun i => (i + 1) * (imageWord words i).toNat)).sum % Config.M }

/-- R155: the checks that make an image valid for a part whose straps read `straps`. -/
structure ImageIsValid (straps : Nat) (words : List Word) : Prop where
  format : 93 ≤ words.length ∧ imageWord words 0 = 0xC05A0430#32 ∧ imageWord words 1 = 93#32
  digest : (imageWord words 89).toNat + 2 ^ 32 * (imageWord words 90).toNat = (digestRead words).a ∧
    (imageWord words 91).toNat + 2 ^ 32 * (imageWord words 92).toNat = (digestRead words).b
  size : 1 ≤ bitField (imageWord words 2) 0 3 ∧ bitField (imageWord words 2) 0 3 ≤ 4
  regionCount : 1 ≤ (regionsRead words).length ∧ (regionsRead words).length ≤ 32
  regions : ∀ r ∈ regionsRead words, 1 ≤ r.count ∧ r.count ≤ 32768 ∧ r.policy ≤ 7 ∧
    r.first + r.count ≤ 4096 * 2 ^ (bitField (imageWord words 2) 0 3 - 1)
  apart : ∀ (i j : Nat) (r q : Region), (regionsRead words)[i]? = some r → (regionsRead words)[j]? = some q → i ≠ j →
    ∀ b, ¬ (Region.covers r b = true ∧ Region.covers q b = true)
  policies : ∀ k < 8, classCode words k ∈ [1, 2, 3, 4] ∧ bitField (imageWord words (17 + k)) 4 2 ∈ [1, 2] ∧
    bitField (imageWord words (17 + k)) 8 2 ∈ [1, 2] ∧ bitField (imageWord words (17 + k)) 12 2 ∈ [1, 2, 3]
  slots : (regionsRead words).countP (fun r => decide (classCode words r.policy ∈ [1, 2])) ≤ 16
  log : ∀ (i j : Nat) (r q : Region), (regionsRead words)[i]? = some r → (regionsRead words)[j]? = some q →
    classCode words r.policy = 4 → classCode words q.policy = 4 → i = j ∧ r.count ≤ 64
  lanes : (bitField (imageWord words 2) 8 4 = 2 ∨ bitField (imageWord words 2) 8 4 = 3) ∧
    straps < bitField (imageWord words 2) 8 4

/-! The vote (R106). -/

/-- Two lanes are equal in a slot of an entry: both have the part's own slot count, and their pairs are equal (R106). -/
def EqualInSlot (own : Lane) (e : VoteEntry) (j : Nat) (l m : Lane) : Prop :=
  ∃ ps qs, lanePairs own e l = some ps ∧ lanePairs own e m = some qs ∧ ps.length = (e.own.getD []).length ∧
    qs.length = (e.own.getD []).length ∧ ps[j]? = qs[j]?

/-- The two reset commands. -/
def isReset : Instr → Bool
  | .powerReset _ => true
  | .pinReset _ _ => true
  | _ => false

end Sys2Proof.Machine
end

