-- ==== Sys2Proof/Certificates/Slice0/Obligations.lean ====
section
/-! DEFINITION. The statements for the provers.

The outcome of a command is written `.next (settle t)`: `t` is what the command's own rules leave, and `settle` is the
store port arbiter's decision that ends the step (R46); it does nothing while a burst holds the port or no request waits,
and it leaves the lane state, the vote unit, the view, HOLD, PERMIT and the queue of commands as they are (ArbiterDecides,
Laws/Frames.lean). A frame is written `t = { s with … }` with the blocks that the command changes. -/

open Sys2Proof Sys2Proof.Machine

/-! The machine: its queue of commands and the arbiter that ends each step. -/

/-- MODEL (notes/assumptions/1, 2, 25, 26): one step runs the command at the front of the queue with the queue's rest,
and no command changes that rest. On an empty queue a step queues the first of the part's own steps that is due, and with
none due one tick passes: ages grow (R43), timers and line times run (R86, R172), and the expiries that fall are queued. -/
def Obligations.StepRunsTheFrontCommand : Prop :=
  (∀ (c : Instr) (rest : List Instr) (s : State), s.pending = c :: rest →
    step s = exec c { s with pending := rest } ∧ ∀ t, step s = .next t → t.pending = rest) ∧
  ∀ s : State, s.pending = [] →
    (∀ i rest, ownSteps s = i :: rest → step s = .next { s with pending := [i] }) ∧
    (∀ i, i ∈ ownSteps s ↔
      (∃ p f rest, (getPort s p).received = f :: rest ∧ (getPort s p).peer.isSome = true ∧
        (Frame.kind f = .block ∨ Frame.kind f = .fetched → s.copy.received = none ∧ failureFound s = false) ∧
        i = deliveryOf p (Frame.kind f)) ∨
      (i = .admitVerify ∧ (verifyDue s).isSome = true) ∨ (i = .admitOffer ∧ (admitDue s).isSome = true) ∨
      (i = .repairStart ∧ (repairDue s).isSome = true) ∨ (i = .copyRequest ∧ (copyDue s).isSome = true)) ∧
    (ownSteps s = [] →
      ∃ t, step s = .next t ∧
        t = { s with
          port := { s.port with
            logAge := s.port.logAge.map (· + 1), recvAge := s.port.recvAge.map (· + 1),
            fillAge := s.port.fillAge.map (· + 1), copyAge := s.port.copyAge.map (· + 1),
            patrolAge := s.port.patrolAge.map (· + 1) }
          patrol := { s.patrol with pace := s.patrol.pace.map (· - 1) }
          link1 := { s.link1 with transmitter := t.link1.transmitter }
          link2 := { s.link2 with transmitter := t.link2.transmitter }
          vote := { s.vote with window := s.vote.window.map (· - 1), supervision := s.vote.supervision.map (· - 1) }
          lane := { s.lane with
            permitTimer := s.lane.permitTimer.map (· - 1), formation := s.lane.formation.map (· - 1),
            retry := s.lane.retry.map (· - 1) }
          copy := { s.copy with
            progress := s.copy.progress.map (· - 1), holdTimer := s.copy.holdTimer.map (· - 1),
            repairTimer := s.copy.repairTimer.map (· - 1) }
          log := { s.log with pulseTick := s.log.pulseTick.map (· - 1) }
          pending := t.pending } ∧
        (∀ p, (getPort t p).transmitter = match (getPort s p).transmitter with
          | .resting => .resting
          | .sending bytes n => .sending bytes (n - 40)
          | .gap n => .gap (n - 40)) ∧
        ∀ i, i ∈ t.pending ↔
          (∃ p bytes n, (getPort s p).transmitter = .sending bytes n ∧ n ≤ 40 ∧ i = .transmitFrameEnd p) ∨
          (∃ p n, (getPort s p).transmitter = .gap n ∧ n ≤ 40 ∧ i = .gapEnd p) ∨
          ∃ n, n ≤ 1 ∧
            (s.log.pulseTick = some n ∧ s.log.phase = .high ∧ i = .alertHighTickEnd ∨
              s.log.pulseTick = some n ∧ s.log.phase = .low ∧ i = .alertPulseEnd ∨
              s.patrol.pace = some n ∧ i = .paceTimerExpiry ∨ s.vote.window = some n ∧ i = .voteWindowExpiry ∨
              s.vote.supervision = some n ∧ i = .cycleSupervisionExpiry ∨
              s.lane.permitTimer = some n ∧ i = .permitTimerExpiry ∨
              s.lane.formation = some n ∧ i = .formationWindowExpiry ∨ s.lane.retry = some n ∧ i = .retryTimerExpiry ∨
              s.copy.progress = some n ∧ i = .progressTimerExpiry ∨ s.copy.holdTimer = some n ∧ i = .holdTimerExpiry ∨
              s.copy.repairTimer = some n ∧ i = .repairTimerExpiry))

/-- R46, R47, R50: who is granted at a decision, and when none is made. That the arbiter decides once, at the end of
a step, is the model's choice (notes/assumptions/32). -/
def Obligations.ArbiterDecides : Prop :=
  ∀ s : State,
    ((s.port.burst.isSome = true ∨ someRequest s.port = false) → settle s = s) ∧
    (s.port.burst = none → someRequest s.port = true → arbitrate s = carryOut (choose s) s) ∧
    (∀ b rest, s.port.drain = some (b :: rest) → choose s = .background b (some rest)) ∧
    (s.port.drain = none →
      (s.port.afterDrain = true ∧ procGrantable s = true → choose s = .proc) ∧
      (¬(s.port.afterDrain = true ∧ procGrantable s = true) →
        (∀ b rest, overdueClients (settings s).waitLimit s.port = b :: rest → choose s = .background b (some rest)) ∧
        (overdueClients (settings s).waitLimit s.port = [] →
          (procGrantable s = true → choose s = .proc) ∧
          (procGrantable s = false →
            (∀ b rest, waitingClients s.port = b :: rest → choose s = .background b none) ∧
            (waitingClients s.port = [] → choose s = .free))))) ∧
    (s.copy.catchUp ≠ .none → choose s ≠ .proc) ∧
    (s.port.burst = none → someRequest s.port = true → (arbitrate s).port.afterDrain = false)

/-! Resets (R153, R53, and the reset values of every chapter). -/

/-- R153, and the reset values of every chapter: POWER and PIN from any state leave the same, but for the retained fields,
the SRAM and the reset noted. The model's choices: the SUPPLY-LOW level kept (notes/assumptions/8), the zero SRAM after
POWER (notes/assumptions/7), the log writer's next sequence 1 and write position 0 after PIN (notes/assumptions/38), and the
queue of commands (notes/assumptions/1). -/
def Obligations.ResetsEnterStarting : Prop :=
  ∀ (s : State) (straps : BitVec 2) (written : Nat),
    ∃ t u : State, exec (.powerReset straps) s = .next t ∧ exec (.pinReset straps written) s = .next u ∧
      t.sram = [] ∧ t.lane.retainedState = .starting ∧ t.lane.retainedCause = none ∧ t.lane.retainedServing = false ∧
      u.lane.retainedState = s.lane.retainedState ∧ u.lane.retainedCause = s.lane.retainedCause ∧
      u.lane.retainedServing = s.lane.retainedServing ∧ (s.port.burst = none → u.sram = s.sram) ∧
      t.loader = { reset := .power, reading := true } ∧ u.loader = { reset := .pin, reading := true } ∧
      ∀ v, (v = t ∨ v = u) →
        v.lines = { straps := straps, supplyLow := s.lines.supplyLow, hold := true, permit := false, alert := false,
                    answer := none } ∧
        v.through = { access := none, merge := none } ∧ v.map = { image := none, lock := false, status := [] } ∧
        v.checker = { repeats := [], substs := [] } ∧
        v.port = { burst := none, procWaiting := false, logAge := none, recvAge := none, fillAge := none,
                   copyAge := none, patrolAge := none, drain := none, afterDrain := false } ∧
        v.sig = { live := [], snapCycle := 0, snap := [] } ∧
        v.patrol = { running := false, cursor := none, accumulator := none, void := false, pass := 0, pace := none } ∧
        (∀ p, getPort v p = { running := false, peer := none, control := [], bulk := [], reserved := 0,
                              transmitter := .resting, gathering := false, received := [], errors := ⟨0, 0, 0, 0⟩ }) ∧
        v.vote = { counter := 0, table := [], view := none, lastHeard := ⟨none, none, none⟩, lateCount := ⟨0, 0, 0⟩,
                   lastLate := ⟨none, none, none⟩, grace := none, window := none, supervision := none } ∧
        v.lane = { v.lane with state := .starting, attempts := 0, retry := none, retryDue := false, permitTimer := none,
                               formation := none } ∧
        v.copy = { attempt := 0, phase := .none, asked := none, secondAsked := false, expected := none,
                   admittedBy := none, verifying := none, serving := none, cursor := none, dirty := [],
                   catchUp := .none, tries := 0, kept := none, received := none, answers := [], job := none,
                   repairs := [], repair := none, progress := none, holdTimer := none, repairTimer := none } ∧
        v.clear = { pass := none, best := none, valid := 0 } ∧
        v.log = { running := false, next := some 1, queue := [], position := 0, owed := 0, phase := .idle,
                  pulseTick := none } ∧
        v.pending = s.pending

/-- R53: of the cells a burst has written in order over a memory, a PIN reset keeps those written before it and gives
the others back what they held. A burst keeps its cells so at every step (CutLaw, EveryStepKeepsTheSramCanonical). That
the words are reached in order is the model's reading (notes/assumptions/6). -/
def Obligations.PinResetCutsABurst : Prop :=
  ∀ (s : State) (b : Burst) (straps : BitVec 2) (written : Nat), s.port.burst = some b →
    (∀ m ws : List (Nat × SramCell), sramCanonical m = true → b.overwritten = cellsBefore m ws →
      s.sram = writeCells m ws →
      ∃ t, exec (.pinReset straps written) s = .next t ∧ t.sram = writeCells m (ws.take written)) ∧
    (CutLaw s → ∃ m ws t, b.overwritten.map (·.1) = ws.map (·.1) ∧ s.sram = writeCells m ws ∧
      exec (.pinReset straps written) s = .next t ∧ t.sram = writeCells m (ws.take written))

/-! The configuration image (R1 to R5, R9, R154 to R158). -/

/-- R155, R157, R158: an image that passes every check is loaded and the clear pass of STARTING begins; one that
fails sends the part to FAILED with ALERT held high and nothing loaded. The retained state at FAILED is the model's
choice (notes/assumptions/19). -/
def Obligations.ImageReadIsJudged : Prop :=
  ∀ (kind : ResetKind) (straps : BitVec 2) (low serving : Bool) (m : List (Nat × SramCell)) (st : LaneState)
    (cause : Option Cause) (q : List Instr) (words : List Word) (s : State),
    s = State.afterReset kind straps low m st cause serving q →
    (∀ im, loadImage? straps.toNat words = some im →
      ∃ t, exec (.imageReadComplete words) s = .next (settle t) ∧
        t = { s with loader := { s.loader with reading := false },
                     map := t.map, sig := t.sig, link1 := t.link1, link2 := t.link2, vote := t.vote,
                     patrol := t.patrol, port := t.port, clear := t.clear } ∧
        t.map.image = some im ∧ t.map.lock = false ∧
        t.map.status = im.regions.map (fun _ => ⟨0, 0, false, false⟩) ∧
        t.sig.live = (Image.slotRegions im).map (fun x => clearPair (x.1 + 1) (64 * x.2.count) im.fill) ∧
        (∀ p, p ∈ t.sig.snap → p = ⟨0, 0⟩) ∧ t.sig.snap.length = t.sig.live.length ∧
        t.link1 = { s.link1 with running := true, peer := wiredPeer im.laneCount straps.toNat .link1 } ∧
        t.link2 = { s.link2 with running := true, peer := wiredPeer im.laneCount straps.toNat .link2 } ∧
        t.vote = { s.vote with view := some ⟨.excluded, .excluded, if im.laneCount = 3 then .excluded else .absent⟩ } ∧
        t.patrol.running = false ∧ t.patrol.cursor = some (0, 0) ∧ t.patrol.pass = 1 ∧
        (∃ b, Image.nextBlock im (fun _ => true) 0 = some b ∧
          t.clear.pass = some { next := some b, joiner := false }) ∧
        t.port.fillAge = some 0) ∧
    (loadImage? straps.toNat words = none →
      exec (.imageReadComplete words) s =
        .next { s with loader := { s.loader with reading := false }, lines := { s.lines with alert := true },
                       lane := { s.lane with state := .failed, retainedState := .failed } })

/-- R155, R168: the loader accepts exactly the words that pass every check. R2, R3, R5, R69, R156: what an accepted image
holds is what its words say, the policies effective and the settings clamped. -/
def Obligations.AcceptedImageKeepsTheRules : Prop :=
  ∀ (straps : Nat) (words : List Word),
    ((loadImage? straps words).isSome = true ↔ ImageIsValid straps words) ∧
    ∀ im : Image, loadImage? straps words = some im →
    words.length ≥ 93 ∧ 1 ≤ im.regions.length ∧ im.regions.length ≤ 32 ∧ im.policies.length = 8 ∧
    (im.laneCount = 2 ∨ im.laneCount = 3) ∧ straps < im.laneCount ∧ 18 ≤ im.lines ∧ im.lines ≤ 21 ∧
    (∀ r ∈ im.regions, 1 ≤ r.count ∧ r.count ≤ 32768 ∧ r.first + r.count ≤ 2 ^ im.lines / 64 ∧ r.policy ≤ 7) ∧
    (∀ (i : Nat) (r : Region), im.regions[i]? = some r → ∀ b, Region.covers r b = true → Image.locate im b = Image.locateRegion im i) ∧
    (Image.slotRegions im).length ≤ 16 ∧
    (∀ (i j : Nat) (r q : Region), im.regions[i]? = some r → im.regions[j]? = some q → Image.isLog im r = true → Image.isLog im q = true →
      i = j ∧ r.count ≤ 64) ∧
    (∀ p ∈ im.policies, (p.cls = .constant ∨ p.cls = .voted → p.copy = true) ∧ (p.cls = .log → p.copy = false)) ∧
    im.lines = 17 + bitField (imageWord words 2) 0 3 ∧ im.laneCount = bitField (imageWord words 2) 8 4 ∧
    im.fill = imageWord words 3 ∧ im.regions = regionsRead words ∧ im.digest = digestRead words ∧
    (∀ k, k < 8 → ∃ p : Policy, im.policies[k]? = some p ∧
      (p.cls = .constant ↔ classCode words k = 1) ∧ (p.cls = .voted ↔ classCode words k = 2) ∧
      (p.cls = .plain ↔ classCode words k = 3) ∧ (p.cls = .log ↔ classCode words k = 4) ∧
      (p.cls = .plain → p.copy = decide (bitField (imageWord words (17 + k)) 4 2 = 1) ∧
        p.isolates = decide (bitField (imageWord words (17 + k)) 8 2 = 2)) ∧
      (p.reporting = .every ↔ bitField (imageWord words (17 + k)) 12 2 = 1) ∧
      (p.reporting = .firstPerPass ↔ bitField (imageWord words (17 + k)) 12 2 = 2) ∧
      (p.reporting = .none ↔ bitField (imageWord words (17 + k)) 12 2 = 3)) ∧
    im.settings = {
      waitLimit := max 1 (min (imageWord words 4).toNat 255)
      patrolInterval := max 10 (min (imageWord words 5).toNat 65535)
      linkDivisor := max 4 (min (imageWord words 6).toNat 255)
      voteWindow := max 1 (min (imageWord words 7).toNat 255)
      cycleLimit := max 10 (min (imageWord words 8).toNat 2550)
      lateThreshold := max 1 (min (imageWord words 9).toNat 7)
      attemptLimit := min (imageWord words 10).toNat 15
      retryDelay := max 1 (min (imageWord words 11).toNat 255)
      formationWindow := max 10 (min (imageWord words 12).toNat 2550)
      progressLimit := max 1 (min (imageWord words 13).toNat 255)
      catchUpThreshold := min (imageWord words 14).toNat 64
      holdLimit := max 1 (min (imageWord words 15).toNat 255)
      tryLimit := max 1 (min (imageWord words 16).toNat 15) } ∧
    im.clamped = [
      decide (im.settings.waitLimit ≠ (imageWord words 4).toNat),
      decide (im.settings.patrolInterval ≠ (imageWord words 5).toNat),
      decide (im.settings.linkDivisor ≠ (imageWord words 6).toNat),
      decide (im.settings.voteWindow ≠ (imageWord words 7).toNat),
      decide (im.settings.cycleLimit ≠ (imageWord words 8).toNat),
      decide (im.settings.lateThreshold ≠ (imageWord words 9).toNat),
      decide (im.settings.attemptLimit ≠ (imageWord words 10).toNat),
      decide (im.settings.retryDelay ≠ (imageWord words 11).toNat),
      decide (im.settings.formationWindow ≠ (imageWord words 12).toNat),
      decide (im.settings.progressLimit ≠ (imageWord words 13).toNat),
      decide (im.settings.catchUpThreshold ≠ (imageWord words 14).toNat),
      decide (im.settings.holdLimit ≠ (imageWord words 15).toNat),
      decide (im.settings.tryLimit ≠ (imageWord words 16).toNat)]

/-! Check codes (R17, R18, R19, R171). -/

/-- R17: the check code of a word at its address is the exclusive-or of the columns of its data bits and the address values
of its address lines in use. R18, R19: a word stored at an address with its check code reads CLEAN there. -/
def Obligations.StoredWordReadsClean : Prop :=
  (∀ (lines address : Nat) (v : Word), lines ≤ 21 →
    checkCode lines address v =
      ((List.range 32).map (fun i => if v.getLsbD i then dataColumns.getD i 0 else 0)).foldl (· ^^^ ·) 0 ^^^
        ((List.range lines).map (fun l => if address.testBit l then addressValues.getD l 0 else 0)).foldl (· ^^^ ·) 0) ∧
  ∀ (lines address : Nat) (v : Word), classifyCell lines address (encodeCell lines address v) = .clean v

/-- R18: the syndrome of a cell alone decides the outcome of a read, and R19 gives the value; columns have odd weight and address
values even weight, and no value stands in two places, so no syndrome fits two rows of the table. One wrong bit of the 40
always gives CORRECTED, with the stored value and that bit named; two wrong bits give ADDRESS or UNCORRECTABLE; the word of a
neighbouring address gives ADDRESS. -/
def Obligations.WrongBitsAreClassified : Prop :=
  (∀ c ∈ dataColumns ++ checkColumns, ((List.range 8).countP (fun i => c.getLsbD i)) % 2 = 1) ∧
  (∀ c ∈ addressValues, ((List.range 8).countP (fun i => c.getLsbD i)) % 2 = 0) ∧
  (dataColumns ++ checkColumns ++ addressValues).Nodup ∧ (0 : Byte) ∉ dataColumns ++ checkColumns ++ addressValues ∧
  (∀ (lines address : Nat) (cell : SramCell) (v : Word) (syn : Byte), v = cell.setWidth 32 →
    syn = checkCode lines address v ^^^ (cell >>> 32).setWidth 8 →
    (syn = 0 → classifyCell lines address cell = .clean v) ∧
    (∀ i, dataColumns[i]? = some syn → classifyCell lines address cell = .corrected (v ^^^ (1#32 <<< i)) syn i) ∧
    (∀ i, checkColumns[i]? = some syn → classifyCell lines address cell = .corrected v syn (32 + i)) ∧
    (∀ l, l < lines → addressValues[l]? = some syn → classifyCell lines address cell = .address v syn l) ∧
    (syn ≠ 0 → syn ∉ dataColumns → syn ∉ checkColumns → syn ∉ addressValues.take lines →
      classifyCell lines address cell = .uncorrectable v syn)) ∧
  (∀ (lines address : Nat) (v : Word) (l : Nat), l < lines → lines ≤ 21 → address < 2 ^ lines →
    classifyCell lines (address ^^^ 2 ^ l) (encodeCell lines address v) = .address v (addressValues.getD l 0) l) ∧
  ∀ (lines address : Nat) (v : Word) (i : Nat), i < 40 →
    classifyCell lines address (encodeCell lines address v ^^^ (1#40 <<< i)) =
        .corrected v ((dataColumns ++ checkColumns).getD i 0) i ∧
    ∀ j, i < j → j < 40 →
      (∃ raw syn, classifyCell lines address (encodeCell lines address v ^^^ (1#40 <<< i) ^^^ (1#40 <<< j)) =
        .uncorrectable raw syn) ∨
      (∃ raw syn l, classifyCell lines address (encodeCell lines address v ^^^ (1#40 <<< i) ^^^ (1#40 <<< j)) =
        .address raw syn l)

/-- R17, R18: a cell read at an address that differs in one line in use gives ADDRESS, naming the line. -/
def Obligations.WrongAddressLineIsSeen : Prop :=
  ∀ (lines address : Nat) (v : Word) (l : Nat), l < lines → lines ≤ 21 → address < 2 ^ lines →
    classifyCell lines (address ^^^ 2 ^ l) (encodeCell lines address v) = .address v (addressValues.getD l 0) l

/-! Region signatures (R54, R55, R57, R63, R77). -/

/-- R55, R63: the pair of a region is the seed plus the sum of its words, and the sum of its words by their weights; the
clear-state value is that of the fill pattern in every word. -/
def Obligations.SignatureIsTheWeightedSum : Prop :=
  ∀ (seed n : Nat) (fill : Word) (words : List Word), seed < Config.M →
    clearPair seed n fill = signatureOf seed (List.replicate n fill) ∧
    signatureOf seed words =
      { a := (seed + ((List.range words.length).map (fun p => (words.getD p 0).toNat)).sum) % Config.M,
        b := ((List.range words.length).map (fun p => (p + 1) * (words.getD p 0).toNat)).sum % Config.M }

/-- R57: the delta of a write is the difference of its words by R54; a write in a signature region adds it to the live pair of
its slot, to A as it stands and to B by its weight; equal words add nothing, the order of two writes does not matter, and the
signature of the region's old words becomes that of its new words. The law of R54: each operation gives a value below M,
and every step keeps every live, snapshot and accumulator value below M. -/
def Obligations.DeltaKeepsTheSignature : Prop :=
  (∀ x y, x < Config.M → y < Config.M → sigAdd x y = (x + y) % Config.M) ∧
  (∀ q x, sigMul q x = q * x % Config.M) ∧
  (∀ old new : Word, delta old new < Config.M ∧
    (delta old new : Int) = if old.toNat ≤ new.toNat then (new.toNat : Int) - old.toNat
      else (new.toNat : Int) - old.toNat + Config.M) ∧
  (∀ (pr : Pair) (p d : Nat), Pair.inRange pr → d < Config.M →
    pairAdd pr p d = ⟨(pr.a + d) % Config.M, (pr.b + (p + 1) * d) % Config.M⟩ ∧ Pair.inRange (pairAdd pr p d) ∧
    (∀ w, pairAdd pr p (delta w w) = pr) ∧
    ∀ q e, e < Config.M → pairAdd (pairAdd pr p d) q e = pairAdd (pairAdd pr q e) p d) ∧
  (∀ (loc : Located) (a k : Nat) (old new : Word) (s : State), loc.slot = some k →
    (applyDelta loc a old new s).sig =
      { s.sig with live := s.sig.live.modify k (fun pr => pairAdd pr (a - 64 * loc.region.first) (delta old new)) }) ∧
  (∀ (seed : Nat) (words : List Word) (p : Nat) (old new : Word), seed < Config.M → words[p]? = some old →
    pairAdd (signatureOf seed words) p (delta old new) = signatureOf seed (words.set p new)) ∧
  ∀ s t : State, PairLaw s → step s = .next t → PairLaw t

/-- R77, R79: the accumulator that a walk has folded up to a block, adjusted for a write below the cursor, is what the walk
folds from the written words; a write at or above the cursor, or of another region, does not change it. -/
def Obligations.PatrolFoldsTheSignature : Prop :=
  ∀ (seed : Nat) (done rest : List Word), seed < Config.M →
    foldRead ⟨seed, 0⟩ 0 (done.map some) = signatureOf seed done ∧
    foldRead (foldRead ⟨seed, 0⟩ 0 (done.map some)) done.length (rest.map some) = signatureOf seed (done ++ rest) ∧
    ∀ (p region k : Nat) (old new : Word) (pt : Patrol), done[p]? = some old → p / 64 < k →
      pt.cursor = some (region, k) → pt.accumulator = some (foldRead ⟨seed, 0⟩ 0 (done.map some)) →
      patrolAdjust region p (delta old new) pt =
        { pt with accumulator := some (foldRead ⟨seed, 0⟩ 0 ((done.set p new).map some)) } ∧
        (∀ d q, k ≤ q / 64 → patrolAdjust region q d pt = pt) ∧
        (∀ d q r, r ≠ region → patrolAdjust r q d pt = pt)

/-! The through path and the processor's bursts (R10 to R12, R21 to R32). -/

/-- R10, R11, R12, R21, R22: a refused access is answered at once with ERROR and reported, and changes nothing else; any
other access is held with its PROC request placed. The report of a refused read carries its byte enables beside the first
detail too, which is the model's way to hold them (notes/assumptions/34). -/
def Obligations.AccessIsRefusedOrRequested : Prop :=
  ∀ (s : State) (address data : Word) (isWrite : Bool) (enables : BitVec 4), takesAccess s = true →
    (refusalAtTaking s (accessOf address isWrite enables data) =
      match locate s (address.toNat / 4 / 64) with
      | none => some .unmapped
      | some loc =>
        if isWrite = false then none
        else if loc.policy.cls = .log then some .logWrite
        else if loc.policy.cls = .constant ∧ s.map.lock = true then some .locked
        else if enables ∈ [1#4, 2#4, 4#4, 8#4, 3#4, 12#4, 15#4] then none
        else some .byteEnables) ∧
    (refusalAtTaking s (accessOf address isWrite enables data) = none →
      ∃ t, exec (.accessTaken address isWrite enables data) s = .next (settle t) ∧
        t = { s with lines := { s.lines with answer := none },
                     through := { s.through with access := some (accessOf address isWrite enables data) },
                     port := { s.port with procWaiting := true } } ∧
        (s.port.burst.isSome = true → settle t = t)) ∧
    ∀ reason, refusalAtTaking s (accessOf address isWrite enables data) = some reason →
      ∃ t r, exec (.accessTaken address isWrite enables data) s = .next (settle t) ∧
        t = { s with lines := { s.lines with answer := some { data := if isWrite then none else some 0, error := true } },
                     through := { access := none, merge := none }, log := (offer r s).log, port := (offer r s).port } ∧
        r.kind = .accessRefused ∧ r.state = s.lane.state ∧ r.cycle = s.vote.counter ∧ r.pass = s.patrol.pass ∧
        r.enables = (if isWrite then none else some enables) ∧
        r.names = (locate s (address.toNat / 4 / 64)).map (·.index) ∧ r.place = BitVec.ofNat 32 (address.toNat / 4) ∧
        r.detail2 = (if isWrite then data else 0) ∧
        r.detail1 = BitVec.ofNat 32 (enables.toNat + (if isWrite then 2 ^ 8 else 0) + RefusalReason.code reason * 2 ^ 16)

/-- R35, R36, R37: one update of the repeat table, and what it does at count 3. R23, R24, R33: a granted read of a good
word returns it without ERROR; a corrected one is counted (R15), entered in the repeat table, reported as R7 and R40 give,
and written back, and its reports carry the byte enables (R22). The answer is given at the end of the burst
(notes/assumptions/3), and the enables stand in the report outside the words of its record (notes/assumptions/34). -/
def Obligations.ReadReturnsAGoodWord : Prop :=
  (∀ (c : WordChecker) (a : Nat) (v : Word) (origin : Origin) (others : List RepeatEntry) (n : Nat) (mark : Bool),
    ((∀ e ∈ c.repeats, e.address ≠ a) ∧ n = 1 ∧ mark = false ∧
        others = (if c.repeats.length < 8 then c.repeats else c.repeats.tail) ∨
      ∃ above e below, c.repeats = above ++ e :: below ∧ e.address = a ∧ (∀ x ∈ above ++ below, x.address ≠ a) ∧
        n = (if e.count < 3 then e.count + 1 else 3) ∧ mark = e.noSpare ∧ others = above ++ below) →
    (n < 3 → repeatUpdate c a v origin = ({ c with repeats := others ++ [⟨a, n, mark⟩] }, .nothing)) ∧
    (n = 3 → c.substs.length < 16 →
      repeatUpdate c a v origin = ({ repeats := others, substs := c.substs ++ [⟨a, v, origin⟩] }, .substituted)) ∧
    (n = 3 → 16 ≤ c.substs.length →
      repeatUpdate c a v origin =
        ({ c with repeats := others ++ [⟨a, 3, true⟩] }, if mark = true then .nothing else .noSpare))) ∧
  ∀ (s : State) (address data v : Word) (enables : BitVec 4) (loc : Located),
    takesAccess s = true → QuietPort s → sramCanonical s.sram = true →
    locate s (address.toNat / 4 / 64) = some loc →
    (readWord s (address.toNat / 4) = .clean v →
      exec (.accessTaken address false enables data) s =
        .next { s with lines := { s.lines with answer := none },
                       through := { s.through with access := some (accessOf address false enables data) },
                       port := { s.port with procWaiting := false, afterDrain := false,
                                             burst := some ⟨.proc, some ⟨some v, false⟩, .nothing, []⟩ } }) ∧
    (∀ syn wrong, readWord s (address.toNat / 4) = .corrected v syn wrong →
      ∃ t w made news, exec (.accessTaken address false enables data) s = .next t ∧
        t = { s with lines := { s.lines with answer := none },
                     through := { s.through with access := some (accessOf address false enables data) },
                     map := t.map, checker := t.checker, sram := t.sram, port := t.port, log := t.log } ∧
        t.port.burst = some ⟨.proc, some ⟨some v, false⟩, .nothing, w⟩ ∧ t.port.procWaiting = false ∧
        readWord t (address.toNat / 4) = .clean v ∧ OtherWordsKept s t (fun b => b = address.toNat / 4) ∧
        (statusOf s loc.index).uncorrectable = (statusOf t loc.index).uncorrectable ∧
        (loc.index < s.map.status.length → (statusOf t loc.index).corrected =
          if (statusOf s loc.index).corrected < 65535 then (statusOf s loc.index).corrected + 1 else 65535) ∧
        (∀ i, i ≠ loc.index → statusOf t i = statusOf s i) ∧
        t.map.image = s.map.image ∧ t.map.lock = s.map.lock ∧
        t.checker = (repeatUpdate s.checker (address.toNat / 4) v .correction).1 ∧
        t.log = logAfter s (made ++ news) ∧
        (loc.policy.reporting = .every ∨ loc.policy.reporting = .firstPerPass ∧ (statusOf s loc.index).reported = false →
          ∃ r : Report, made = [r] ∧ r.kind = .corrected ∧ r.enables = some enables ∧ r.names = some loc.index ∧
            r.place = BitVec.ofNat 32 (address.toNat / 4) ∧
            r.detail1 = BitVec.ofNat 32 (1 + syn.toNat * 2 ^ 8 + wrong * 2 ^ 16) ∧
            r.detail2 = BitVec.ofNat 32
              ((statusOf t loc.index).corrected + (statusOf t loc.index).uncorrectable * 2 ^ 16)) ∧
        (loc.policy.reporting = .none ∨ loc.policy.reporting = .firstPerPass ∧ (statusOf s loc.index).reported = true →
          made = []) ∧
        (loc.index < s.map.status.length → (statusOf t loc.index).reported =
          (decide (loc.policy.reporting = .firstPerPass) || (statusOf s loc.index).reported)) ∧
        (∀ u, repeatUpdate s.checker (address.toNat / 4) v .correction = (t.checker, u) →
          (u = .nothing → news = []) ∧
          (u = .substituted → ∃ r : Report, news = [r] ∧ r.kind = .substituted ∧ r.names = some loc.index ∧
            r.place = BitVec.ofNat 32 (address.toNat / 4) ∧ r.enables = some enables ∧
            r.detail1 = BitVec.ofNat 32 (1 + t.checker.substs.length * 2 ^ 8) ∧ r.detail2 = v) ∧
          (u = .noSpare → ∃ r : Report, news = [r] ∧ r.kind = .noSpare ∧ r.names = some loc.index ∧
            r.place = BitVec.ofNat 32 (address.toNat / 4) ∧ r.detail1 = BitVec.ofNat 32 (3 + 16 * 2 ^ 8) ∧
            r.enables = some enables ∧ r.detail2 = v)))

/-- R6, R15, R25, R150: a granted read of a bad word returns it as read with ERROR, leaves the SRAM as it was, raises the
region's count, offers the report of R40 with the read's byte enables (R22; outside the record, notes/assumptions/34), and
leaves the class action: a cause for the end of the burst, or an entry of the repair list, REPAIR-DEFERRED if it is full. -/
def Obligations.ReadOfABadWordIsAnError : Prop :=
  ∀ (s : State) (address data raw : Word) (syn : Byte) (enables : BitVec 4) (loc : Located),
    takesAccess s = true → QuietPort s → locate s (address.toNat / 4 / 64) = some loc →
    (readWord s (address.toNat / 4) = .uncorrectable raw syn ∨
      ∃ l, readWord s (address.toNat / 4) = .address raw syn l) →
    ∃ t e made more, exec (.accessTaken address false enables data) s = .next t ∧
      t = { s with lines := { s.lines with answer := none },
                   through := { s.through with access := some (accessOf address false enables data) },
                   map := t.map, copy := { s.copy with repairs := t.copy.repairs }, port := t.port, log := t.log } ∧
      t.port.burst = some ⟨.proc, some ⟨some raw, true⟩, e, []⟩ ∧ t.port.procWaiting = false ∧
      (loc.index < s.map.status.length → (statusOf t loc.index).uncorrectable =
        if (statusOf s loc.index).uncorrectable < 65535 then (statusOf s loc.index).uncorrectable + 1 else 65535) ∧
      t.map.image = s.map.image ∧ t.map.lock = s.map.lock ∧
      (loc.policy.cls = .voted ∨ (loc.policy.cls = .plain ∧ loc.policy.isolates = true) →
        (running s = true → e = .leave .memory (some loc.index)) ∧ (s.lane.state = .joining → e = .failAttempt .memory)) ∧
      (loc.policy.cls = .constant ∨ loc.policy.cls = .log ∨ (loc.policy.cls = .plain ∧ loc.policy.isolates = false) →
        e = .nothing) ∧
      (t.copy.repairs =
        if loc.policy.cls = .constant ∧ running s = true ∧ address.toNat / 4 / 64 ∉ s.copy.repairs ∧
            s.copy.repairs.length < 4 then s.copy.repairs ++ [address.toNat / 4 / 64]
        else s.copy.repairs) ∧
      t.log = logAfter s (made :: more) ∧ (∀ r ∈ made :: more, r.enables = some enables ∧ r.names = some loc.index) ∧
      made.place = BitVec.ofNat 32 (address.toNat / 4) ∧
      made.detail2 = BitVec.ofNat 32 ((statusOf t loc.index).corrected + (statusOf t loc.index).uncorrectable * 2 ^ 16) ∧
      (readWord s (address.toNat / 4) = .uncorrectable raw syn →
        made.kind = .uncorrectable ∧ made.detail1 = BitVec.ofNat 32 (1 + syn.toNat * 2 ^ 8)) ∧
      (∀ l, readWord s (address.toNat / 4) = .address raw syn l →
        made.kind = .addressFault ∧ made.detail1 = BitVec.ofNat 32 (1 + syn.toNat * 2 ^ 8 + l * 2 ^ 16)) ∧
      (loc.policy.cls = .constant ∧ running s = true ∧ address.toNat / 4 / 64 ∉ s.copy.repairs ∧
          4 ≤ s.copy.repairs.length →
        ∃ r : Report, more = [r] ∧ r.kind = .repairDeferred ∧ r.place = BitVec.ofNat 32 (address.toNat / 4 / 64)) ∧
      (¬ (loc.policy.cls = .constant ∧ running s = true ∧ address.toNat / 4 / 64 ∉ s.copy.repairs ∧
          4 ≤ s.copy.repairs.length) → more = [])

/-- R27, R30, R31, R32, R57: a granted full-word write stores its data; in a signature region a good old word gives
the delta of the slot's live pair, and a bad one sets the broken flag and has the lane leave with SIGNATURE-BROKEN.
The place that SIGNATURE-BROKEN names is left free (notes/assumptions/20). -/
def Obligations.FullWriteStoresItsData : Prop :=
  ∀ (s : State) (address data : Word) (loc : Located),
    takesAccess s = true → QuietPort s → sramCanonical s.sram = true →
    locate s (address.toNat / 4 / 64) = some loc →
    refusalAtTaking s (accessOf address true 15#4 data) = none →
    ∃ t e w, exec (.accessTaken address true 15#4 data) s = .next t ∧
      t = { s with lines := { s.lines with answer := none },
                   through := { s.through with access := some (accessOf address true 15#4 data) },
                   map := t.map, checker := t.checker, sram := t.sram, port := t.port, log := t.log,
                   sig := { s.sig with live := t.sig.live }, patrol := { s.patrol with accumulator := t.patrol.accumulator },
                   copy := { s.copy with dirty := t.copy.dirty } } ∧
      t.port.burst = some ⟨.proc, some ⟨none, false⟩, e, w⟩ ∧ t.port.procWaiting = false ∧
      readWord t (address.toNat / 4) = .clean data ∧ OtherWordsKept s t (fun b => b = address.toNat / 4) ∧
      t.copy.dirty = (handToCopyEngine loc (address.toNat / 4 / 64) s).copy.dirty ∧
      (loc.slot = none → t.sig = s.sig ∧ t.patrol = s.patrol ∧ t.map = s.map ∧ e = .nothing) ∧
      (∀ k, loc.slot = some k →
        (∀ old, (readWord s (address.toNat / 4) = .clean old ∨
            ∃ syn wrong, readWord s (address.toNat / 4) = .corrected old syn wrong) →
          e = .nothing ∧
          t.sig.live = s.sig.live.modify k
            (fun pr => pairAdd pr (address.toNat / 4 - 64 * loc.region.first) (delta old data)) ∧
          t.patrol = patrolAdjust loc.index (address.toNat / 4 - 64 * loc.region.first) (delta old data) s.patrol) ∧
        (∀ raw syn, (readWord s (address.toNat / 4) = .uncorrectable raw syn ∨
            ∃ l, readWord s (address.toNat / 4) = .address raw syn l) →
          (∃ n, e = .leave .signatureBroken n) ∧ t.sig = s.sig ∧ t.patrol = s.patrol ∧
          (loc.index < s.map.status.length → (statusOf t loc.index).broken = true)))

/-- R28, R29, R30: a granted partial write merges its bytes into a good old word and stores the whole; over a bad old word
it is refused with ERROR and stores nothing. -/
def Obligations.PartialWriteMergesOrIsRefused : Prop :=
  ∀ (s : State) (address data : Word) (enables : BitVec 4) (loc : Located),
    takesAccess s = true → QuietPort s → sramCanonical s.sram = true → enables ≠ 15#4 →
    locate s (address.toNat / 4 / 64) = some loc →
    refusalAtTaking s (accessOf address true enables data) = none →
    ∃ t e w a, exec (.accessTaken address true enables data) s = .next t ∧
      t = { s with lines := { s.lines with answer := none }, through := t.through,
                   map := t.map, checker := t.checker, sram := t.sram, port := t.port, log := t.log,
                   sig := { s.sig with live := t.sig.live }, patrol := { s.patrol with accumulator := t.patrol.accumulator },
                   copy := { s.copy with dirty := t.copy.dirty, repairs := t.copy.repairs } } ∧
      t.port.burst = some ⟨.proc, some a, e, w⟩ ∧ t.port.procWaiting = false ∧
      OtherWordsKept s t (fun b => b = address.toNat / 4) ∧
      (∀ old, (readWord s (address.toNat / 4) = .clean old ∨
          ∃ syn wrong, readWord s (address.toNat / 4) = .corrected old syn wrong) →
        ∃ v : Word, a = ⟨none, false⟩ ∧ e = .nothing ∧
          (∀ k < 4, ∀ i < 8, v.getLsbD (8 * k + i) =
            if enables.getLsbD k = true then data.getLsbD (8 * k + i) else old.getLsbD (8 * k + i)) ∧
          readWord t (address.toNat / 4) = .clean v ∧
          t.copy.dirty = (handToCopyEngine loc (address.toNat / 4 / 64) s).copy.dirty ∧
          (loc.slot = none → t.sig = s.sig ∧ t.patrol = s.patrol) ∧
          (∀ k, loc.slot = some k → t.sig.live = s.sig.live.modify k
            (fun pr => pairAdd pr (address.toNat / 4 - 64 * loc.region.first) (delta old v)))) ∧
      (∀ raw syn, (readWord s (address.toNat / 4) = .uncorrectable raw syn ∨
          ∃ l, readWord s (address.toNat / 4) = .address raw syn l) →
        a = ⟨none, true⟩ ∧ w = [] ∧ t.sram = s.sram ∧ t.checker = s.checker ∧ t.sig = s.sig ∧ t.patrol = s.patrol ∧
        t.copy.dirty = s.copy.dirty ∧
        (running s = true → loc.policy.cls = .voted → e = .leave .memory (some loc.index)))

/-- R32, R143: a processor write marks its block dirty while the part serves, if its region is copyable, the block lies
behind the copy cursor and it is not in the queue. -/
def Obligations.ProcessorWritesMarkBlocksDirty : Prop :=
  ∀ (s : State) (loc : Located) (block : Nat),
    handToCopyEngine loc block s = { s with copy := { s.copy with dirty :=
      if loc.copyable = true ∧ s.copy.serving.isSome = true ∧ block ∉ s.copy.dirty ∧
          (match s.copy.cursor with | some .complete => true | some (.at c) => decide (block < c) | none => false) = true
      then s.copy.dirty ++ [block] else s.copy.dirty } }

/-- R11: while the lock flag is set, no processor write changes a word of a CONSTANT region; whatever access is granted,
only the word it is for can change. A CONSTANT write that finds the lock flag set at its grant is answered with ERROR
and reported as LOCKED, and the grant ends at once with nothing else changed. -/
def Obligations.LockedConstantWordsStayAsTheyAre : Prop :=
  ∀ (s : State) (acc : Access), s.through.access = some acc → s.port.burst = none →
    OtherWordsKept s (grantProc s) (fun b => b = acc.word) ∧
    (acc.isWrite = true → s.map.lock = true →
      ∀ a loc, locate s (a / 64) = some loc → loc.policy.cls = .constant → readWord (grantProc s) a = readWord s a) ∧
    (∀ loc, acc.isWrite = true → s.map.lock = true → locate s (acc.word / 64) = some loc → loc.policy.cls = .constant →
      ∃ r : Report, grantProc s = { s with
          lines := { s.lines with answer := some ⟨none, true⟩ }
          through := { access := none, merge := none }
          log := (offer r s).log
          port := (offer r s).port } ∧
        (grantProc s).port.burst = none ∧
        r.kind = .accessRefused ∧ r.state = s.lane.state ∧ r.cycle = s.vote.counter ∧ r.pass = s.patrol.pass ∧
        r.names = some loc.index ∧ r.place = BitVec.ofNat 32 acc.word ∧ r.enables = none ∧
        r.detail1 = BitVec.ofNat 32 (acc.enables.toNat + 2 ^ 8 + 3 * 2 ^ 16) ∧ r.detail2 = acc.data)

/-! The bursts of the background clients (R33, R74 to R81, R134, R142, R152, R158, R164, R165). -/

/-- R164, R165, R166, R170: a LOG burst writes the record of the report at the head of the queue at the write
position. The cells change and the pulse begins at the grant, the model's choice (notes/assumptions/3). -/
def Obligations.LogBurstWritesTheRecord : Prop :=
  ∀ (s : State) (n : Nat) (r : Report) (rest : List (Nat × Report)) (region : Region),
    s.log.queue = (n, r) :: rest → logRegion s = some region → sramCanonical s.sram = true →
    ∃ t w d alert,
      grantLog s = t ∧
      t = { s with lines := { s.lines with alert := alert }, checker := { s.checker with substs := t.checker.substs },
                   sram := t.sram, log := t.log,
                   port := { s.port with burst := some ⟨.background .log, none, .nothing, w⟩ } } ∧
      d = BitVec.ofNat 32 (RecordKind.code r.kind + LaneState.code r.state * 2 ^ 8 + r.names.getD 255 * 2 ^ 16) ∧
      (∀ j v, [BitVec.ofNat 32 n, d, r.cycle, r.place, r.detail1, r.detail2, r.pass,
          BitVec.ofNat 32 n + d + r.cycle + r.place + r.detail1 + r.detail2 + r.pass + 1][j]? = some v →
        readWord t (64 * region.first + 8 * s.log.position + j) = .clean v) ∧
      OtherWordsKept s t (fun b => b / 8 = 8 * region.first + s.log.position) ∧
      t.log.queue = rest ∧ t.log.next = s.log.next ∧ t.log.running = s.log.running ∧
      t.log.position = (if s.log.position + 1 < 8 * region.count then s.log.position + 1 else 0) ∧
      t.log.owed = (if s.log.owed < 255 then s.log.owed + 1 else 255) ∧
      (s.log.phase = .idle → alert = true ∧ t.log.phase = .high) ∧
      (s.log.phase ≠ .idle → alert = s.lines.alert ∧ t.log.phase = s.log.phase ∧ t.log.pulseTick = s.log.pulseTick)

/-- R63, R64, R131, R158: a FILL burst writes the fill pattern into the 64 words of its block, or zero words into a LOG block
after POWER, counting and reporting nothing; the pass goes on to the next block it treats. R159: after PIN a LOG block is read
in place, its corrected words written back and its bad ones counted; the valid records among its eight slots are counted, and
the highest sequence of the scan is kept with its slot, the lower slot of equals. -/
def Obligations.FillBurstWritesItsBlock : Prop :=
  ∀ (s : State) (b : Nat) (joiner : Bool) (loc : Located),
    s.clear.pass = some { next := some b, joiner := joiner } → locate s b = some loc → sramCanonical s.sram = true →
    (∀ v : Word, (loc.policy.cls ≠ .log → v = fillPattern s) →
      (loc.policy.cls = .log → s.loader.reset = .power ∧ v = 0) →
      ∃ t w, grantFill s = t ∧
        t = { s with checker := { s.checker with substs := t.checker.substs }, sram := t.sram,
                     clear := { s.clear with pass := some { next := nextToClear s joiner (b + 1), joiner := joiner } },
                     port := { s.port with burst := some ⟨.background .fill, none, .nothing, w⟩ } } ∧
        (∀ a, a / 64 = b → readWord t a = .clean v) ∧ OtherWordsKept s t (fun a => a / 64 = b)) ∧
    (loc.policy.cls = .log → s.loader.reset = .pin →
      ∃ t w slots, grantFill s = t ∧
        t = { s with map := { s.map with status := t.map.status }, checker := t.checker, sram := t.sram, log := t.log,
                     clear := { t.clear with pass := some { next := nextToClear s joiner (b + 1), joiner := joiner } },
                     port := t.port } ∧
        t.port.burst = some ⟨.background .fill, none, .nothing, w⟩ ∧ Scrubbed loc (64 * b) s t ∧
        (s.log.running = false → t.log = s.log) ∧
        slots.Nodup ∧ (∀ k, k ∈ slots ↔ k < 8 ∧ ∃ n, RecordAt s b k n) ∧
        t.clear.valid = s.clear.valid + slots.length ∧
        (slots = [] → t.clear.best = s.clear.best) ∧
        (∀ k n, k < 8 → RecordAt s b k n → ∃ q j, t.clear.best = some (q, j) ∧ n ≤ q) ∧
        (∀ q j, s.clear.best = some (q, j) → ∃ q' j', t.clear.best = some (q', j') ∧ q ≤ q') ∧
        ∀ q j, t.clear.best = some (q, j) → s.clear.best = some (q, j) ∨
          ∃ k, k < 8 ∧ RecordAt s b k q ∧ j = 8 * (b - loc.region.first) + k ∧ (∀ i, i < k → ¬ RecordAt s b i q) ∧
            ∀ q' j', s.clear.best = some (q', j') → q' < q)

/-- R134, R57, R60: a RECV burst of a joiner stores the 64 words of the received block, each with the delta over a good old
word; over a bad old word of a signature region the broken flag is set and the attempt fails at the end of the burst. -/
def Obligations.RecvBurstWritesTheBlock : Prop :=
  ∀ (s : State) (b : Nat) (words : List Word) (loc : Located),
    s.copy.received = some (.block b words) → words.length = 64 → locate s b = some loc → sramCanonical s.sram = true →
    ∃ t e w, grantRecv s = t ∧
      t = { s with map := t.map, checker := t.checker, sram := t.sram, log := t.log, port := t.port,
                   sig := { s.sig with live := t.sig.live }, patrol := { s.patrol with accumulator := t.patrol.accumulator },
                   copy := { s.copy with received := none } } ∧
      t.port.burst = some ⟨.background .recv, none, e, w⟩ ∧
      (∀ j v, words[j]? = some v → readWord t (64 * b + j) = .clean v) ∧ OtherWordsKept s t (fun a => a / 64 = b) ∧
      (loc.slot = none → t.sig = s.sig ∧ t.patrol = s.patrol ∧ t.map = s.map ∧ e = .nothing) ∧
      (∀ (k : Nat) (old : Nat → Word), loc.slot = some k → (∀ j < 64, readWord s (64 * b + j) = .clean (old j)) →
        e = .nothing ∧ t.map = s.map ∧ t.log = s.log ∧
        t.sig.live = s.sig.live.modify k (fun pr => (List.range 64).foldl
          (fun pr j => pairAdd pr (64 * b + j - 64 * loc.region.first) (delta (old j) (words.getD j 0))) pr)) ∧
      (∀ k j raw syn, loc.slot = some k → j < 64 → readWord s (64 * b + j) = .uncorrectable raw syn →
        e = .failAttempt .signatureBroken ∧
        (loc.index < s.map.status.length → (statusOf t loc.index).broken = true))

/-- R152, R60: a RECV burst for a repair writes the fetched words in place of the bad local ones, with no delta, unless a
good local word differs from its fetched one: then nothing is written of it and the lane leaves with REPAIR-DISAGREE. -/
def Obligations.RepairBurstWritesTheBadWords : Prop :=
  ∀ (s : State) (b : Nat) (words : List Word) (loc : Located),
    s.copy.received = some (.fetched b words) → words.length = 64 → locate s b = some loc → sramCanonical s.sram = true →
    (∀ j < 64, ∀ v syn wrong, readWord s (64 * b + j) ≠ .corrected v syn wrong) →
    ∃ t e w, grantRecv s = t ∧
      t = { s with map := t.map, checker := t.checker, sram := t.sram, log := t.log, port := t.port,
                   copy := { s.copy with received := none, repair := none,
                                         repairs := s.copy.repairs.filter (fun x => decide (x ≠ b)) } } ∧
      t.port.burst = some ⟨.background .recv, none, e, w⟩ ∧ OtherWordsKept s t (fun a => a / 64 = b) ∧
      ((∀ j v, j < 64 → readWord s (64 * b + j) = .clean v → words[j]? = some v) →
        e = .nothing ∧ (∀ j v, words[j]? = some v → readWord t (64 * b + j) = .clean v)) ∧
      ((∃ j v, j < 64 ∧ readWord s (64 * b + j) = .clean v ∧ words[j]? ≠ some v) →
        e = .leave .repairDisagree none ∧ w = [] ∧ t.sram = s.sram ∧ t.checker = s.checker)

/-- R74, R76, R77, R78, R80, R81: a PATROL burst scrubs the 64 words of its block, folds the good ones of a signature region
into the accumulator, voids the walk at a bad one, and moves the cursor; a bad word has the class action of R6 follow. Over
a block of good words no word changes. At the end of a region whose walk is not void and whose accumulator differs from the
live pair it reports and, in FORMING or MEMBER, has the lane leave with SIGNATURE. -/
def Obligations.PatrolBurstWalksABlock : Prop :=
  (∀ (s : State) (i k slot : Nat) (loc : Located) (acc live : Pair) (words : List Word),
    s.patrol.cursor = some (i, k) → locateRegion s i = some loc → words.length = 64 →
    (∀ j v, words[j]? = some v → readWord s (64 * (loc.region.first + k) + j) = .clean v) →
    loc.slot = some slot → s.patrol.accumulator = some acc → s.sig.live[slot]? = some live →
    (k + 1 < loc.region.count →
      grantPatrol s = { s with
        patrol := { s.patrol with accumulator := some (foldRead acc (64 * k) (words.map some)),
                                  cursor := some (i, k + 1) }
        port := { s.port with burst := some ⟨.background .patrol, none, .nothing, []⟩ } }) ∧
    (k + 1 = loc.region.count →
      ∃ t e, grantPatrol s = t ∧
        t = { s with patrol := t.patrol, port := t.port, map := t.map, log := t.log } ∧
        t.port.burst = some ⟨.background .patrol, none, e, []⟩ ∧ t.patrol.void = false ∧
        t.patrol.running = s.patrol.running ∧ t.patrol.pace = s.patrol.pace ∧
        (i + 1 < regionCount s → t.patrol.cursor = some (i + 1, 0) ∧ t.patrol.pass = s.patrol.pass) ∧
        (regionCount s ≤ i + 1 → t.patrol.cursor = some (0, 0) ∧ t.patrol.pass = s.patrol.pass + 1) ∧
        (s.patrol.void = true ∨ (statusOf s i).broken = true ∨ foldRead acc (64 * k) (words.map some) = live →
          e = .nothing ∧ t.log = s.log) ∧
        (s.patrol.void = false → (statusOf s i).broken = false → foldRead acc (64 * k) (words.map some) ≠ live →
          (running s = true → e = .leave .signature (some slot)) ∧
          (s.lane.state = .joining → e = .failAttempt .signature) ∧
          ∃ r : Report, t.log = (offer r s).log ∧ r.kind = .signatureFault ∧ r.names = some slot ∧
            r.place = BitVec.ofNat 32 (loc.region.first + k)))) ∧
  ∀ (s : State) (i k : Nat) (loc : Located) (values : List (Option Word)),
    s.patrol.cursor = some (i, k) → locateRegion s i = some loc → sramCanonical s.sram = true →
    values = blockRead s (64 * (loc.region.first + k)) →
    ∃ t e w, grantPatrol s = t ∧ Scrubbed loc (64 * (loc.region.first + k)) s t ∧
      t = { s with patrol := t.patrol, port := t.port, map := { s.map with status := t.map.status }, checker := t.checker,
                   sram := t.sram, log := t.log, copy := { s.copy with repairs := t.copy.repairs } } ∧
      t.port.burst = some ⟨.background .patrol, none, e, w⟩ ∧
      (k + 1 < loc.region.count →
        t.patrol = { s.patrol with
          accumulator := if loc.slot.isSome = true then
              s.patrol.accumulator.map (fun acc => foldRead acc (64 * k) values) else s.patrol.accumulator
          void := s.patrol.void || (loc.slot.isSome && decide (none ∈ values))
          cursor := some (i, k + 1) }) ∧
      (loc.region.count ≤ k + 1 →
        t.patrol.void = false ∧ t.patrol.running = s.patrol.running ∧ t.patrol.pace = s.patrol.pace ∧
        (i + 1 < regionCount s → t.patrol.cursor = some (i + 1, 0) ∧ t.patrol.pass = s.patrol.pass) ∧
        (regionCount s ≤ i + 1 → t.patrol.cursor = some (0, 0) ∧ t.patrol.pass = s.patrol.pass + 1)) ∧
      (none ∉ values → t.copy.repairs = s.copy.repairs ∧
        (loc.slot = none ∨ k + 1 < loc.region.count → e = .nothing)) ∧
      (none ∈ values →
        (loc.policy.cls = .voted ∨ (loc.policy.cls = .plain ∧ loc.policy.isolates = true) →
          (running s = true → e = .leave .memory (some i)) ∧ (s.lane.state = .joining → e = .failAttempt .memory) ∧
          (running s = false → s.lane.state ≠ .joining → e = .nothing)) ∧
        (loc.policy.cls = .constant ∨ loc.policy.cls = .log ∨ (loc.policy.cls = .plain ∧ loc.policy.isolates = false) →
          e = .nothing) ∧
        t.copy.repairs =
          if loc.policy.cls = .constant ∧ running s = true ∧ loc.region.first + k ∉ s.copy.repairs ∧
              s.copy.repairs.length < 4 then s.copy.repairs ++ [loc.region.first + k]
          else s.copy.repairs)

/-- R142, R144: a COPY burst for the restoration served scrubs its block, moves the cursor or takes the block off the dirty
queue, and leaves a BLOCK frame for the end of the burst, or the end of serving if a word was bad. R149: a burst for a kept
FETCH answer scrubs its block and leaves a FETCHED frame, or REFUSE if a word was bad; the answer is taken at the grant. -/
def Obligations.CopyBurstReadsTheBlock : Prop :=
  (∀ (s : State) (p : PortId) (joiner : Lane) (attempt b : Nat) (loc : Located) (words : List Word),
    s.copy.job = some (.restore p) → s.copy.serving = some (joiner, attempt) → locate s b = some loc →
    (s.copy.cursor = some (.at b) ∨ (s.copy.cursor = some .complete ∧ s.copy.dirty.head? = some b)) →
    words.length = 64 → (∀ j v, words[j]? = some v → readWord s (64 * b + j) = .clean v) →
    grantCopy s = { s with
      copy := { s.copy with
        job := none
        cursor := if s.copy.cursor = some (.at b) then
            some (match nextCopyable s (b + 1) with | some c => .at c | none => .complete) else s.copy.cursor
        dirty := if s.copy.cursor = some (.at b) then s.copy.dirty else s.copy.dirty.tail }
      port := { s.port with burst := some ⟨.background .copy, none, .sendBlock p attempt b words, []⟩ } }) ∧
  (∀ (s : State) (p : PortId) (joiner : Lane) (attempt b : Nat) (loc : Located),
    s.copy.job = some (.restore p) → s.copy.serving = some (joiner, attempt) → locate s b = some loc →
    (s.copy.cursor = some (.at b) ∨ (s.copy.cursor = some .complete ∧ s.copy.dirty.head? = some b)) →
    sramCanonical s.sram = true →
    ∃ t e w, grantCopy s = t ∧ Scrubbed loc (64 * b) s t ∧
      t = { s with map := { s.map with status := t.map.status }, checker := t.checker, sram := t.sram, log := t.log,
                   port := t.port, copy := { s.copy with
                     job := none
                     cursor := if s.copy.cursor = some (.at b) then
                         some (match nextCopyable s (b + 1) with | some c => .at c | none => .complete) else s.copy.cursor
                     dirty := if s.copy.cursor = some (.at b) then s.copy.dirty else s.copy.dirty.tail } } ∧
      t.port.burst = some ⟨.background .copy, none, e, w⟩ ∧
      (∀ words : List Word, blockRead s (64 * b) = words.map some → e = .sendBlock p attempt b words) ∧
      (none ∈ blockRead s (64 * b) → e = .damaged p b true)) ∧
  ∀ (s : State) (p : PortId) (b : Nat) (loc : Located) (older newer : List (PortId × Nat)),
    s.copy.job = some (.answer p) → s.copy.answers = older ++ (p, b) :: newer → (∀ x ∈ older ++ newer, x.1 ≠ p) →
    locate s b = some loc → sramCanonical s.sram = true →
    ∃ t e w, grantCopy s = t ∧ Scrubbed loc (64 * b) s t ∧
      t = { s with map := { s.map with status := t.map.status }, checker := t.checker, sram := t.sram, log := t.log,
                   port := t.port, copy := { s.copy with job := none, answers := older ++ newer } } ∧
      t.port.burst = some ⟨.background .copy, none, e, w⟩ ∧
      (∀ words : List Word, blockRead s (64 * b) = words.map some → e = .sendFetched p b words) ∧
      (none ∈ blockRead s (64 * b) → e = .refuseFetched p b)

/-! The store port's commands (R21, R41, R43 to R47, R73, R142, R158 to R160, R166). -/

/-- R21, R41, R47, R122, R123, R128, R142, R148, R149: at the end of a burst the port is free, a drain whose last member it
was is over, the processor has its answer, and what the burst found follows: a cause isolates the lane, or fails the
attempt; a frame fills its reserved slot; a bad block of the restoration ends serving with DAMAGED and then takes the class
action of R6, and a bad block of a FETCH has REFUSE offered and takes it too. The order of what ends with a burst, and a vote
that is left complete, are the model's choice (notes/assumptions/3, 4, 13). -/
def Obligations.BurstEndAnswersThenLeaves : Prop :=
  ∀ (s : State) (b : Burst), s.port.burst = some b → b.owner ≠ .background .fill →
    (b.atEnd = .nothing → NoVoteDue s →
      ∃ t, exec .burstEnd s = .next (settle t) ∧
        t = { s with lines := { s.lines with answer := if b.answer.isSome then b.answer else s.lines.answer },
                     through := if b.answer.isSome then { access := none, merge := none } else s.through,
                     port := t.port } ∧
        t.port.burst = none ∧ t.port.procWaiting = s.port.procWaiting ∧
        (∀ c, c ≠ .log → ageOf t.port c = ageOf s.port c) ∧ (s.log.queue ≠ [] → waits t.port .log = true) ∧
        (s.port.drain = some [] → t.port.drain = none ∧ t.port.afterDrain = true) ∧
        (s.port.drain ≠ some [] → t.port.drain = s.port.drain ∧ t.port.afterDrain = s.port.afterDrain)) ∧
    (∀ cause names, b.atEnd = .leave cause names → running s = true → s.lines.hold = false →
      ∃ t, exec .burstEnd s = .next (settle t) ∧ t.port.burst = none ∧
        t.lane.state = .isolated ∧ t.lane.retainedCause = some cause ∧ t.lines.hold = true ∧ t.vote.table = [] ∧
        t.copy.serving = none ∧ t.copy.repairs = [] ∧ (∀ a, b.answer = some a → t.lines.answer = some a) ∧
        t.through.access = (if b.answer.isSome ∨ s.port.procWaiting = true then none else s.through.access) ∧
        t.sram = s.sram ∧ t.checker = s.checker ∧ t.sig = s.sig ∧ t.map = s.map ∧ t.vote.counter = s.vote.counter) ∧
    (∀ cause, b.atEnd = .failAttempt cause → s.lane.state = .joining → NoVoteDue s →
      ∃ t, exec .burstEnd s = .next (settle t) ∧ t.port.burst = none ∧ t.lane.state = .isolated ∧
        t.lane.retainedCause = some cause ∧ t.copy.phase = .none ∧ t.copy.received = none ∧ t.copy.progress = none ∧
        t.lines.hold = s.lines.hold ∧ (∀ a, b.answer = some a → t.lines.answer = some a) ∧
        t.sram = s.sram ∧ t.checker = s.checker ∧ t.sig = s.sig ∧ t.map = s.map ∧ t.vote.counter = s.vote.counter) ∧
    (∀ p f, (∃ attempt n words, b.atEnd = .sendBlock p attempt n words ∧ f = .block attempt n words) ∨
        (∃ n words, b.atEnd = .sendFetched p n words ∧ f = .fetched n words) →
      NoVoteDue s → LinkPort.active (getPort s p) = true →
      1 ≤ (getPort s p).reserved → (getPort s p).bulk.length + (getPort s p).reserved ≤ 4 →
      (getPort s p).transmitter ≠ .resting →
      ∃ t, exec .burstEnd s = .next (settle t) ∧
        getPort t p = { getPort s p with reserved := (getPort s p).reserved - 1, bulk := (getPort s p).bulk ++ [f] } ∧
        t.copy = s.copy ∧ t.lane = s.lane ∧ t.vote = s.vote ∧ t.sram = s.sram) ∧
    (∀ p n joiner attempt loc, b.atEnd = .damaged p n true → s.copy.serving = some (joiner, attempt) →
      s.lane.state = .member → s.copy.job = none → locate s n = some loc →
      ∃ t u, exec .burstEnd s = .next (settle t) ∧ t = placeLog (voteIfComplete u) ∧ u.port.burst = none ∧
        u.copy.serving = none ∧ u.copy.dirty = [] ∧ u.copy.cursor = none ∧ u.copy.catchUp = .none ∧
        u.copy.progress = none ∧ u.copy.holdTimer = none ∧ u.lane.retainedServing = false ∧
        (joiner ≠ ownLane s → standing u joiner = .excluded) ∧
        (portTo s joiner = some p → LinkPort.active (getPort s p) = true → (getPort s p).control.length < 8 →
          (getPort s p).transmitter ≠ .resting → .abandon attempt .damaged ∈ (getPort u p).control) ∧
        (loc.policy.cls = .voted ∨ (loc.policy.cls = .plain ∧ loc.policy.isolates = true) →
          u.lane.state = .isolated ∧ u.lane.retainedCause = some .memory ∧ u.lines.hold = true ∧ u.copy.repairs = []) ∧
        (loc.policy.cls = .constant →
          u.lane.state = .member ∧ u.copy.repairs =
            if n ∉ s.copy.repairs ∧ s.copy.repairs.length < 4 then s.copy.repairs ++ [n] else s.copy.repairs) ∧
        (loc.policy.cls = .log ∨ (loc.policy.cls = .plain ∧ loc.policy.isolates = false) →
          u.lane.state = .member ∧ u.copy.repairs = s.copy.repairs) ∧
        u.sram = s.sram ∧ u.checker = s.checker ∧ u.sig = s.sig ∧ u.map = s.map) ∧
    (∀ p n loc, b.atEnd = .refuseFetched p n → locate s n = some loc → loc.policy.cls = .constant → running s = true →
      NoVoteDue s → LinkPort.active (getPort s p) = true → (getPort s p).control.length < 8 →
      (getPort s p).transmitter ≠ .resting →
      ∃ t, exec .burstEnd s = .next (settle t) ∧ t.port.burst = none ∧
        getPort t p = { getPort s p with reserved := (getPort s p).reserved - 1,
                                         control := (getPort s p).control ++ [.refuse (.fetch n) .damaged] } ∧
        t.copy = { s.copy with repairs :=
          if n ∉ s.copy.repairs ∧ s.copy.repairs.length < 4 then s.copy.repairs ++ [n] else s.copy.repairs } ∧
        t.lane = s.lane ∧ t.vote = s.vote ∧ t.sram = s.sram ∧ t.map = s.map)

/-- R43, R131, R158, R159, R160: the end of a FILL burst places the next request, or ends the clear pass: a joiner
moves to REQUEST with its patrol running, and a part in STARTING starts its log and its formation window, unless a
member peer has been heard. A member peer heard during the pass is looked at once the pass is over
(notes/assumptions/4). -/
def Obligations.FillBurstEndGoesOn : Prop :=
  ∀ (s : State) (b : Burst), s.port.burst = some b → b.owner = .background .fill → b.atEnd = .nothing →
    b.answer = none → NoVoteDue s →
    ∃ t, exec .burstEnd s = .next (settle t) ∧ t.port.burst = none ∧ t.sram = s.sram ∧ t.checker = s.checker ∧
      t.map.image = s.map.image ∧
      (∀ n j, s.clear.pass = some { next := some n, joiner := j } →
        t = { s with port := t.port } ∧ waits t.port .fill = true) ∧
      (s.clear.pass = some { next := none, joiner := true } → s.lane.state = .joining → s.copy.phase = .clear →
        t.clear = { s.clear with pass := none } ∧ t.copy.phase = .request ∧ t.patrol.running = true ∧
        t.patrol.pace = some (settings s).patrolInterval ∧ t.lane = s.lane ∧
        ∀ l, chooseSource s = some l →
          t.copy.asked = some l ∧ t.copy.progress = some ((settings s).progressLimit * 1000)) ∧
      (s.clear.pass = some { next := none, joiner := false } → memberHeard s = false →
        t.clear = { s.clear with pass := none } ∧ t.log.running = true ∧
        t.lane = { s.lane with formation := some ((settings s).formationWindow * 1000) } ∧ t.vote = s.vote ∧
        t.log.position = (match s.clear.best with
          | some (_, slot) => if slot + 1 < recordSlots s then slot + 1 else 0
          | none => 0) ∧
        ∀ r, logRegion s = some r → s.log.queue = [] → (∀ n j, s.clear.best = some (n, j) → n < 4294967295) →
          ∃ rep, t.log.queue.head? = some ((match s.clear.best with | some (n, _) => n + 1 | none => 1), rep) ∧
            rep.kind = .started ∧ rep.detail2 = BitVec.ofNat 32 s.clear.valid) ∧
      (s.clear.pass = some { next := none, joiner := false } → memberHeard s = true →
        t.log.running = true ∧
        t.lane.state = (if s.lines.supplyLow then .isolated else .joining) ∧ t.lines.hold = true)

/-- R43, R45, R73, R93, R142: an overdue request's age, the patrol's request at a pace expiry, and the copy engine's
request with its reserved slot. Which work COPY_REQUEST serves first is the model's choice (notes/assumptions/14). -/
def Obligations.RequestsArePlaced : Prop :=
  ∀ s : State,
    (∀ c n, ageOf s.port c = some n →
      exec (.requestOverdue c) s =
        .next (settle { s with port := setAge s.port c (some (max n (settings s).waitLimit)) }) ∧
      isOverdue (settings s).waitLimit (setAge s.port c (some (max n (settings s).waitLimit))) c = true) ∧
    (s.patrol.running = true → s.patrol.pace.isSome = true →
      ∃ t, exec .paceTimerExpiry s = .next (settle t) ∧ waits t.port .patrol = true ∧
        t = { s with patrol := { s.patrol with pace := some (settings s).patrolInterval },
                     port := { s.port with patrolAge := some (s.port.patrolAge.getD 0) } }) ∧
    (s.patrol.running = false → exec .paceTimerExpiry s = .next s) ∧
    (∀ joiner attempt p, s.copy.answers = [] → s.copy.serving = some (joiner, attempt) → portTo s joiner = some p →
      s.port.copyAge = none → holdsPort s.port (.background .copy) = false →
      (getPort s p).bulk.length + (getPort s p).reserved < 4 → (blockToSend s.copy).isSome = true →
      ∃ t, exec .copyRequest s = .next (settle t) ∧
        t = setPort { s with copy := { s.copy with job := some (.restore p) },
                             port := { s.port with copyAge := some 0 } } p
              { getPort s p with reserved := (getPort s p).reserved + 1 })

/-- R166: the two halves of an ALERT pulse; the next pulse follows while the count is still above zero. A command of
another phase does nothing (notes/assumptions/2). -/
def Obligations.AlertPulsesOncePerRecord : Prop :=
  ∀ s : State,
    (s.log.phase = .high →
      exec .alertHighTickEnd s = .next (settle { s with
        lines := { s.lines with alert := false }, log := { s.log with phase := .low, pulseTick := some 1 } })) ∧
    (s.log.phase ≠ .high → exec .alertHighTickEnd s = .next s) ∧
    (s.log.phase = .low →
      ∃ t, exec .alertPulseEnd s = .next (settle t) ∧
        t = { s with lines := { s.lines with alert := t.lines.alert },
                     log := { s.log with owed := s.log.owed - 1, phase := t.log.phase, pulseTick := t.log.pulseTick } } ∧
        (t.log.owed = 0 → t.log.phase = .idle ∧ t.log.pulseTick = none ∧ t.lines.alert = s.lines.alert) ∧
        (t.log.owed ≠ 0 → t.log.phase = .high ∧ t.log.pulseTick = some 1 ∧ t.lines.alert = true)) ∧
    (s.log.phase ≠ .low → exec .alertPulseEnd s = .next s)

/-- R163: a report offered to the running writer takes the next number, and a numbered report joins the queue while that
holds fewer than 8; the number after 4,294,967,295 is exhausted. -/
def Obligations.ReportsAreNumberedAndQueued : Prop :=
  ∀ (s : State) (r : Report) (n : Nat),
    (s.log.running = false → offer r s = s) ∧
    (s.log.running = true → s.log.next = none → offer r s = s) ∧
    (s.log.running = true → s.log.next = some n →
      (offer r s) = { s with log := (offer r s).log, port := (offer r s).port } ∧
      (offer r s).log = { s.log with
        next := if n = 4294967295 then none else some (n + 1)
        queue := if (logRegion s).isSome = true ∧ s.log.queue.length < 8 then s.log.queue ++ [(n, r)]
          else s.log.queue } ∧
      ((logRegion s).isSome = true → s.log.queue.length < 8 → holdsPort s.port (.background .log) = false →
        waits (offer r s).port .log = true) ∧
      (∀ c, c ≠ .log → ageOf (offer r s).port c = ageOf s.port c))

/-! The vote unit and lane control (R65, R98 to R129, R161). -/

/-- R65, R99, R100, R104, R13, R145: an own mark in FORMING or MEMBER raises the own cycle counter by one and votes an entry
whose window runs; where that vote takes the lane out the mark ends there. Else the snapshot is taken, SIGNATURE is offered,
the entry is voted if every voter is present and otherwise waits with its window running, supervision starts afresh, and
a mark in FORMING sets the lock flag. Elsewhere the edge is ignored. That it is ignored between the grant of a burst that
found an isolating cause and that burst's end is the model's reading (notes/assumptions/5), and so is the lock flag by the
lane state before the entry's own vote (notes/assumptions/11). -/
def Obligations.OwnMarkOpensItsEntry : Prop :=
  ∀ s : State,
    (running s = false → exec .ownMark s = .next s) ∧
    ((foundCause s).isSome = true → exec .ownMark s = .next s) ∧
    (∀ b cause names, s.port.burst = some b → b.atEnd = .leave cause names → exec .ownMark s = .next s) ∧
    (running s = true → foundCause s = none → ∃ t u, exec .ownMark s = .next (settle t) ∧
      t.vote.counter = s.vote.counter + 1 ∧ u.vote.counter = s.vote.counter + 1 ∧
      (windowEntry s = none → u = { s with vote := { s.vote with counter := s.vote.counter + 1 } }) ∧
      (∀ e, windowEntry s = some e → u = castVote e { s with vote := { s.vote with counter := s.vote.counter + 1 } }) ∧
      (running u = false → t = u) ∧
      (running u = true →
        t.sig = { u.sig with snapCycle := u.vote.counter, snap := u.sig.live } ∧
        t.map = { u.map with lock := u.map.lock || decide (u.lane.state = .forming) } ∧
        ((∃ l, l ≠ ownLane s ∧ PerLane.get (votersAtMark u) l = true ∧
            ∀ e ∈ u.vote.table, e.cycle = u.vote.counter → PerLane.get e.peers l = none) →
          t = { u with sig := t.sig, map := t.map, vote := t.vote, copy := t.copy, link1 := t.link1, link2 := t.link2,
                       log := t.log, port := t.port } ∧
          t.vote.window = some ((settings s).voteWindow * 1000) ∧
          t.vote.supervision = some ((settings s).cycleLimit * 1000) ∧ t.vote.view = u.vote.view ∧
          (∀ e ∈ t.vote.table, e.cycle = u.vote.counter →
            e.own = some u.sig.live ∧ e.voters = some (votersAtMark u) ∧ e.window = true ∧
            e.forming = decide (u.lane.state = .forming)) ∧
          (∃ e ∈ t.vote.table, e.cycle = u.vote.counter) ∧
          (∀ e, e.cycle ≠ u.vote.counter → (e ∈ t.vote.table ↔ e ∈ u.vote.table)) ∧
          (∀ p, LinkPort.active (getPort u p) = true → (getPort u p).control.length < 8 →
            (getPort u p).transmitter ≠ .resting →
            getPort t p = { getPort u p with control := (getPort u p).control ++
              [.signature u.vote.counter u.lane.state (viewOf u) u.sig.live] }) ∧
          t.copy = (if u.copy.serving.isSome = true ∧ u.copy.cursor = some .complete ∧ u.copy.catchUp = .none ∧
              u.copy.dirty.length ≤ (settings s).catchUpThreshold then
            { u.copy with catchUp := .hold, holdTimer := some ((settings s).holdLimit * 1000),
                          kept := some { cycle := u.vote.counter, view := viewOf u, pairs := u.sig.live } }
            else u.copy)) ∧
        ((∀ l, l ≠ ownLane s → PerLane.get (votersAtMark u) l = true →
            (∃ e ∈ u.vote.table, e.cycle = u.vote.counter) ∧
            ∀ e ∈ u.vote.table, e.cycle = u.vote.counter → (PerLane.get e.peers l).isSome = true) →
          t.vote.window = none ∧ ∀ e ∈ t.vote.table, e.cycle ≠ u.vote.counter) ∧
        ((∀ l, l ≠ ownLane s → PerLane.get (votersAtMark u) l = false) →
          t.lane.state = .member ∧ t.vote.lateCount = u.vote.lateCount ∧
          t.vote.supervision = some ((settings s).cycleLimit * 1000) ∧
          (u.lane.state = .forming → t.lines.hold = false ∧ t.lane.attempts = 0 ∧ standing t (ownLane s) = .member) ∧
          (u.lane.state = .member → t.lines = u.lines ∧ t.vote.view = u.vote.view))))

/-- R105, R106: the voters of an entry that are present, the results of its slots over their pairs, and what they come to.
R105, R107, R108, R109, R114: the entry whose window runs is voted at the expiry: a missing voter is counted late and at
the late threshold EXCLUDED, a present peer's count becomes 0; without a majority in some slot the lane isolates with NO-MAJORITY and every
present peer is EXCLUDED, else each minority peer is, and a minority lane isolates with MINORITY, else one that a present peer
does not see as MEMBER with NOT-SEEN; an agreed formation makes it MEMBER. The late count stops at 7
(notes/assumptions/29). A vote while a burst in progress has found a cause is taken in the running lane (notes/assumptions/5). -/
def Obligations.WindowExpiryVotesTheEntry : Prop :=
  (∀ (own : Lane) (e : VoteEntry),
    (∀ l, (l ∈ presentVoters own e ↔ (∃ v, e.voters = some v ∧ PerLane.get v l = true) ∧ (lanePairs own e l).isSome = true) ∧
      (l ∈ lateVoters own e ↔ (∃ v, e.voters = some v ∧ PerLane.get v l = true) ∧ lanePairs own e l = none) ∧
      (lanePairs own e l = if l = own then e.own else (PerLane.get e.peers l).map (·.pairs))) ∧
    (slotResults own e).length = (if (e.own.getD []).length = 0 then 1 else (e.own.getD []).length) ∧
    (∀ j r, (slotResults own e)[j]? = some r →
      (presentVoters own e = [.zero, .one, .two] →
        (EqualInSlot own e j .zero .one → EqualInSlot own e j .one .two → r = .agree) ∧
        (EqualInSlot own e j .zero .one → ¬ EqualInSlot own e j .one .two → r = .minority .two) ∧
        (EqualInSlot own e j .zero .two → ¬ EqualInSlot own e j .zero .one → r = .minority .one) ∧
        (EqualInSlot own e j .one .two → ¬ EqualInSlot own e j .zero .one → r = .minority .zero) ∧
        (¬ EqualInSlot own e j .zero .one → ¬ EqualInSlot own e j .zero .two → ¬ EqualInSlot own e j .one .two →
          r = .noMajority)) ∧
      (∀ l m, presentVoters own e = [l, m] →
        (EqualInSlot own e j l m → r = .agree) ∧ (¬ EqualInSlot own e j l m → r = .noMajority)) ∧
      (∀ l, presentVoters own e = [l] → r = .unchecked)) ∧
    (∀ rs : List SlotResult, (lacksMajority rs = true ↔ .noMajority ∈ rs) ∧
      ∀ l, l ∈ minorityLanes rs ↔ .minority l ∈ rs) ∧
    ∀ grace, notSeen own grace e = true ↔ e.forming = false ∧
      (∀ g, grace = some g → ¬ (1 ≤ (e.cycle - (g - 3)).toNat ∧ (e.cycle - (g - 3)).toNat ≤ 3)) ∧
      ∃ l f, l ∈ presentVoters own e ∧ l ≠ own ∧ PerLane.get e.peers l = some f ∧ PerLane.get f.view own ≠ .member) ∧
  ∀ (s : State) (e : VoteEntry), running s = true → s.vote.window.isSome = true → windowEntry s = some e →
    ∃ t, exec .voteWindowExpiry s = .next (settle t) ∧ t.vote.window = none ∧ (∀ x ∈ t.vote.table, x.cycle ≠ e.cycle) ∧
      t.vote.counter = s.vote.counter ∧ t.sram = s.sram ∧ t.checker = s.checker ∧ t.sig = s.sig ∧ t.map = s.map ∧
      (∀ l, l ∈ lateVoters (ownLane s) e →
        PerLane.get t.vote.lateCount l =
          (if PerLane.get s.vote.lateCount l < 7 then PerLane.get s.vote.lateCount l + 1 else 7) ∧
        PerLane.get t.vote.lastLate l = some e.cycle ∧
        (l ≠ ownLane s → (settings s).lateThreshold ≤ PerLane.get t.vote.lateCount l → standing t l = .excluded) ∧
        (l ≠ ownLane s → PerLane.get t.vote.lateCount l < (settings s).lateThreshold → s.copy.serving = none →
          standing t l = standing s l)) ∧
      (∀ l, l ∈ presentVoters (ownLane s) e → PerLane.get t.vote.lastLate l = PerLane.get s.vote.lastLate l ∧
        (l ≠ ownLane s → PerLane.get t.vote.lateCount l = 0)) ∧
      (∀ l, l ∉ lateVoters (ownLane s) e → l ∉ presentVoters (ownLane s) e →
        PerLane.get t.vote.lateCount l = PerLane.get s.vote.lateCount l ∧
        PerLane.get t.vote.lastLate l = PerLane.get s.vote.lastLate l) ∧
      (lacksMajority (slotResults (ownLane s) e) = true →
        t.lane.state = .isolated ∧ t.lane.retainedCause = some .noMajority ∧ t.lines.hold = true ∧
        ∀ l, l ≠ ownLane s → l ∈ presentVoters (ownLane s) e → standing t l = .excluded) ∧
      (lacksMajority (slotResults (ownLane s) e) = false →
        (∀ l, l ≠ ownLane s → l ∈ minorityLanes (slotResults (ownLane s) e) → l ∈ presentVoters (ownLane s) e →
          standing t l = .excluded) ∧
        (ownLane s ∈ minorityLanes (slotResults (ownLane s) e) →
          t.lane.state = .isolated ∧ t.lane.retainedCause = some .minority ∧ t.lines.hold = true) ∧
        (ownLane s ∉ minorityLanes (slotResults (ownLane s) e) →
          (e.forming = true → s.lane.state = .forming → t.lane.state = .member ∧ t.lines.hold = false ∧
            ∀ l, l ≠ ownLane s → l ∈ presentVoters (ownLane s) e →
              l ∉ minorityLanes (slotResults (ownLane s) e) → standing t l = .member) ∧
          (e.forming = false → notSeen (ownLane s) s.vote.grace e = true →
            t.lane.state = .isolated ∧ t.lane.retainedCause = some .notSeen ∧ t.lines.hold = true) ∧
          (e.forming = false → notSeen (ownLane s) s.vote.grace e = false →
            t.lane.state = s.lane.state ∧ t.lines.hold = s.lines.hold)))

/-- R110, R115, R122, R123, R124: silence on CYCLE isolates the lane with STALL: HOLD, the vote table empty, no serving, no
repair work, the attempt count 0 and the retry timer running if the limit allows an attempt. -/
def Obligations.StallIsolatesTheLane : Prop :=
  ∀ s : State, s.vote.supervision.isSome = true → running s = true →
    ∃ t, exec .cycleSupervisionExpiry s = .next (settle t) ∧ t.lane.state = .isolated ∧
      t.lane.retainedState = .isolated ∧ t.lane.retainedCause = some .stall ∧ t.lane.attempts = 0 ∧
      t.lane.retryDue = false ∧ t.lane.formation = none ∧ t.lane.permitTimer = none ∧
      t.lane.retry = (if 0 < (settings s).attemptLimit then some ((settings s).retryDelay * 100 * 1000) else none) ∧
      t.lines.hold = true ∧ t.lines.permit = s.lines.permit ∧
      t.vote.table = [] ∧ t.vote.window = none ∧ t.vote.supervision = none ∧ t.vote.grace = none ∧
      standing t (ownLane s) = .excluded ∧ t.copy.serving = none ∧ t.copy.repairs = [] ∧ t.copy.repair = none ∧
      t.copy.answers = [] ∧ t.copy.repairTimer = none ∧
      (s.copy.serving.isSome = true → t.copy.dirty = [] ∧ t.copy.cursor = none ∧ t.copy.catchUp = .none ∧
        t.copy.progress = none ∧ t.copy.holdTimer = none) ∧
      t = { s with lines := t.lines, through := t.through, port := t.port, link1 := t.link1, link2 := t.link2,
                   vote := t.vote, lane := t.lane, copy := t.copy, log := t.log }

/-- R119: PERMIT changes level at each expiry of the permit timer, which starts again with its half-period. -/
def Obligations.PermitTimerTogglesPermit : Prop :=
  ∀ s : State,
    (s.lane.permitTimer.isSome = true →
      exec .permitTimerExpiry s = .next (settle { s with
        lines := { s.lines with permit := !s.lines.permit }, lane := { s.lane with permitTimer := some 500 } })) ∧
    (s.lane.permitTimer = none → exec .permitTimerExpiry s = .next s) ∧
    ∀ c t, exec c s = .next t → c ≠ .permitTimerExpiry → isReset c = false → t.lines.permit = s.lines.permit

/-- R71, R111, R120, R121, R161: the end of the formation window takes a lane in STARTING to FORMING: HOLD released, the
patrol running, self EXCLUDED, and STATE offered to each port. -/
def Obligations.FormationWindowStartsForming : Prop :=
  ∀ s : State, s.lane.formation.isSome = true →
    (s.lane.state ≠ .starting → exec .formationWindowExpiry s = .next s) ∧
    (s.lane.state = .starting →
      ∃ t, exec .formationWindowExpiry s = .next (settle t) ∧
        t = { s with lines := { s.lines with hold := false },
                     lane := { s.lane with state := .forming, retainedState := .forming, formation := none,
                                           permitTimer := none },
                     vote := { s.vote with view := t.vote.view },
                     patrol := { s.patrol with running := true, pace := some (settings s).patrolInterval },
                     link1 := t.link1, link2 := t.link2, log := t.log, port := t.port } ∧
        standing t (ownLane s) = .excluded ∧ (∀ l, l ≠ ownLane s → standing t l = standing s l) ∧
        ∀ p, LinkPort.active (getPort s p) = true → (getPort s p).control.length < 8 →
          (getPort s p).transmitter ≠ .resting →
          getPort t p = { getPort s p with control := (getPort s p).control ++ [.state .forming s.vote.counter] })

/-- R124, R125, R127, R131, R13, R16, R64, R72, R115: what starts a restoration attempt in ISOLATED, and what it
leaves: JOINING under HOLD, the attempt number raised, live pairs at their clear-state values, no broken flag, the
vote table empty with counter 0, and the joiner's clear begun; or, at a retry with SUPPLY-LOW active, only retry due.
A joiner's clear with no block, the cleared asked peer, and the state its reports carry are the model's choices
(notes/assumptions/17, 18, 23). -/
def Obligations.RetryAndRestoreStartAnAttempt : Prop :=
  ∀ (s : State) (im : Image), s.map.image = some im → s.lane.state = .isolated → s.lines.hold = true →
    (s.lane.retry.isSome = true → s.lines.supplyLow = true →
      exec .retryTimerExpiry s = .next (settle { s with lane := { s.lane with retry := none, retryDue := true } })) ∧
    (s.lines.supplyLow = true → exec .restoreEdge s = .next s) ∧
    (∀ u : State, u.lane.state ≠ .isolated → exec .restoreEdge u = .next u) ∧
    (s.lines.supplyLow = false → ∀ c n,
      (c = .retryTimerExpiry ∧ s.lane.retry.isSome = true ∧ n = s.lane.attempts) ∨ (c = .restoreEdge ∧ n = 0) →
      ∃ t, exec c s = .next (settle t) ∧
        t.lane.state = .joining ∧ t.lane.retainedState = .joining ∧ t.lane.retry = none ∧ t.lane.retryDue = false ∧
        t.lane.attempts = n ∧ t.lines.hold = true ∧ standing t (ownLane s) = .joining ∧
        t.copy.attempt = (if s.copy.attempt < 255 then s.copy.attempt + 1 else 1) ∧ t.copy.repairs = [] ∧
        t.copy.answers = [] ∧ t.copy.received = none ∧ t.copy.secondAsked = false ∧ t.copy.admittedBy = none ∧
        t.map.image = s.map.image ∧ t.map.lock = s.map.lock ∧ (∀ r ∈ t.map.status, r.broken = false) ∧
        t.sig.live = Image.clearPairs im ∧ t.patrol.pass = s.patrol.pass + 1 ∧ t.patrol.cursor = some (0, 0) ∧
        t.vote.table = [] ∧ t.vote.counter = 0 ∧
        (∀ b, nextToClear s true 0 = some b → t.copy.phase = .clear ∧ t.patrol.running = false ∧
          t.clear.pass = some { next := some b, joiner := true }) ∧
        (∃ r more, t.log.queue = (offer r s).log.queue ++ more ∧ r.kind = .restoreBegin ∧
          r.detail1 = BitVec.ofNat 32 ((if c = .restoreEdge then 1 else 2) + n * 2 ^ 8)) ∧
        t = { s with lane := t.lane, vote := t.vote, copy := t.copy, port := t.port, link1 := t.link1,
                     link2 := t.link2, sig := { s.sig with live := t.sig.live }, map := { s.map with status := t.map.status },
                     patrol := t.patrol, clear := t.clear, log := t.log })

/-- R126, R128: SUPPLY-LOW becoming active fails the attempt of a JOINING lane, with the attempt count kept; becoming
inactive it begins the attempt that was due in ISOLATED, and elsewhere it only changes the level. -/
def Obligations.SupplyLowHoldsAttemptsBack : Prop :=
  ∀ s : State,
    (s.lines.supplyLow = false → s.lane.state ≠ .joining →
      exec .supplyLowActive s = .next (settle { s with lines := { s.lines with supplyLow := true } })) ∧
    (s.lines.supplyLow = false → s.lane.state = .joining →
      ∃ t, exec .supplyLowActive s = .next (settle t) ∧ t.lines = { s.lines with supplyLow := true } ∧
        t.lane.state = .isolated ∧ t.lane.retainedState = .isolated ∧ t.lane.retainedCause = some .supply ∧
        t.lane.attempts = s.lane.attempts ∧
        t.lane.retry = (if s.lane.attempts < (settings s).attemptLimit then
          some ((settings s).retryDelay * 100 * 1000) else none) ∧
        standing t (ownLane s) = .excluded ∧ t.copy.phase = .none ∧ t.copy.received = none ∧ t.copy.progress = none ∧
        t = { s with lines := t.lines, lane := t.lane, vote := { s.vote with view := t.vote.view }, copy := t.copy,
                     port := t.port, link1 := t.link1, link2 := t.link2, log := t.log }) ∧
    (s.lines.supplyLow = true → ¬(s.lane.state = .isolated ∧ s.lane.retryDue = true) →
      exec .supplyLowInactive s = .next (settle { s with lines := { s.lines with supplyLow := false } })) ∧
    (s.lines.supplyLow = true → s.lane.state = .isolated → s.lane.retryDue = true →
      ∃ t, exec .supplyLowInactive s = .next (settle t) ∧ t.lines.supplyLow = false ∧ t.lane.state = .joining ∧
        t.lane.retryDue = false ∧ t.lines.hold = true ∧
        t.copy.attempt = (if s.copy.attempt < 255 then s.copy.attempt + 1 else 1))

/-! Restoration and constant repair (R132 to R152). -/

/-- R128, R132, R136, R146, R147, R148: what the progress timer and the hold timer end. A vote left complete is taken at
the end of the step (notes/assumptions/13), the asked peers are as notes/assumptions/18 says, and the attempt count stops
at 15 (notes/assumptions/29): the model's choices and readings. -/
def Obligations.CopyEngineTimersEndTheirWaits : Prop :=
  ∀ s : State,
    (s.copy.progress.isSome = true → s.lane.state = .joining → (s.copy.phase = .copy ∨ s.copy.phase = .verify) →
      ∃ t, exec .progressTimerExpiry s = .next (settle t) ∧ t.lane.state = .isolated ∧
        t.lane.retainedCause = some .silent ∧ t.copy.phase = .none ∧ t.copy.progress = none ∧
        t.lane.attempts = (if s.lane.attempts < 15 then s.lane.attempts + 1 else 15) ∧
        t.sram = s.sram ∧ t.checker = s.checker ∧ t.map = s.map ∧ t.sig = s.sig ∧ t.patrol = s.patrol) ∧
    (∀ l, s.copy.progress.isSome = true → s.lane.state = .joining → s.copy.phase = .request →
      s.copy.secondAsked = false → (peers s).find? (fun k => decide (some k ≠ s.copy.asked)) = some l →
      ∃ t, exec .progressTimerExpiry s = .next (settle t) ∧ t.copy.asked = some l ∧ t.copy.secondAsked = true ∧
        t.copy.progress = some ((settings s).progressLimit * 1000) ∧ t.copy.phase = .request ∧ t.lane = s.lane ∧
        t.vote = s.vote ∧ t.sram = s.sram ∧ t.map = s.map) ∧
    (s.copy.progress.isSome = true → s.lane.state = .joining → s.copy.phase = .request →
      (s.copy.secondAsked = true ∨ ∀ k ∈ peers s, some k = s.copy.asked) →
      ∃ t, exec .progressTimerExpiry s = .next (settle t) ∧ t.lane.state = .isolated ∧
        t.lane.retainedCause = some .noSource ∧ t.copy.phase = .none ∧ t.copy.progress = none ∧
        t.lane.attempts = (if s.lane.attempts < 15 then s.lane.attempts + 1 else 15) ∧
        t.sram = s.sram ∧ t.checker = s.checker ∧ t.map = s.map ∧ t.sig = s.sig ∧ t.patrol = s.patrol) ∧
    (∀ joiner attempt, s.copy.serving = some (joiner, attempt) →
      (s.copy.holdTimer.isSome = true → s.copy.catchUp = .hold → s.copy.tries + 1 < (settings s).tryLimit →
        exec .holdTimerExpiry s = .next (settle { s with copy := { s.copy with
          holdTimer := none, catchUp := .none, kept := none, tries := s.copy.tries + 1 } })) ∧
      (∀ c cause, (c = .progressTimerExpiry ∧ s.copy.progress.isSome = true ∧ s.copy.phase = .none ∧
            s.copy.catchUp = .answer ∧ cause = Cause.noAdmit ∨
          c = .holdTimerExpiry ∧ s.copy.holdTimer.isSome = true ∧ s.copy.catchUp = .answer ∧ cause = Cause.noAdmit ∨
          c = .holdTimerExpiry ∧ s.copy.holdTimer.isSome = true ∧ s.copy.catchUp = .hold ∧
            (settings s).tryLimit ≤ s.copy.tries + 1 ∧ cause = Cause.catchUp) →
        ∃ t u, exec c s = .next (settle t) ∧ t = voteIfComplete u ∧ u.copy.serving = none ∧ u.copy.dirty = [] ∧
          u.copy.catchUp = .none ∧ u.copy.cursor = none ∧ u.copy.kept = none ∧ u.copy.progress = none ∧
          u.copy.holdTimer = none ∧ standing u joiner = .excluded ∧ u.lane.state = s.lane.state ∧
          u.lane.retainedServing = false ∧ u.sram = s.sram ∧ u.map = s.map ∧ u.sig = s.sig ∧
          ∀ p, portTo s joiner = some p → LinkPort.active (getPort s p) = true → (getPort s p).control.length < 8 →
            (getPort s p).transmitter ≠ .resting →
            (getPort u p).control = (getPort s p).control ++ [.abandon attempt cause]))

/-- R137, R146: ADMIT is offered with the kept snapshot once nothing is left to send; it is verified once no received
block is left, and the joiner is admitted if every slot is equal and fails with MISMATCH otherwise. The premise that
no burst in progress has found a failing cause is the model's reading (notes/assumptions/5). The view taken is ADMIT's with
self MEMBER (R115), and with lane 2 ABSENT in two-lane mode (R111), which limits R115 where ADMIT shows that lane otherwise
(notes/assumptions/37). -/
def Obligations.AdmitIsOfferedAndVerified : Prop :=
  ∀ s : State,
    (∀ joiner attempt snap p, s.copy.catchUp = .hold → s.copy.dirty = [] → s.copy.job = none →
      holdsPort s.port (.background .copy) = false → s.copy.serving = some (joiner, attempt) →
      s.copy.kept = some snap → portTo s joiner = some p → LinkPort.active (getPort s p) = true →
      (getPort s p).bulk.length + (getPort s p).reserved < 4 → (getPort s p).transmitter ≠ .resting →
      exec .admitOffer s = .next (settle (setPort
        { s with copy := { s.copy with catchUp := .answer, progress := some ((settings s).progressLimit * 1000) } } p
        { getPort s p with bulk := (getPort s p).bulk ++
            [.admitSnapshot attempt snap.cycle snap.view snap.pairs] }))) ∧
    (∀ snap, s.lane.state = .joining → s.copy.phase = .verify → s.copy.received = none →
      holdsPort s.port (.background .recv) = false → failureFound s = false → s.copy.verifying = some snap →
      (snap.pairs = s.sig.live →
        ∃ t, exec .admitVerify s = .next (settle t) ∧ t.lane.state = .member ∧ t.lane.retainedState = .member ∧
          t.lane.attempts = 0 ∧ t.lines.hold = false ∧ t.map = { s.map with lock := true } ∧
          t.vote.counter = snap.cycle ∧
          t.vote.view = some (PerLane.set
            (if laneCount s = 2 then PerLane.set snap.view .two .absent else snap.view) (ownLane s) .member) ∧
          t.vote.table = [] ∧ t.vote.grace = some (snap.cycle + 3) ∧
          t.vote.supervision = some ((settings s).cycleLimit * 1000) ∧ t.copy.phase = .none ∧
          (∀ l, s.copy.asked = some l → t.copy.admittedBy = some (l, s.copy.attempt)) ∧
          t = { s with lines := { s.lines with hold := false }, lane := t.lane, vote := t.vote, copy := t.copy,
                       map := t.map, port := t.port, link1 := t.link1, link2 := t.link2, log := t.log }) ∧
      (snap.pairs ≠ s.sig.live →
        ∃ t, exec .admitVerify s = .next (settle t) ∧ t.lane.state = .isolated ∧
          t.lane.retainedCause = some .mismatch ∧ t.lines = s.lines ∧ t.map = s.map ∧ t.copy.phase = .none ∧
          t.sram = s.sram ∧ t.sig = s.sig))

/-- R151: with the lock flag set and a block in the repair list, the lowest peer fit to be asked is sent FETCH and
the repair timer runs; at its expiry the other peer is asked, and with no peer left the block leaves the list. When
the next block of the list is asked for is the model's choice (notes/assumptions/30), and so is the premise that no burst in
progress has found a cause that isolates the lane at its end (notes/assumptions/5). -/
def Obligations.RepairAsksPeersInTurn : Prop :=
  ∀ (s : State) (b : Nat), running s = true →
    ((foundCause s).isSome = true → exec .repairStart s = .next s) ∧
    (s.map.lock = true → s.copy.repair = none → foundCause s = none → s.copy.repairs.head? = some b →
      ∃ t, exec .repairStart s = .next (settle t) ∧
        t = { s with copy := t.copy, link1 := t.link1, link2 := t.link2, log := t.log, port := t.port } ∧
        (∀ l rest, repairPeers s = l :: rest →
          t.copy = { s.copy with repair := some { block := b, asked := l, otherAsked := false, taken := false },
                                 repairTimer := some ((settings s).progressLimit * 1000) } ∧
          ∀ p, portTo s l = some p → LinkPort.active (getPort s p) = true → (getPort s p).control.length < 8 →
            (getPort s p).transmitter ≠ .resting →
            getPort t p = { getPort s p with control := (getPort s p).control ++ [.fetch b] }) ∧
        (repairPeers s = [] →
          t.copy = { s.copy with repair := none, repairTimer := none,
                                 repairs := s.copy.repairs.filter (fun x => decide (x ≠ b)) })) ∧
    (∀ r, s.copy.repairTimer.isSome = true → s.copy.repair = some r → r.block = b →
      ∃ t, exec .repairTimerExpiry s = .next (settle t) ∧
        t = { s with copy := t.copy, link1 := t.link1, link2 := t.link2, log := t.log, port := t.port } ∧
        (∀ l, r.otherAsked = false → (repairPeers s).find? (fun k => decide (k ≠ r.asked)) = some l →
          t.copy = { s.copy with repair := some { block := b, asked := l, otherAsked := true, taken := false },
                                 repairTimer := some ((settings s).progressLimit * 1000) }) ∧
        (r.otherAsked = true ∨ (repairPeers s).find? (fun k => decide (k ≠ r.asked)) = none →
          t.copy = { s.copy with repair := none, repairTimer := none,
                                 repairs := s.copy.repairs.filter (fun x => decide (x ≠ b)) }))

/-! Link ports (R85 to R97). -/

/-- R93, R94: a control frame offered to a port joins its queue or, at a full queue, is dropped with TX-FULL; a bulk frame
likewise, a reserved slot counting as occupied; a frame offered to a resting transmitter with nothing queued is started at
once; the end of a frame begins the gap of 16 bit periods, and the end of the gap starts the oldest control frame before any
bulk frame. -/
def Obligations.TransmitterSendsControlBeforeBulk : Prop :=
  ∀ (s : State) (p : PortId) (f : Frame),
    (LinkPort.active (getPort s p) = true →
      ((getPort s p).control.length < 8 → (getPort s p).transmitter ≠ .resting →
        offerControl p f s = setPort s p { getPort s p with control := (getPort s p).control ++ [f] }) ∧
      ((getPort s p).bulk.length + (getPort s p).reserved < 4 → (getPort s p).transmitter ≠ .resting →
        offerBulk p f s = setPort s p { getPort s p with bulk := (getPort s p).bulk ++ [f] }) ∧
      ((getPort s p).transmitter = .resting → (getPort s p).control = [] →
        offerControl p f s = setPort s p { getPort s p with
          transmitter := .sending (frameBytes s.lines.straps.toNat f)
            ((frameBytes s.lines.straps.toNat f).length * 8 * (settings s).linkDivisor) } ∧
        ((getPort s p).bulk = [] → (getPort s p).reserved < 4 →
          offerBulk p f s = setPort s p { getPort s p with
            transmitter := .sending (frameBytes s.lines.straps.toNat f)
              ((frameBytes s.lines.straps.toNat f).length * 8 * (settings s).linkDivisor) })) ∧
      (¬ (getPort s p).control.length < 8 → (getPort (offerControl p f s) p).control = (getPort s p).control ∧
        (getPort (offerControl p f s) p).errors.txFull =
          if (getPort s p).errors.txFull < 255 then (getPort s p).errors.txFull + 1 else 255) ∧
      (¬ (getPort s p).bulk.length + (getPort s p).reserved < 4 →
        (getPort (offerBulk p f s) p).bulk = (getPort s p).bulk ∧
        (getPort (offerBulk p f s) p).errors.txFull =
          if (getPort s p).errors.txFull < 255 then (getPort s p).errors.txFull + 1 else 255)) ∧
    (LinkPort.active (getPort s p) = false → offerControl p f s = s ∧ offerBulk p f s = s) ∧
    (∀ bytes n, (getPort s p).transmitter = .sending bytes n →
      exec (.transmitFrameEnd p) s =
        .next (settle (setPort s p { getPort s p with transmitter := .gap (16 * (settings s).linkDivisor) }))) ∧
    (∀ n, (getPort s p).transmitter = .gap n →
      (∀ g rest, (getPort s p).control = g :: rest →
        exec (.gapEnd p) s = .next (settle (setPort s p { getPort s p with
          control := rest
          transmitter := .sending (frameBytes s.lines.straps.toNat g)
            ((frameBytes s.lines.straps.toNat g).length * 8 * (settings s).linkDivisor) }))) ∧
      (∀ g rest, (getPort s p).control = [] → (getPort s p).bulk = g :: rest →
        exec (.gapEnd p) s = .next (settle (setPort s p { getPort s p with
          bulk := rest
          transmitter := .sending (frameBytes s.lines.straps.toNat g)
            ((frameBytes s.lines.straps.toNat g).length * 8 * (settings s).linkDivisor) }))) ∧
      ((getPort s p).control = [] → (getPort s p).bulk = [] →
        exec (.gapEnd p) s = .next (settle (setPort s p { getPort s p with transmitter := .resting }))))

/-- R89, R91: a hunting receiver starts gathering, and a gather that fails at the delimiter, the kind or the sender byte
hunts again with its FORM count raised. -/
def Obligations.ReceiverGathersAndHunts : Prop :=
  ∀ (s : State) (p : PortId) (l : Lane), (getPort s p).running = true → (getPort s p).peer = some l →
    ((getPort s p).gathering = false →
      exec (.frameStart p) s = .next (settle (setPort s p { getPort s p with gathering := true }))) ∧
    ((getPort s p).gathering = true → exec (.frameStart p) s = .next s) ∧
    (∀ bytes : List Byte, (getPort s p).gathering = true →
      ((∃ d, bytes = [d] ∧ d ≠ 0x5A#8) ∨ (∃ k, bytes = [0x5A#8, k] ∧ FrameKind.ofCode? k.toNat = none) ∨
        (∃ k kind x, bytes = [0x5A#8, k, x] ∧ FrameKind.ofCode? k.toNat = some kind ∧ x.toNat ≠ Lane.number l)) →
      ∃ t, exec (.frameEnvelopeError p bytes) s = .next (settle t) ∧
        t = { s with link1 := t.link1, link2 := t.link2, log := t.log, port := t.port } ∧
        getPort t p = { getPort s p with gathering := false, errors := { (getPort s p).errors with
          form := if (getPort s p).errors.form < 255 then (getPort s p).errors.form + 1 else 255 } } ∧
        ∀ q, q ≠ p → getPort t q = getPort s q)

/-- R87, R88, R89, R90, R96, R97, R169: the bytes a peer sends for a frame are gathered as that frame and join the
receive queue while it holds fewer than 4; a wrong check byte makes a CHECK error and a full queue an OVERRUN. The
bytes arrive as one command (notes/assumptions/25). -/
def Obligations.SentFramesAreReceived : Prop :=
  ∀ (s : State) (p : PortId) (l : Lane) (f : Frame), Frame.wellFormed f = true →
    (getPort s p).running = true → (getPort s p).peer = some l → (getPort s p).gathering = true →
    ((getPort s p).received.length < 4 →
      exec (.frameReceived p (frameBytes (Lane.number l) f)) s = .next (settle (setPort s p
        { getPort s p with gathering := false, received := (getPort s p).received ++ [f] }))) ∧
    (¬ (getPort s p).received.length < 4 →
      ∃ t, exec (.frameReceived p (frameBytes (Lane.number l) f)) s = .next (settle t) ∧
        getPort t p = { getPort s p with gathering := false, errors := { (getPort s p).errors with
          overrun := if (getPort s p).errors.overrun < 255 then (getPort s p).errors.overrun + 1 else 255 } }) ∧
    (∀ last : Byte, (frameBytes (Lane.number l) f).getLast? ≠ some last →
      ∃ t, exec (.frameReceived p ((frameBytes (Lane.number l) f).dropLast ++ [last])) s = .next (settle t) ∧
        getPort t p = { getPort s p with gathering := false, errors := { (getPort s p).errors with
          check := if (getPort s p).errors.check < 255 then (getPort s p).errors.check + 1 else 255 } })

/-! Deliveries (R92, R102, R112, R113, R121, R132 to R152). -/

/-- R98, R102, R103, R112, R113, R121, R136: a SIGNATURE taken in FORMING or MEMBER for the own cycle while its window runs, or
for one of the next three cycles, is stored in its entry; one further ahead is reported as SKEW, and one that is late as
PEER-LATE if its sender was counted late for that cycle; the frame's lane is heard. One that carries another state than MEMBER
excludes a MEMBER peer, the late and the skewed one too by the model's choice, and one that carries MEMBER in FORMING takes the
lane to JOINING. In the other lane states the frame sets the last heard state alone, or is heard as a member peer in the
formation window. The order of its effects is the model's choice too (notes/assumptions/12), and the premise that no
burst in progress has found a cause its reading (notes/assumptions/5). -/
def Obligations.SignatureIsStoredOrReported : Prop :=
  ∀ (s : State) (p : PortId) (l : Lane) (c : Word) (st : LaneState) (view : View) (pairs : List Pair) (rest : List Frame),
    (getPort s p).received = .signature c st view pairs :: rest → (getPort s p).peer = some l →
    (running s = true → (st = .member ∨ standing s l ≠ .member) → (st = .member → s.lane.state = .member) →
      ((c - s.vote.counter).toNat ≤ 3 → (c = s.vote.counter → ∃ e, ownEntry s = some e ∧ e.window = true) →
        ∃ t, exec (.signatureDelivery p) s = .next (settle (voteIfComplete t)) ∧
          t = setPort { s with vote := { s.vote with
              table := t.vote.table, lastHeard := PerLane.set s.vote.lastHeard l (some st) } } p
            { getPort s p with received := rest } ∧
          (∀ e ∈ t.vote.table, e.cycle = c → PerLane.get e.peers l = some ⟨pairs, st, view⟩) ∧
          (∃ e ∈ t.vote.table, e.cycle = c) ∧
          (∀ e, e.cycle ≠ c → (e ∈ t.vote.table ↔ e ∈ s.vote.table))) ∧
      (3 < (c - s.vote.counter).toNat → (c - s.vote.counter).toNat ≤ 2147483647 → NoVoteDue s →
        ∃ t r, exec (.signatureDelivery p) s = .next (settle t) ∧
          t = setPort { s with vote := { s.vote with lastHeard := PerLane.set s.vote.lastHeard l (some st) },
                               log := (offer r s).log, port := (offer r s).port } p { getPort s p with received := rest } ∧
          r.kind = .skew ∧ r.detail2 = c ∧ r.cycle = s.vote.counter) ∧
      (2147483647 < (c - s.vote.counter).toNat ∨ (c = s.vote.counter ∧ ∀ e, ownEntry s = some e → e.window = false) →
        NoVoteDue s →
        ∃ t, exec (.signatureDelivery p) s = .next (settle t) ∧
          t = setPort { s with vote := { s.vote with lastHeard := PerLane.set s.vote.lastHeard l (some st) },
                               log := t.log, port := t.port } p { getPort s p with received := rest } ∧
          (PerLane.get s.vote.lastLate l ≠ some c → t.log = s.log ∧ t.port = s.port) ∧
          (PerLane.get s.vote.lastLate l = some c → ∃ r : Report, t.log = (offer r s).log ∧ r.kind = .peerLate ∧
            r.detail1 = BitVec.ofNat 32 (Lane.number l + PerLane.get s.vote.lateCount l * 2 ^ 8) ∧ r.detail2 = c))) ∧
    (running s = true → standing s l = .member → st ≠ .member → l ≠ ownLane s →
      ∃ t u, exec (.signatureDelivery p) s = .next (settle t) ∧ t = voteIfComplete u ∧ standing u l = .excluded ∧
        (∀ k, k ≠ l → standing u k = standing s k) ∧ PerLane.get u.vote.lastHeard l = some st ∧
        (∀ e ∈ u.vote.table, ∀ v, e.voters = some v → PerLane.get v l = false) ∧
        ((c - s.vote.counter).toNat ≤ 3 → (c = s.vote.counter → ∃ e, ownEntry s = some e ∧ e.window = true) →
          (∃ e ∈ u.vote.table, e.cycle = c) ∧
          ∀ e ∈ u.vote.table, e.cycle = c → PerLane.get e.peers l = some ⟨pairs, st, view⟩) ∧
        u.lane.state = s.lane.state ∧ u.sram = s.sram ∧ u.map = s.map ∧ (getPort u p).received = rest) ∧
    (s.lane.state = .forming → st = .member → s.vote.table = [] → foundCause s = none →
      ∃ t, exec (.signatureDelivery p) s = .next (settle t) ∧ t.lines.hold = true ∧
        PerLane.get t.vote.lastHeard l = some .member ∧ t.map.lock = s.map.lock ∧
        t.lane.state = (if s.lines.supplyLow then .isolated else .joining)) ∧
    (running s = false → s.lane.state ≠ .joining →
      (s.lane.state = .starting → s.lane.formation = none ∨ st ≠ .member) →
      exec (.signatureDelivery p) s = .next (settle (setPort { s with vote := { s.vote with
        lastHeard := PerLane.set s.vote.lastHeard l (some st) } } p { getPort s p with received := rest }))) ∧
    (s.lane.state = .starting → s.lane.formation.isSome = true → st = .member → s.vote.table = [] →
      foundCause s = none →
      ∃ t, exec (.signatureDelivery p) s = .next (settle t) ∧ t.lines.hold = true ∧ t.lane.formation = none ∧
        t.lane.state = (if s.lines.supplyLow then .isolated else .joining))

/-- R104, R112, R113, R121, R136: a STATE or NOTICE taken: the lane is heard; a MEMBER peer that carries another
state becomes EXCLUDED and leaves the voter sets; a member peer heard in FORMING takes the lane to JOINING, or to
ISOLATED while SUPPLY-LOW is active; a NOTICE makes its lane MEMBER with late count 0, whatever its standing was, but for
self, a lane already MEMBER and the lane that a two-lane part lacks (R111). The premise that no burst in progress has found a
cause is the model's reading (notes/assumptions/5). In STARTING the NOTICE is taken (R112) or discarded (R157): a free value
says which (notes/assumptions/33), and the statement holds for both. -/
def Obligations.StandingsFollowStateAndNotice : Prop :=
  ∀ (s : State) (p : PortId) (l : Lane) (rest : List Frame), (getPort s p).peer = some l → l ≠ ownLane s →
    (∀ st counter, (getPort s p).received = .state st counter :: rest →
      (standing s l = .member → st ≠ .member →
        ∃ t u, exec (.stateDelivery p) s = .next (settle t) ∧ t = voteIfComplete u ∧
          standing u l = .excluded ∧ PerLane.get u.vote.lastHeard l = some st ∧
          (∀ e ∈ u.vote.table, ∀ v, e.voters = some v → PerLane.get v l = false) ∧
          u.lane.state = s.lane.state ∧ (getPort u p).received = rest ∧ u.sram = s.sram ∧ u.map = s.map) ∧
      (standing s l ≠ .member → st ≠ .member → NoVoteDue s → s.lane.state ≠ .joining →
        exec (.stateDelivery p) s = .next (settle (setPort { s with vote := { s.vote with
          lastHeard := PerLane.set s.vote.lastHeard l (some st) } } p { getPort s p with received := rest }))) ∧
      (st = .member → s.lane.state = .forming → s.vote.table = [] → foundCause s = none →
        ∃ t, exec (.stateDelivery p) s = .next (settle t) ∧ t.lines.hold = true ∧
          PerLane.get t.vote.lastHeard l = some .member ∧ t.map.lock = s.map.lock ∧
          t.lane.state = (if s.lines.supplyLow then .isolated else .joining) ∧
          (s.lines.supplyLow = true → t.lane.retainedCause = some .supply))) ∧
    (∀ lane cycle, (getPort s p).received = .notice lane cycle :: rest → lane ≠ ownLane s →
      standing s lane ≠ .member → ¬ (laneCount s = 2 ∧ lane = .two) →
      ∃ u, exec (.noticeDelivery p) s = .next (settle
          (if s.lane.state = .starting ∧ Config.noticeTakenInStarting = false
           then setPort s p { getPort s p with received := rest } else voteIfComplete u)) ∧
        standing u lane = .member ∧ (∀ k, k ≠ lane → standing u k = standing s k) ∧
        PerLane.get u.vote.lateCount lane = 0 ∧ PerLane.get u.vote.lastLate lane = none ∧
        u.lane.state = s.lane.state ∧ (getPort u p).received = rest ∧ u.sram = s.sram ∧ u.map = s.map) ∧
    (∀ lane cycle, (getPort s p).received = .notice lane cycle :: rest →
      lane = ownLane s ∨ standing s lane = .member ∨ (laneCount s = 2 ∧ lane = .two) → s.lane.state ≠ .joining →
      exec (.noticeDelivery p) s = .next (settle (setPort s p { getPort s p with received := rest })))

/-- R140, R141, R148: a JOIN is refused outside MEMBER, with another image's digest, or while another joiner is
served, in that order; else it is accepted and serving begins. A JOIN of the lane served replaces the old attempt: its
serving ends with outcome REPLACED and no ABANDON, the bulk queue purged of its frames before ACCEPT is offered. A vote left
complete is taken at the end of the step, the model's choice (notes/assumptions/13). -/
def Obligations.JoinIsRefusedOrServed : Prop :=
  ∀ (s : State) (p : PortId) (l : Lane) (n : Nat) (digest : Pair) (rest : List Frame),
    (getPort s p).received = .join n digest :: rest → (getPort s p).peer = some l → LinkPort.active (getPort s p) = true →
    (getPort s p).control.length < 8 → (getPort s p).transmitter ≠ .resting →
    (∀ reason, (s.lane.state ≠ .member ∧ s.lane.state ≠ .joining ∧ reason = RefuseReason.notMember ∨
        s.lane.state = .member ∧ (s.map.image.map (·.digest) ≠ some digest ∧ reason = RefuseReason.image ∨
          s.map.image.map (·.digest) = some digest ∧ reason = RefuseReason.busy ∧
            ∃ k m, s.copy.serving = some (k, m) ∧ k ≠ l)) →
      exec (.joinDelivery p) s = .next (settle (setPort s p { getPort s p with
        received := rest, control := (getPort s p).control ++ [.refuse (.join n) reason] }))) ∧
    (s.lane.state = .member → s.map.image.map (·.digest) = some digest → s.copy.serving = none →
      ∃ t, exec (.joinDelivery p) s = .next (settle (voteIfComplete t)) ∧
        t.copy = { s.copy with serving := some (l, n), dirty := [], tries := 0, catchUp := .none,
                               cursor := some (match nextCopyable s 0 with | some b => .at b | none => .complete) } ∧
        t.lane.retainedServing = true ∧ t.lane.state = .member ∧ standing t l = .joining ∧
        getPort t p = { getPort s p with received := rest, control := (getPort s p).control ++ [.accept n] } ∧
        t = { s with copy := t.copy, lane := t.lane, vote := { s.vote with table := t.vote.table, view := t.vote.view },
                     link1 := t.link1, link2 := t.link2, log := t.log, port := t.port }) ∧
    (∀ m, s.lane.state = .member → s.map.image.map (·.digest) = some digest → s.copy.serving = some (l, m) →
      portTo s l = some p →
      ∃ t ended began, exec (.joinDelivery p) s = .next (settle (voteIfComplete t)) ∧
        t = { s with copy := t.copy, lane := t.lane, vote := { s.vote with table := t.vote.table, view := t.vote.view },
                     link1 := t.link1, link2 := t.link2, log := t.log, port := t.port } ∧
        t.copy = { s.copy with serving := some (l, n), dirty := [], tries := 0, catchUp := .none, kept := none,
                               progress := none, holdTimer := none, job := t.copy.job,
                               cursor := some (match nextCopyable s 0 with | some b => .at b | none => .complete) } ∧
        t.lane.retainedServing = true ∧ t.lane.state = .member ∧ standing t l = .joining ∧
        (∀ q, q ≠ p → (getPort t q).control = (getPort s q).control ∧ (getPort t q).received = (getPort s q).received) ∧
        (getPort t p).received = rest ∧ (getPort t p).control = (getPort s p).control ++ [.accept n] ∧
        (getPort t p).bulk = (getPort s p).bulk.filter (fun f => match f with
          | .block k _ _ => decide (k ≠ m)
          | .admitSnapshot k _ _ _ => decide (k ≠ m)
          | _ => true) ∧
        t.log = logAfter s [ended, began] ∧ ended.kind = .serveEnd ∧
        ended.detail1 = BitVec.ofNat 32 (Lane.number l + m * 2 ^ 8 + 19 * 2 ^ 16) ∧ began.kind = .serveBegin ∧
        began.detail1 = BitVec.ofNat 32 (Lane.number l + n * 2 ^ 8))

/-- R132, R136, R138, R151: the answers to a JOIN: ACCEPT from the asked peer moves the joiner to COPY at the lowest
copyable block; REFUSE has it ask the other peer, or fail with NO-SOURCE; any other is discarded. REFUSE of a FETCH
has the other peer asked, or the repair given up. An answer to a FETCH already answered is discarded, the model's
reading (notes/assumptions/16). -/
def Obligations.AcceptAndRefuseAnswerTheJoin : Prop :=
  ∀ (s : State) (p : PortId) (l : Lane) (n : Nat) (rest : List Frame), (getPort s p).peer = some l →
    s.copy.phase ≠ .copy → s.copy.phase ≠ .verify →
    ((getPort s p).received = .accept n :: rest →
      (currentAttempt .request l n s = true →
        exec (.acceptDelivery p) s = .next (settle (setPort { s with copy := { s.copy with
          phase := .copy, progress := some ((settings s).progressLimit * 1000),
          expected := some (match nextCopyable s 0 with | some b => .at b | none => .pastEnd) } } p
            { getPort s p with received := rest }))) ∧
      (currentAttempt .request l n s = false →
        exec (.acceptDelivery p) s = .next (settle (setPort s p { getPort s p with received := rest })))) ∧
    (∀ reason, (getPort s p).received = .refuse (.join n) reason :: rest → currentAttempt .request l n s = true →
      ∃ t, exec (.refuseDelivery p) s = .next (settle t) ∧
        (∀ k, s.copy.secondAsked = false → (peers s).find? (fun k => decide (some k ≠ s.copy.asked)) = some k →
          t.copy = { s.copy with asked := some k, secondAsked := true,
                                 progress := some ((settings s).progressLimit * 1000) } ∧ t.lane = s.lane) ∧
        (s.copy.secondAsked = true → t.lane.state = .isolated ∧ t.lane.retainedCause = some .noSource ∧
          t.copy.phase = .none)) ∧
    (∀ reason r, (getPort s p).received = .refuse (.fetch n) reason :: rest → s.copy.repair = some r →
      r.block = n → r.asked = l → r.taken = false →
      ∃ t, exec (.refuseDelivery p) s = .next (settle t) ∧ t.lane = s.lane ∧ t.vote = s.vote ∧
        (r.otherAsked = true → t.copy = { s.copy with
          repair := none
          repairTimer := none
          repairs := s.copy.repairs.filter (fun x => decide (x ≠ n)) }))

/-- R133, R135, R136, R143, R144: a BLOCK of the current attempt for a copyable block becomes the received block with its RECV
request placed, and the next expected block moves past it; for each block skipped a NAK is offered, in ascending order, and a
block sent again makes none; a NAK from the joiner puts a block behind the cursor in the dirty queue. That a BLOCK waits
while a burst in progress has found a failing cause is the model's choice (notes/assumptions/5). -/
def Obligations.BlocksAreTakenAndNaksQueued : Prop :=
  ∀ (s : State) (p : PortId) (l : Lane) (n b : Nat) (rest : List Frame), (getPort s p).peer = some l →
    (∀ words, (getPort s p).received = .block n b words :: rest → s.copy.received ≠ none ∨ failureFound s = true →
      exec (.blockDelivery p) s = .next s) ∧
    (∀ words, (getPort s p).received = .block n b words :: rest → s.copy.received = none → failureFound s = false →
      (currentAttempt .copy l n s = true → isCopyable s b = true → s.copy.expected = some (.at b) →
        exec (.blockDelivery p) s = .next (settle (setPort { s with
          copy := { s.copy with
            received := some (.block b words), progress := some ((settings s).progressLimit * 1000),
            expected := some (match nextCopyable s (b + 1) with | some x => .at x | none => .pastEnd) },
          port := { s.port with recvAge := some (s.port.recvAge.getD 0) } } p { getPort s p with received := rest }))) ∧
      (∀ e skipped, currentAttempt .copy l n s = true → isCopyable s b = true → s.copy.expected = some (.at e) → e < b →
        skipped = (List.range b).filter (fun x => decide (e ≤ x) && isCopyable s x) →
        LinkPort.active (getPort s p) = true → (getPort s p).control.length + skipped.length ≤ 8 →
        (getPort s p).transmitter ≠ .resting →
        exec (.blockDelivery p) s = .next (settle (setPort { s with
          copy := { s.copy with
            received := some (.block b words), progress := some ((settings s).progressLimit * 1000),
            expected := some (match nextCopyable s (b + 1) with | some x => .at x | none => .pastEnd) },
          port := { s.port with recvAge := some (s.port.recvAge.getD 0) } } p
            { getPort s p with received := rest,
                               control := (getPort s p).control ++ skipped.map (fun x => .nak n x) }))) ∧
      (currentAttempt .copy l n s = true → isCopyable s b = true →
        (s.copy.expected = some .pastEnd ∨ ∃ e, s.copy.expected = some (.at e) ∧ b < e) →
        exec (.blockDelivery p) s = .next (settle (setPort { s with
          copy := { s.copy with
            received := some (.block b words), progress := some ((settings s).progressLimit * 1000) },
          port := { s.port with recvAge := some (s.port.recvAge.getD 0) } } p { getPort s p with received := rest }))) ∧
      (s.lane.state ≠ .joining →
        exec (.blockDelivery p) s = .next (settle (setPort s p { getPort s p with received := rest })))) ∧
    ((getPort s p).received = .nak n b :: rest → s.lane.state ≠ .joining →
      exec (.nakDelivery p) s = .next (settle (setPort { s with copy := { s.copy with
        dirty := if s.copy.serving = some (l, n) ∧ isCopyable s b = true ∧ behindCursor s b = true ∧ b ∉ s.copy.dirty then
          s.copy.dirty ++ [b] else s.copy.dirty } } p { getPort s p with received := rest })))

/-- R112, R136, R137, R147, R148: ADMIT moves the joiner to VERIFY; in ANSWER the source's serving ends with
ADMITTED, the joiner MEMBER, or with MISMATCH, the joiner EXCLUDED; a verdict in another phase is discarded. A vote
left complete is taken at the end of the step, the model's choice (notes/assumptions/13). -/
def Obligations.AdmitAndItsVerdicts : Prop :=
  ∀ (s : State) (p : PortId) (l : Lane) (n : Nat) (rest : List Frame), (getPort s p).peer = some l →
    (∀ snap : Snapshot, (getPort s p).received = .admitSnapshot n snap.cycle snap.view snap.pairs :: rest →
      currentAttempt .copy l n s = true →
      exec (.admitDelivery p) s = .next (settle (setPort { s with copy := { s.copy with
        phase := .verify, verifying := some snap, progress := some ((settings s).progressLimit * 1000) } } p
          { getPort s p with received := rest }))) ∧
    (s.lane.state = .member →
      (∀ cycle, (getPort s p).received = .admitted n cycle :: rest →
        (verdictCounts l n s = false →
          exec (.admittedDelivery p) s = .next (settle (setPort s p { getPort s p with received := rest }))) ∧
        (verdictCounts l n s = true →
          ∃ t u, exec (.admittedDelivery p) s = .next (settle t) ∧ t = voteIfComplete u ∧ u.copy.serving = none ∧
            u.copy.dirty = [] ∧ u.copy.cursor = none ∧ u.copy.catchUp = .none ∧ u.copy.kept = none ∧
            u.copy.progress = none ∧ u.copy.holdTimer = none ∧ u.lane.retainedServing = false ∧
            u.lane.state = .member ∧ standing u l = .member ∧ (∀ k, k ≠ l → standing u k = standing s k) ∧
            PerLane.get u.vote.lateCount l = 0 ∧ u.sram = s.sram ∧ u.map = s.map ∧ u.sig = s.sig)) ∧
      (∀ slot, (getPort s p).received = .mismatch n slot :: rest →
        (verdictCounts l n s = false →
          exec (.mismatchDelivery p) s = .next (settle (setPort s p { getPort s p with received := rest }))) ∧
        (verdictCounts l n s = true →
          ∃ t u, exec (.mismatchDelivery p) s = .next (settle t) ∧ t = voteIfComplete u ∧ u.copy.serving = none ∧
            u.copy.dirty = [] ∧ u.copy.cursor = none ∧ u.copy.catchUp = .none ∧ u.lane.retainedServing = false ∧
            u.lane.state = .member ∧ standing u l = .excluded ∧ u.sram = s.sram ∧ u.map = s.map ∧ u.sig = s.sig)))

/-- R138, R139, R148: an ABANDON fails the joiner it is sent to with ABANDONED, ends the serving of the source it is sent to,
and takes a lane that admitted itself by that attempt out of MEMBER with NO-ADMIT. A vote left complete by the end of
serving is taken at the end of the step, the model's choice (notes/assumptions/13). -/
def Obligations.AbandonEndsTheAttempt : Prop :=
  ∀ (s : State) (p : PortId) (l : Lane) (n : Nat) (cause : Cause) (rest : List Frame),
    (getPort s p).received = .abandon n cause :: rest → (getPort s p).peer = some l →
    (s.lane.state = .joining → s.copy.asked = some l → s.copy.attempt = n →
      ∃ t, exec (.abandonDelivery p) s = .next (settle t) ∧ t.lane.state = .isolated ∧
        t.lane.retainedCause = some .abandoned ∧ t.copy.phase = .none ∧ t.copy.received = none ∧
        t.lines = s.lines ∧ t.map = s.map ∧ t.sig = s.sig ∧ t.sram = s.sram ∧ t.patrol = s.patrol) ∧
    (s.lane.state = .member → s.copy.admittedBy = some (l, n) →
      ∃ t, exec (.abandonDelivery p) s = .next (settle t) ∧ t.lane.state = .isolated ∧
        t.lane.retainedCause = some .noAdmit ∧ t.lines.hold = true) ∧
    (s.lane.state = .member → s.copy.admittedBy ≠ some (l, n) → s.copy.serving = some (l, n) →
      ∃ t u, exec (.abandonDelivery p) s = .next (settle t) ∧ t = voteIfComplete u ∧ u.copy.serving = none ∧
        u.copy.dirty = [] ∧ u.lane.state = .member ∧ standing u l = .excluded) ∧
    (s.lane.state ≠ .joining →
      (s.lane.state = .member → s.copy.admittedBy ≠ some (l, n) ∧ s.copy.serving ≠ some (l, n)) →
      exec (.abandonDelivery p) s = .next (settle (setPort s p { getPort s p with received := rest })))

/-- R149, R151, R152: a FETCH of a CONSTANT block is kept for its port, and any other refused with IMAGE or, outside
MEMBER and FORMING with the lock flag set, NOT-MEMBER; a FETCHED for the repair in progress becomes the received
block. A second FETCH of a port keeps the first one's place, and a FETCHED waits as a BLOCK does while a burst in progress has
found a failing cause: the model's choices (notes/assumptions/5, 15). -/
def Obligations.FetchIsKeptAndFetchedTaken : Prop :=
  ∀ (s : State) (p : PortId) (l : Lane) (b : Nat) (rest : List Frame), (getPort s p).peer = some l →
    s.lane.state ≠ .joining →
    ((getPort s p).received = .fetch b :: rest →
      ((s.lane.state = .member ∨ (s.lane.state = .forming ∧ s.map.lock = true)) →
        (∀ loc, locate s b = some loc → loc.policy.cls = .constant →
          ∃ t, exec (.fetchDelivery p) s = .next (settle t) ∧
            t = setPort { s with copy := { s.copy with answers := t.copy.answers } } p
              { getPort s p with received := rest } ∧
            (p, b) ∈ t.copy.answers ∧ (∀ x ∈ t.copy.answers, x.1 = p → x = (p, b)) ∧
            (∀ x, x.1 ≠ p → (x ∈ t.copy.answers ↔ x ∈ s.copy.answers)))) ∧
      (∀ reason, (s.lane.state ≠ .member ∧ ¬(s.lane.state = .forming ∧ s.map.lock = true) ∧
            reason = RefuseReason.notMember ∨
          s.lane.state = .member ∧ isConstantBlock s b = false ∧ reason = RefuseReason.image) →
        LinkPort.active (getPort s p) = true → (getPort s p).control.length < 8 →
        (getPort s p).transmitter ≠ .resting →
        exec (.fetchDelivery p) s = .next (settle (setPort s p { getPort s p with
          received := rest, control := (getPort s p).control ++ [.refuse (.fetch b) reason] })))) ∧
    (∀ words, (getPort s p).received = .fetched b words :: rest → s.copy.received ≠ none ∨ failureFound s = true →
      exec (.fetchedDelivery p) s = .next s) ∧
    (∀ words, (getPort s p).received = .fetched b words :: rest → s.copy.received = none → failureFound s = false →
      (∀ r, s.copy.repair = some r → r.block = b → r.asked = l → r.taken = false →
        exec (.fetchedDelivery p) s = .next (settle (setPort { s with
          copy := { s.copy with
            repairTimer := none, repair := some { r with taken := true }, received := some (.fetched b words) },
          port := { s.port with recvAge := some (s.port.recvAge.getD 0) } } p { getPort s p with received := rest }))) ∧
      (s.copy.repair = none →
        exec (.fetchedDelivery p) s = .next (settle (setPort s p { getPort s p with received := rest }))))

/-! The laws of the part, kept by every step (Safety.lean). -/

/-- Every law of Safety.lean holds right after power-on. -/
def Obligations.LawsHoldAtReset : Prop :=
  SramLaw State.reset ∧ CutLaw State.reset ∧ HoldLaw State.reset ∧ PermitLaw State.reset ∧ TableLaw State.reset ∧
    ReportLaw State.reset ∧ LinkLaw State.reset ∧ VoteTableLaw State.reset ∧ MirrorLaw State.reset ∧
    ServingLaw State.reset ∧ RepairLaw State.reset ∧ MapLaw State.reset ∧ PairLaw State.reset ∧ StartLaw State.reset ∧
    AbsentLaw State.reset

/-- MODEL (notes/assumptions/6, 9): every step keeps the SRAM in its canonical form, and a burst in progress keeps the cells
that it has overwritten with what they held, in order (R41, R53). -/
def Obligations.EveryStepKeepsTheSramCanonical : Prop :=
  ∀ s t : State, SramLaw s → step s = .next t → SramLaw t ∧ (CutLaw s → CutLaw t)

/-- R118: HOLD is asserted in every lane state except FORMING and MEMBER, at every step; the lane state changes only as
R121, R122, R127, R128, R155 and R161 give. -/
def Obligations.EveryStepKeepsHoldAndTheLaneStates : Prop :=
  ∀ s t : State, HoldLaw s → StartLaw s → step s = .next t → HoldLaw t ∧ StartLaw t ∧
    ((∀ c, s.pending.head? = some c → isReset c = false) → allowedChange s.lane.state t.lane.state = true)

/-- R119: PERMIT can toggle only while the lane is MEMBER and its view holds at least two MEMBER lanes, at every step. -/
def Obligations.EveryStepKeepsThePermitLaw : Prop :=
  ∀ s t : State, PermitLaw s → (s.loader.reading = true → s.lane.state = .starting) → step s = .next t →
    PermitLaw t ∧ (t.lines.permit ≠ s.lines.permit → (∀ c, s.pending.head? = some c → isReset c = false) →
      s.pending.head? = some .permitTimerExpiry ∧ permitDue s = true)

/-- R34, R38, R163: the repeat and substitution tables and the report queue stay within their depths, no address twice, at
every step. R85, R90, R93: so do each port's queues, a reserved slot counting as occupied, and its error counts. -/
def Obligations.EveryStepKeepsTheTables : Prop :=
  ∀ s t : State, step s = .next t →
    (TableLaw s → ReportLaw s → TableLaw t ∧ ReportLaw t) ∧ (LinkLaw s → LinkLaw t)

/-- R98, R101, R105: the vote table holds entries for different cycles within three of the own one, at every step. R111:
self's standing mirrors the lane state at every step, and in two-lane mode lane 2 stays ABSENT at every step. -/
def Obligations.EveryStepKeepsTheVoteTable : Prop :=
  ∀ s t : State, step s = .next t →
    (VoteTableLaw s → VoteTableLaw t) ∧ (MirrorLaw s → MirrorLaw t) ∧ (AbsentLaw s → StartLaw s → AbsentLaw t)

/-- R143: the dirty queue holds no block number twice, holds only copyable blocks, and is empty whenever the part is not
serving, at every step; only a MEMBER lane serves. -/
def Obligations.EveryStepKeepsTheDirtyQueue : Prop :=
  ∀ s t : State, ServingLaw s → StartLaw s → step s = .next t → ServingLaw t

/-- R150: the repair list holds at most four distinct blocks, all of CONSTANT regions, and is empty outside FORMING and
MEMBER, at every step. R2, R74: the regions of the map and the patrol's cursor keep to each other (MapLaw), so that the
block a patrol burst offers is one of the region it walks. -/
def Obligations.EveryStepKeepsTheRepairList : Prop :=
  ∀ s t : State, step s = .next t → (MapLaw s → MapLaw t) ∧ (RepairLaw s → MapLaw s → RepairLaw t)

/-- R8, R13: only a reset clears the lock flag or empties the region map, and only the acceptance of an image fills it. -/
def Obligations.OnlyResetsClearTheLockAndTheMap : Prop :=
  ∀ (c : Instr) (s t : State), exec c s = .next t → isReset c = false →
    (s.map.lock = true → t.map.lock = true) ∧
    ((∀ words, c ≠ .imageReadComplete words) → t.map.image = s.map.image) ∧
    (t.map.lock ≠ s.map.lock → c = .ownMark ∧ s.lane.state = .forming ∨ c = .admitVerify ∧ s.lane.state = .joining)
end

