-- ==== Sys2Proof/Laws/Frames.lean ====
section
/-! SUPPORT. What each shared operation leaves as it was: one lemma for each operation, block by block, with the fields it keeps of a
block that it changes. -/

namespace Sys2Proof.Machine

@[simp] theorem place_frame (b : Background) (s : State) :
    (place b s).lines = s.lines ∧ (place b s).loader = s.loader ∧ (place b s).through = s.through ∧
    (place b s).map = s.map ∧ (place b s).checker = s.checker ∧ (place b s).sram = s.sram ∧
    (place b s).sig = s.sig ∧ (place b s).patrol = s.patrol ∧ (place b s).link1 = s.link1 ∧
    (place b s).link2 = s.link2 ∧ (place b s).vote = s.vote ∧ (place b s).lane = s.lane ∧
    (place b s).copy = s.copy ∧ (place b s).clear = s.clear ∧ (place b s).log = s.log ∧
    (place b s).pending = s.pending := by
  unfold place; split <;> simp

@[simp] theorem withdraw_frame (b : Background) (s : State) :
    (withdraw b s).lines = s.lines ∧ (withdraw b s).loader = s.loader ∧ (withdraw b s).through = s.through ∧
    (withdraw b s).map = s.map ∧ (withdraw b s).checker = s.checker ∧ (withdraw b s).sram = s.sram ∧
    (withdraw b s).sig = s.sig ∧ (withdraw b s).patrol = s.patrol ∧ (withdraw b s).link1 = s.link1 ∧
    (withdraw b s).link2 = s.link2 ∧ (withdraw b s).vote = s.vote ∧ (withdraw b s).lane = s.lane ∧
    (withdraw b s).copy = s.copy ∧ (withdraw b s).clear = s.clear ∧ (withdraw b s).log = s.log ∧
    (withdraw b s).pending = s.pending := by
  simp [withdraw]

@[simp] theorem placeLog_frame (s : State) :
    (placeLog s).lines = s.lines ∧ (placeLog s).loader = s.loader ∧ (placeLog s).through = s.through ∧
    (placeLog s).map = s.map ∧ (placeLog s).checker = s.checker ∧ (placeLog s).sram = s.sram ∧
    (placeLog s).sig = s.sig ∧ (placeLog s).patrol = s.patrol ∧ (placeLog s).link1 = s.link1 ∧
    (placeLog s).link2 = s.link2 ∧ (placeLog s).vote = s.vote ∧ (placeLog s).lane = s.lane ∧
    (placeLog s).copy = s.copy ∧ (placeLog s).clear = s.clear ∧ (placeLog s).log = s.log ∧
    (placeLog s).pending = s.pending := by
  unfold placeLog; split <;> simp

@[simp] theorem offer_frame (r : Report) (s : State) :
    (offer r s).lines = s.lines ∧ (offer r s).loader = s.loader ∧ (offer r s).through = s.through ∧
    (offer r s).map = s.map ∧ (offer r s).checker = s.checker ∧ (offer r s).sram = s.sram ∧
    (offer r s).sig = s.sig ∧ (offer r s).patrol = s.patrol ∧ (offer r s).link1 = s.link1 ∧
    (offer r s).link2 = s.link2 ∧ (offer r s).vote = s.vote ∧ (offer r s).lane = s.lane ∧
    (offer r s).copy = s.copy ∧ (offer r s).clear = s.clear ∧ (offer r s).pending = s.pending ∧
    (offer r s).log.running = s.log.running := by
  unfold offer; (repeat' split) <;> simp

@[simp] theorem report_frame (k : RecordKind) (n : Option Nat) (w d e : Word) (s : State) :
    (report k n w d e s).lines = s.lines ∧ (report k n w d e s).loader = s.loader ∧
    (report k n w d e s).through = s.through ∧ (report k n w d e s).map = s.map ∧
    (report k n w d e s).checker = s.checker ∧ (report k n w d e s).sram = s.sram ∧
    (report k n w d e s).sig = s.sig ∧ (report k n w d e s).patrol = s.patrol ∧
    (report k n w d e s).link1 = s.link1 ∧ (report k n w d e s).link2 = s.link2 ∧
    (report k n w d e s).vote = s.vote ∧ (report k n w d e s).lane = s.lane ∧ (report k n w d e s).copy = s.copy ∧
    (report k n w d e s).clear = s.clear ∧ (report k n w d e s).pending = s.pending ∧
    (report k n w d e s).log.running = s.log.running := by
  simp [report]

@[simp] theorem setPort_frame (p : PortId) (v : LinkPort) (s : State) :
    (setPort s p v).lines = s.lines ∧ (setPort s p v).loader = s.loader ∧ (setPort s p v).through = s.through ∧
    (setPort s p v).map = s.map ∧ (setPort s p v).checker = s.checker ∧ (setPort s p v).sram = s.sram ∧
    (setPort s p v).port = s.port ∧ (setPort s p v).sig = s.sig ∧ (setPort s p v).patrol = s.patrol ∧
    (setPort s p v).vote = s.vote ∧ (setPort s p v).lane = s.lane ∧ (setPort s p v).copy = s.copy ∧
    (setPort s p v).clear = s.clear ∧ (setPort s p v).log = s.log ∧ (setPort s p v).pending = s.pending := by
  cases p <;> simp [setPort]

@[simp] theorem startPort_frame (p : PortId) (s : State) :
    (startPort p s).lines = s.lines ∧ (startPort p s).loader = s.loader ∧ (startPort p s).through = s.through ∧
    (startPort p s).map = s.map ∧ (startPort p s).checker = s.checker ∧ (startPort p s).sram = s.sram ∧
    (startPort p s).port = s.port ∧ (startPort p s).sig = s.sig ∧ (startPort p s).patrol = s.patrol ∧
    (startPort p s).vote = s.vote ∧ (startPort p s).lane = s.lane ∧ (startPort p s).copy = s.copy ∧
    (startPort p s).clear = s.clear ∧ (startPort p s).log = s.log ∧ (startPort p s).pending = s.pending := by
  simp [startPort]

@[simp] theorem linkError_frame (p : PortId) (k : LinkErrorKind) (r : Option FormReason) (x y : Nat × Bool) (s : State) :
    (linkError p k r x y s).lines = s.lines ∧ (linkError p k r x y s).loader = s.loader ∧
    (linkError p k r x y s).through = s.through ∧ (linkError p k r x y s).map = s.map ∧
    (linkError p k r x y s).checker = s.checker ∧ (linkError p k r x y s).sram = s.sram ∧
    (linkError p k r x y s).sig = s.sig ∧ (linkError p k r x y s).patrol = s.patrol ∧
    (linkError p k r x y s).vote = s.vote ∧ (linkError p k r x y s).lane = s.lane ∧
    (linkError p k r x y s).copy = s.copy ∧ (linkError p k r x y s).clear = s.clear ∧
    (linkError p k r x y s).pending = s.pending ∧ (linkError p k r x y s).log.running = s.log.running := by
  simp [linkError]

@[simp] theorem txFull_frame (p : PortId) (f : Frame) (s : State) :
    (txFull p f s).lines = s.lines ∧ (txFull p f s).loader = s.loader ∧ (txFull p f s).through = s.through ∧
    (txFull p f s).map = s.map ∧ (txFull p f s).checker = s.checker ∧ (txFull p f s).sram = s.sram ∧
    (txFull p f s).sig = s.sig ∧ (txFull p f s).patrol = s.patrol ∧ (txFull p f s).vote = s.vote ∧
    (txFull p f s).lane = s.lane ∧ (txFull p f s).copy = s.copy ∧ (txFull p f s).clear = s.clear ∧
    (txFull p f s).pending = s.pending ∧ (txFull p f s).log.running = s.log.running := by
  simp [txFull]

@[simp] theorem offerControl_frame (p : PortId) (f : Frame) (s : State) :
    (offerControl p f s).lines = s.lines ∧ (offerControl p f s).loader = s.loader ∧
    (offerControl p f s).through = s.through ∧ (offerControl p f s).map = s.map ∧
    (offerControl p f s).checker = s.checker ∧ (offerControl p f s).sram = s.sram ∧
    (offerControl p f s).sig = s.sig ∧ (offerControl p f s).patrol = s.patrol ∧ (offerControl p f s).vote = s.vote ∧
    (offerControl p f s).lane = s.lane ∧ (offerControl p f s).copy = s.copy ∧ (offerControl p f s).clear = s.clear ∧
    (offerControl p f s).pending = s.pending ∧ (offerControl p f s).log.running = s.log.running := by
  unfold offerControl; (repeat' split) <;> simp

@[simp] theorem offerBulk_frame (p : PortId) (f : Frame) (s : State) :
    (offerBulk p f s).lines = s.lines ∧ (offerBulk p f s).loader = s.loader ∧
    (offerBulk p f s).through = s.through ∧ (offerBulk p f s).map = s.map ∧ (offerBulk p f s).checker = s.checker ∧
    (offerBulk p f s).sram = s.sram ∧ (offerBulk p f s).sig = s.sig ∧ (offerBulk p f s).patrol = s.patrol ∧
    (offerBulk p f s).vote = s.vote ∧ (offerBulk p f s).lane = s.lane ∧ (offerBulk p f s).copy = s.copy ∧
    (offerBulk p f s).clear = s.clear ∧ (offerBulk p f s).pending = s.pending ∧
    (offerBulk p f s).log.running = s.log.running := by
  unfold offerBulk; (repeat' split) <;> simp

@[simp] theorem reserveSlot_frame (p : PortId) (s : State) :
    (reserveSlot p s).lines = s.lines ∧ (reserveSlot p s).loader = s.loader ∧
    (reserveSlot p s).through = s.through ∧ (reserveSlot p s).map = s.map ∧ (reserveSlot p s).checker = s.checker ∧
    (reserveSlot p s).sram = s.sram ∧ (reserveSlot p s).port = s.port ∧ (reserveSlot p s).sig = s.sig ∧
    (reserveSlot p s).patrol = s.patrol ∧ (reserveSlot p s).vote = s.vote ∧ (reserveSlot p s).lane = s.lane ∧
    (reserveSlot p s).copy = s.copy ∧ (reserveSlot p s).clear = s.clear ∧ (reserveSlot p s).log = s.log ∧
    (reserveSlot p s).pending = s.pending := by
  simp [reserveSlot]

@[simp] theorem freeSlot_frame (p : PortId) (s : State) :
    (freeSlot p s).lines = s.lines ∧ (freeSlot p s).loader = s.loader ∧ (freeSlot p s).through = s.through ∧
    (freeSlot p s).map = s.map ∧ (freeSlot p s).checker = s.checker ∧ (freeSlot p s).sram = s.sram ∧
    (freeSlot p s).port = s.port ∧ (freeSlot p s).sig = s.sig ∧ (freeSlot p s).patrol = s.patrol ∧
    (freeSlot p s).vote = s.vote ∧ (freeSlot p s).lane = s.lane ∧ (freeSlot p s).copy = s.copy ∧
    (freeSlot p s).clear = s.clear ∧ (freeSlot p s).log = s.log ∧ (freeSlot p s).pending = s.pending := by
  simp [freeSlot]

@[simp] theorem fillSlot_frame (p : PortId) (f : Frame) (s : State) :
    (fillSlot p f s).lines = s.lines ∧ (fillSlot p f s).loader = s.loader ∧ (fillSlot p f s).through = s.through ∧
    (fillSlot p f s).map = s.map ∧ (fillSlot p f s).checker = s.checker ∧ (fillSlot p f s).sram = s.sram ∧
    (fillSlot p f s).sig = s.sig ∧ (fillSlot p f s).patrol = s.patrol ∧ (fillSlot p f s).vote = s.vote ∧
    (fillSlot p f s).lane = s.lane ∧ (fillSlot p f s).copy = s.copy ∧ (fillSlot p f s).clear = s.clear ∧
    (fillSlot p f s).pending = s.pending ∧ (fillSlot p f s).log.running = s.log.running := by
  simp [fillSlot]

@[simp] theorem offerBoth_frame (f : Frame) (s : State) :
    (offerBoth f s).lines = s.lines ∧ (offerBoth f s).loader = s.loader ∧ (offerBoth f s).through = s.through ∧
    (offerBoth f s).map = s.map ∧ (offerBoth f s).checker = s.checker ∧ (offerBoth f s).sram = s.sram ∧
    (offerBoth f s).sig = s.sig ∧ (offerBoth f s).patrol = s.patrol ∧ (offerBoth f s).vote = s.vote ∧
    (offerBoth f s).lane = s.lane ∧ (offerBoth f s).copy = s.copy ∧ (offerBoth f s).clear = s.clear ∧
    (offerBoth f s).pending = s.pending ∧ (offerBoth f s).log.running = s.log.running := by
  simp [offerBoth]

@[simp] theorem offerTo_frame (l : Lane) (f : Frame) (s : State) :
    (offerTo l f s).lines = s.lines ∧ (offerTo l f s).loader = s.loader ∧ (offerTo l f s).through = s.through ∧
    (offerTo l f s).map = s.map ∧ (offerTo l f s).checker = s.checker ∧ (offerTo l f s).sram = s.sram ∧
    (offerTo l f s).sig = s.sig ∧ (offerTo l f s).patrol = s.patrol ∧ (offerTo l f s).vote = s.vote ∧
    (offerTo l f s).lane = s.lane ∧ (offerTo l f s).copy = s.copy ∧ (offerTo l f s).clear = s.clear ∧
    (offerTo l f s).pending = s.pending ∧ (offerTo l f s).log.running = s.log.running := by
  unfold offerTo; split <;> simp

@[simp] theorem purgeBulk_frame (p : PortId) (n : Nat) (s : State) :
    (purgeBulk p n s).lines = s.lines ∧ (purgeBulk p n s).loader = s.loader ∧
    (purgeBulk p n s).through = s.through ∧ (purgeBulk p n s).map = s.map ∧ (purgeBulk p n s).checker = s.checker ∧
    (purgeBulk p n s).sram = s.sram ∧ (purgeBulk p n s).port = s.port ∧ (purgeBulk p n s).sig = s.sig ∧
    (purgeBulk p n s).patrol = s.patrol ∧ (purgeBulk p n s).vote = s.vote ∧ (purgeBulk p n s).lane = s.lane ∧
    (purgeBulk p n s).copy = s.copy ∧ (purgeBulk p n s).clear = s.clear ∧ (purgeBulk p n s).log = s.log ∧
    (purgeBulk p n s).pending = s.pending := by
  simp [purgeBulk]

@[simp] theorem answerAccess_frame (a : Answer) (s : State) :
    (answerAccess a s).loader = s.loader ∧ (answerAccess a s).map = s.map ∧ (answerAccess a s).checker = s.checker ∧
    (answerAccess a s).sram = s.sram ∧ (answerAccess a s).port = s.port ∧ (answerAccess a s).sig = s.sig ∧
    (answerAccess a s).patrol = s.patrol ∧ (answerAccess a s).link1 = s.link1 ∧ (answerAccess a s).link2 = s.link2 ∧
    (answerAccess a s).vote = s.vote ∧ (answerAccess a s).lane = s.lane ∧ (answerAccess a s).copy = s.copy ∧
    (answerAccess a s).clear = s.clear ∧ (answerAccess a s).log = s.log ∧ (answerAccess a s).pending = s.pending ∧
    (answerAccess a s).lines.straps = s.lines.straps ∧ (answerAccess a s).lines.supplyLow = s.lines.supplyLow ∧
    (answerAccess a s).lines.hold = s.lines.hold ∧ (answerAccess a s).lines.permit = s.lines.permit := by
  simp [answerAccess]

@[simp] theorem giveDueAnswer_frame (s : State) :
    (giveDueAnswer s).loader = s.loader ∧ (giveDueAnswer s).map = s.map ∧ (giveDueAnswer s).checker = s.checker ∧
    (giveDueAnswer s).sram = s.sram ∧ (giveDueAnswer s).sig = s.sig ∧ (giveDueAnswer s).patrol = s.patrol ∧
    (giveDueAnswer s).link1 = s.link1 ∧ (giveDueAnswer s).link2 = s.link2 ∧ (giveDueAnswer s).vote = s.vote ∧
    (giveDueAnswer s).lane = s.lane ∧ (giveDueAnswer s).copy = s.copy ∧ (giveDueAnswer s).clear = s.clear ∧
    (giveDueAnswer s).log = s.log ∧ (giveDueAnswer s).pending = s.pending ∧
    (giveDueAnswer s).lines.straps = s.lines.straps ∧ (giveDueAnswer s).lines.supplyLow = s.lines.supplyLow ∧
    (giveDueAnswer s).lines.hold = s.lines.hold ∧ (giveDueAnswer s).lines.permit = s.lines.permit ∧
    (giveDueAnswer s).port.procWaiting = s.port.procWaiting ∧ (giveDueAnswer s).port.drain = s.port.drain := by
  unfold giveDueAnswer; (repeat' split) <;> simp

@[simp] theorem dropWaitingAccess_frame (s : State) :
    (dropWaitingAccess s).lines = s.lines ∧ (dropWaitingAccess s).loader = s.loader ∧
    (dropWaitingAccess s).map = s.map ∧ (dropWaitingAccess s).checker = s.checker ∧
    (dropWaitingAccess s).sram = s.sram ∧ (dropWaitingAccess s).sig = s.sig ∧
    (dropWaitingAccess s).patrol = s.patrol ∧ (dropWaitingAccess s).link1 = s.link1 ∧
    (dropWaitingAccess s).link2 = s.link2 ∧ (dropWaitingAccess s).vote = s.vote ∧
    (dropWaitingAccess s).lane = s.lane ∧ (dropWaitingAccess s).copy = s.copy ∧
    (dropWaitingAccess s).clear = s.clear ∧ (dropWaitingAccess s).log = s.log ∧
    (dropWaitingAccess s).pending = s.pending ∧ (dropWaitingAccess s).port.burst = s.port.burst ∧
    (dropWaitingAccess s).port.drain = s.port.drain := by
  unfold dropWaitingAccess; split <;> simp

@[simp] theorem assertHold_frame (s : State) :
    (assertHold s).loader = s.loader ∧ (assertHold s).map = s.map ∧ (assertHold s).checker = s.checker ∧
    (assertHold s).sram = s.sram ∧ (assertHold s).sig = s.sig ∧ (assertHold s).patrol = s.patrol ∧
    (assertHold s).link1 = s.link1 ∧ (assertHold s).link2 = s.link2 ∧ (assertHold s).vote = s.vote ∧
    (assertHold s).lane = s.lane ∧ (assertHold s).copy = s.copy ∧ (assertHold s).clear = s.clear ∧
    (assertHold s).log = s.log ∧ (assertHold s).pending = s.pending ∧ (assertHold s).lines.straps = s.lines.straps ∧
    (assertHold s).lines.supplyLow = s.lines.supplyLow ∧ (assertHold s).lines.permit = s.lines.permit ∧
    (assertHold s).port.drain = s.port.drain := by
  unfold assertHold; split <;> simp

@[simp] theorem releaseHold_frame (s : State) :
    (releaseHold s).loader = s.loader ∧ (releaseHold s).through = s.through ∧ (releaseHold s).map = s.map ∧
    (releaseHold s).checker = s.checker ∧ (releaseHold s).sram = s.sram ∧ (releaseHold s).port = s.port ∧
    (releaseHold s).sig = s.sig ∧ (releaseHold s).patrol = s.patrol ∧ (releaseHold s).link1 = s.link1 ∧
    (releaseHold s).link2 = s.link2 ∧ (releaseHold s).vote = s.vote ∧ (releaseHold s).lane = s.lane ∧
    (releaseHold s).copy = s.copy ∧ (releaseHold s).clear = s.clear ∧ (releaseHold s).log = s.log ∧
    (releaseHold s).pending = s.pending ∧ (releaseHold s).lines.straps = s.lines.straps ∧
    (releaseHold s).lines.supplyLow = s.lines.supplyLow ∧ (releaseHold s).lines.permit = s.lines.permit := by
  simp [releaseHold]

@[simp] theorem permitTest_frame (s : State) :
    (permitTest s).lines = s.lines ∧ (permitTest s).loader = s.loader ∧ (permitTest s).through = s.through ∧
    (permitTest s).map = s.map ∧ (permitTest s).checker = s.checker ∧ (permitTest s).sram = s.sram ∧
    (permitTest s).port = s.port ∧ (permitTest s).sig = s.sig ∧ (permitTest s).patrol = s.patrol ∧
    (permitTest s).link1 = s.link1 ∧ (permitTest s).link2 = s.link2 ∧ (permitTest s).vote = s.vote ∧
    (permitTest s).copy = s.copy ∧ (permitTest s).clear = s.clear ∧ (permitTest s).log = s.log ∧
    (permitTest s).pending = s.pending ∧ (permitTest s).lane.state = s.lane.state ∧
    (permitTest s).lane.attempts = s.lane.attempts ∧ (permitTest s).lane.retry = s.lane.retry ∧
    (permitTest s).lane.formation = s.lane.formation ∧
    (permitTest s).lane.retainedServing = s.lane.retainedServing := by
  unfold permitTest; (repeat' split) <;> simp

@[simp] theorem setStanding_frame (l : Lane) (x : Standing) (s : State) :
    (setStanding l x s).lines = s.lines ∧ (setStanding l x s).loader = s.loader ∧
    (setStanding l x s).through = s.through ∧ (setStanding l x s).map = s.map ∧
    (setStanding l x s).checker = s.checker ∧ (setStanding l x s).sram = s.sram ∧
    (setStanding l x s).port = s.port ∧ (setStanding l x s).sig = s.sig ∧ (setStanding l x s).patrol = s.patrol ∧
    (setStanding l x s).link1 = s.link1 ∧ (setStanding l x s).link2 = s.link2 ∧ (setStanding l x s).copy = s.copy ∧
    (setStanding l x s).clear = s.clear ∧ (setStanding l x s).log = s.log ∧
    (setStanding l x s).pending = s.pending ∧ (setStanding l x s).vote.counter = s.vote.counter ∧
    (setStanding l x s).vote.table = s.vote.table ∧ (setStanding l x s).vote.window = s.vote.window ∧
    (setStanding l x s).lane.state = s.lane.state ∧ (setStanding l x s).lane.attempts = s.lane.attempts ∧
    (setStanding l x s).lane.retry = s.lane.retry ∧ (setStanding l x s).lane.formation = s.lane.formation ∧
    (setStanding l x s).lane.retainedServing = s.lane.retainedServing := by
  simp [setStanding]

@[simp] theorem setLaneState_frame (x : LaneState) (s : State) :
    (setLaneState x s).lines = s.lines ∧ (setLaneState x s).loader = s.loader ∧
    (setLaneState x s).through = s.through ∧ (setLaneState x s).map = s.map ∧
    (setLaneState x s).checker = s.checker ∧ (setLaneState x s).sram = s.sram ∧ (setLaneState x s).port = s.port ∧
    (setLaneState x s).sig = s.sig ∧ (setLaneState x s).patrol = s.patrol ∧ (setLaneState x s).link1 = s.link1 ∧
    (setLaneState x s).link2 = s.link2 ∧ (setLaneState x s).copy = s.copy ∧ (setLaneState x s).clear = s.clear ∧
    (setLaneState x s).log = s.log ∧ (setLaneState x s).pending = s.pending ∧
    (setLaneState x s).vote.counter = s.vote.counter ∧ (setLaneState x s).vote.table = s.vote.table ∧
    (setLaneState x s).vote.window = s.vote.window ∧ (setLaneState x s).lane.attempts = s.lane.attempts ∧
    (setLaneState x s).lane.retry = s.lane.retry ∧ (setLaneState x s).lane.formation = s.lane.formation ∧
    (setLaneState x s).lane.retainedServing = s.lane.retainedServing := by
  simp [setLaneState]

@[simp] theorem offerState_frame (s : State) :
    (offerState s).lines = s.lines ∧ (offerState s).loader = s.loader ∧ (offerState s).through = s.through ∧
    (offerState s).map = s.map ∧ (offerState s).checker = s.checker ∧ (offerState s).sram = s.sram ∧
    (offerState s).sig = s.sig ∧ (offerState s).patrol = s.patrol ∧ (offerState s).vote = s.vote ∧
    (offerState s).lane = s.lane ∧ (offerState s).copy = s.copy ∧ (offerState s).clear = s.clear ∧
    (offerState s).pending = s.pending ∧ (offerState s).log.running = s.log.running := by
  simp [offerState]

@[simp] theorem excludePeer_frame (l : Lane) (s : State) :
    (excludePeer l s).lines = s.lines ∧ (excludePeer l s).loader = s.loader ∧
    (excludePeer l s).through = s.through ∧ (excludePeer l s).map = s.map ∧ (excludePeer l s).checker = s.checker ∧
    (excludePeer l s).sram = s.sram ∧ (excludePeer l s).port = s.port ∧ (excludePeer l s).sig = s.sig ∧
    (excludePeer l s).patrol = s.patrol ∧ (excludePeer l s).link1 = s.link1 ∧ (excludePeer l s).link2 = s.link2 ∧
    (excludePeer l s).copy = s.copy ∧ (excludePeer l s).clear = s.clear ∧ (excludePeer l s).log = s.log ∧
    (excludePeer l s).pending = s.pending ∧ (excludePeer l s).vote.counter = s.vote.counter ∧
    (excludePeer l s).vote.window = s.vote.window ∧ (excludePeer l s).lane.state = s.lane.state ∧
    (excludePeer l s).lane.attempts = s.lane.attempts ∧ (excludePeer l s).lane.retry = s.lane.retry ∧
    (excludePeer l s).lane.formation = s.lane.formation ∧
    (excludePeer l s).lane.retainedServing = s.lane.retainedServing := by
  unfold excludePeer; split <;> simp

@[simp] theorem reportExcluded_frame (l : Lane) (c : Cause) (w : Word) (s : State) :
    (reportExcluded l c w s).lines = s.lines ∧ (reportExcluded l c w s).loader = s.loader ∧
    (reportExcluded l c w s).through = s.through ∧ (reportExcluded l c w s).map = s.map ∧
    (reportExcluded l c w s).checker = s.checker ∧ (reportExcluded l c w s).sram = s.sram ∧
    (reportExcluded l c w s).sig = s.sig ∧ (reportExcluded l c w s).patrol = s.patrol ∧
    (reportExcluded l c w s).link1 = s.link1 ∧ (reportExcluded l c w s).link2 = s.link2 ∧
    (reportExcluded l c w s).vote = s.vote ∧ (reportExcluded l c w s).lane = s.lane ∧
    (reportExcluded l c w s).copy = s.copy ∧ (reportExcluded l c w s).clear = s.clear ∧
    (reportExcluded l c w s).pending = s.pending ∧ (reportExcluded l c w s).log.running = s.log.running := by
  simp [reportExcluded]

@[simp] theorem memberByFrame_frame (l : Lane) (w : Word) (s : State) :
    (memberByFrame l w s).lines = s.lines ∧ (memberByFrame l w s).loader = s.loader ∧
    (memberByFrame l w s).through = s.through ∧ (memberByFrame l w s).map = s.map ∧
    (memberByFrame l w s).checker = s.checker ∧ (memberByFrame l w s).sram = s.sram ∧
    (memberByFrame l w s).port = s.port ∧ (memberByFrame l w s).sig = s.sig ∧
    (memberByFrame l w s).patrol = s.patrol ∧ (memberByFrame l w s).link1 = s.link1 ∧
    (memberByFrame l w s).link2 = s.link2 ∧ (memberByFrame l w s).copy = s.copy ∧
    (memberByFrame l w s).clear = s.clear ∧ (memberByFrame l w s).log = s.log ∧
    (memberByFrame l w s).pending = s.pending ∧ (memberByFrame l w s).vote.counter = s.vote.counter ∧
    (memberByFrame l w s).vote.window = s.vote.window ∧ (memberByFrame l w s).lane.state = s.lane.state ∧
    (memberByFrame l w s).lane.attempts = s.lane.attempts ∧ (memberByFrame l w s).lane.retry = s.lane.retry ∧
    (memberByFrame l w s).lane.formation = s.lane.formation ∧
    (memberByFrame l w s).lane.retainedServing = s.lane.retainedServing := by
  simp [memberByFrame]

@[simp] theorem writeCell_frame (a : Nat) (c : SramCell) (s : State) :
    (writeCell a c s).lines = s.lines ∧ (writeCell a c s).loader = s.loader ∧
    (writeCell a c s).through = s.through ∧ (writeCell a c s).map = s.map ∧ (writeCell a c s).checker = s.checker ∧
    (writeCell a c s).sig = s.sig ∧ (writeCell a c s).patrol = s.patrol ∧ (writeCell a c s).link1 = s.link1 ∧
    (writeCell a c s).link2 = s.link2 ∧ (writeCell a c s).vote = s.vote ∧ (writeCell a c s).lane = s.lane ∧
    (writeCell a c s).copy = s.copy ∧ (writeCell a c s).clear = s.clear ∧ (writeCell a c s).log = s.log ∧
    (writeCell a c s).pending = s.pending ∧ (writeCell a c s).port.procWaiting = s.port.procWaiting ∧
    (writeCell a c s).port.drain = s.port.drain := by
  simp [writeCell]

@[simp] theorem writeWord_frame (a : Nat) (v : Word) (s : State) :
    (writeWord a v s).lines = s.lines ∧ (writeWord a v s).loader = s.loader ∧
    (writeWord a v s).through = s.through ∧ (writeWord a v s).map = s.map ∧ (writeWord a v s).sig = s.sig ∧
    (writeWord a v s).patrol = s.patrol ∧ (writeWord a v s).link1 = s.link1 ∧ (writeWord a v s).link2 = s.link2 ∧
    (writeWord a v s).vote = s.vote ∧ (writeWord a v s).lane = s.lane ∧ (writeWord a v s).copy = s.copy ∧
    (writeWord a v s).clear = s.clear ∧ (writeWord a v s).log = s.log ∧ (writeWord a v s).pending = s.pending ∧
    (writeWord a v s).port.procWaiting = s.port.procWaiting ∧ (writeWord a v s).port.drain = s.port.drain := by
  unfold writeWord; split <;> simp

@[simp] theorem modifyStatus_frame (i : Nat) (f : RegionStatus → RegionStatus) (s : State) :
    (modifyStatus i f s).lines = s.lines ∧ (modifyStatus i f s).loader = s.loader ∧
    (modifyStatus i f s).through = s.through ∧ (modifyStatus i f s).checker = s.checker ∧
    (modifyStatus i f s).sram = s.sram ∧ (modifyStatus i f s).port = s.port ∧ (modifyStatus i f s).sig = s.sig ∧
    (modifyStatus i f s).patrol = s.patrol ∧ (modifyStatus i f s).link1 = s.link1 ∧
    (modifyStatus i f s).link2 = s.link2 ∧ (modifyStatus i f s).vote = s.vote ∧ (modifyStatus i f s).lane = s.lane ∧
    (modifyStatus i f s).copy = s.copy ∧ (modifyStatus i f s).clear = s.clear ∧ (modifyStatus i f s).log = s.log ∧
    (modifyStatus i f s).pending = s.pending ∧ (modifyStatus i f s).map.image = s.map.image ∧
    (modifyStatus i f s).map.lock = s.map.lock := by
  simp [modifyStatus]

@[simp] theorem reportNews_frame (n : RepeatNews) (i a : Nat) (v : Word) (o : Origin) (s : State) :
    (reportNews n i a v o s).lines = s.lines ∧ (reportNews n i a v o s).loader = s.loader ∧
    (reportNews n i a v o s).through = s.through ∧ (reportNews n i a v o s).map = s.map ∧
    (reportNews n i a v o s).checker = s.checker ∧ (reportNews n i a v o s).sram = s.sram ∧
    (reportNews n i a v o s).sig = s.sig ∧ (reportNews n i a v o s).patrol = s.patrol ∧
    (reportNews n i a v o s).link1 = s.link1 ∧ (reportNews n i a v o s).link2 = s.link2 ∧
    (reportNews n i a v o s).vote = s.vote ∧ (reportNews n i a v o s).lane = s.lane ∧
    (reportNews n i a v o s).copy = s.copy ∧ (reportNews n i a v o s).clear = s.clear ∧
    (reportNews n i a v o s).pending = s.pending ∧ (reportNews n i a v o s).log.running = s.log.running := by
  unfold reportNews; split <;> simp

@[simp] theorem noteCorrected_frame (c : Client) (loc : Located) (a : Nat) (v : Word) (y : Byte) (n : Nat) (s : State) :
    (noteCorrected c loc a v y n s).lines = s.lines ∧ (noteCorrected c loc a v y n s).loader = s.loader ∧
    (noteCorrected c loc a v y n s).through = s.through ∧ (noteCorrected c loc a v y n s).sram = s.sram ∧
    (noteCorrected c loc a v y n s).sig = s.sig ∧ (noteCorrected c loc a v y n s).patrol = s.patrol ∧
    (noteCorrected c loc a v y n s).link1 = s.link1 ∧ (noteCorrected c loc a v y n s).link2 = s.link2 ∧
    (noteCorrected c loc a v y n s).vote = s.vote ∧ (noteCorrected c loc a v y n s).lane = s.lane ∧
    (noteCorrected c loc a v y n s).copy = s.copy ∧ (noteCorrected c loc a v y n s).clear = s.clear ∧
    (noteCorrected c loc a v y n s).pending = s.pending ∧ (noteCorrected c loc a v y n s).map.image = s.map.image ∧
    (noteCorrected c loc a v y n s).map.lock = s.map.lock ∧
    (noteCorrected c loc a v y n s).log.running = s.log.running := by
  simp only [noteCorrected]; (repeat' split) <;> simp

@[simp] theorem raiseUncorrectable_frame (loc : Located) (s : State) :
    (raiseUncorrectable loc s).lines = s.lines ∧ (raiseUncorrectable loc s).loader = s.loader ∧
    (raiseUncorrectable loc s).through = s.through ∧ (raiseUncorrectable loc s).checker = s.checker ∧
    (raiseUncorrectable loc s).sram = s.sram ∧ (raiseUncorrectable loc s).port = s.port ∧
    (raiseUncorrectable loc s).sig = s.sig ∧ (raiseUncorrectable loc s).patrol = s.patrol ∧
    (raiseUncorrectable loc s).link1 = s.link1 ∧ (raiseUncorrectable loc s).link2 = s.link2 ∧
    (raiseUncorrectable loc s).vote = s.vote ∧ (raiseUncorrectable loc s).lane = s.lane ∧
    (raiseUncorrectable loc s).copy = s.copy ∧ (raiseUncorrectable loc s).clear = s.clear ∧
    (raiseUncorrectable loc s).log = s.log ∧ (raiseUncorrectable loc s).pending = s.pending ∧
    (raiseUncorrectable loc s).map.image = s.map.image ∧ (raiseUncorrectable loc s).map.lock = s.map.lock := by
  simp [raiseUncorrectable]

@[simp] theorem noteUncorrectable_frame (c : Client) (loc : Located) (a : Nat) (y : Byte) (s : State) :
    (noteUncorrectable c loc a y s).lines = s.lines ∧ (noteUncorrectable c loc a y s).loader = s.loader ∧
    (noteUncorrectable c loc a y s).through = s.through ∧ (noteUncorrectable c loc a y s).checker = s.checker ∧
    (noteUncorrectable c loc a y s).sram = s.sram ∧ (noteUncorrectable c loc a y s).sig = s.sig ∧
    (noteUncorrectable c loc a y s).patrol = s.patrol ∧ (noteUncorrectable c loc a y s).link1 = s.link1 ∧
    (noteUncorrectable c loc a y s).link2 = s.link2 ∧ (noteUncorrectable c loc a y s).vote = s.vote ∧
    (noteUncorrectable c loc a y s).lane = s.lane ∧ (noteUncorrectable c loc a y s).copy = s.copy ∧
    (noteUncorrectable c loc a y s).clear = s.clear ∧ (noteUncorrectable c loc a y s).pending = s.pending ∧
    (noteUncorrectable c loc a y s).map.image = s.map.image ∧
    (noteUncorrectable c loc a y s).map.lock = s.map.lock ∧
    (noteUncorrectable c loc a y s).log.running = s.log.running := by
  simp [noteUncorrectable]

@[simp] theorem noteAddressFault_frame (c : Client) (loc : Located) (a : Nat) (y : Byte) (n : Nat) (s : State) :
    (noteAddressFault c loc a y n s).lines = s.lines ∧ (noteAddressFault c loc a y n s).loader = s.loader ∧
    (noteAddressFault c loc a y n s).through = s.through ∧ (noteAddressFault c loc a y n s).checker = s.checker ∧
    (noteAddressFault c loc a y n s).sram = s.sram ∧ (noteAddressFault c loc a y n s).sig = s.sig ∧
    (noteAddressFault c loc a y n s).patrol = s.patrol ∧ (noteAddressFault c loc a y n s).link1 = s.link1 ∧
    (noteAddressFault c loc a y n s).link2 = s.link2 ∧ (noteAddressFault c loc a y n s).vote = s.vote ∧
    (noteAddressFault c loc a y n s).lane = s.lane ∧ (noteAddressFault c loc a y n s).copy = s.copy ∧
    (noteAddressFault c loc a y n s).clear = s.clear ∧ (noteAddressFault c loc a y n s).pending = s.pending ∧
    (noteAddressFault c loc a y n s).map.image = s.map.image ∧
    (noteAddressFault c loc a y n s).map.lock = s.map.lock ∧
    (noteAddressFault c loc a y n s).log.running = s.log.running := by
  simp [noteAddressFault]

@[simp] theorem applyDelta_frame (loc : Located) (a : Nat) (v w : Word) (s : State) :
    (applyDelta loc a v w s).lines = s.lines ∧ (applyDelta loc a v w s).loader = s.loader ∧
    (applyDelta loc a v w s).through = s.through ∧ (applyDelta loc a v w s).map = s.map ∧
    (applyDelta loc a v w s).checker = s.checker ∧ (applyDelta loc a v w s).sram = s.sram ∧
    (applyDelta loc a v w s).port = s.port ∧ (applyDelta loc a v w s).link1 = s.link1 ∧
    (applyDelta loc a v w s).link2 = s.link2 ∧ (applyDelta loc a v w s).vote = s.vote ∧
    (applyDelta loc a v w s).lane = s.lane ∧ (applyDelta loc a v w s).copy = s.copy ∧
    (applyDelta loc a v w s).clear = s.clear ∧ (applyDelta loc a v w s).log = s.log ∧
    (applyDelta loc a v w s).pending = s.pending := by
  unfold applyDelta; split <;> simp

@[simp] theorem setBroken_frame (loc : Located) (s : State) :
    (setBroken loc s).lines = s.lines ∧ (setBroken loc s).loader = s.loader ∧
    (setBroken loc s).through = s.through ∧ (setBroken loc s).checker = s.checker ∧
    (setBroken loc s).sram = s.sram ∧ (setBroken loc s).port = s.port ∧ (setBroken loc s).sig = s.sig ∧
    (setBroken loc s).patrol = s.patrol ∧ (setBroken loc s).link1 = s.link1 ∧ (setBroken loc s).link2 = s.link2 ∧
    (setBroken loc s).vote = s.vote ∧ (setBroken loc s).lane = s.lane ∧ (setBroken loc s).copy = s.copy ∧
    (setBroken loc s).clear = s.clear ∧ (setBroken loc s).log = s.log ∧ (setBroken loc s).pending = s.pending ∧
    (setBroken loc s).map.image = s.map.image ∧ (setBroken loc s).map.lock = s.map.lock := by
  simp [setBroken]

@[simp] theorem appendDirty_frame (b : Nat) (s : State) :
    (appendDirty b s).lines = s.lines ∧ (appendDirty b s).loader = s.loader ∧
    (appendDirty b s).through = s.through ∧ (appendDirty b s).map = s.map ∧ (appendDirty b s).checker = s.checker ∧
    (appendDirty b s).sram = s.sram ∧ (appendDirty b s).port = s.port ∧ (appendDirty b s).sig = s.sig ∧
    (appendDirty b s).patrol = s.patrol ∧ (appendDirty b s).link1 = s.link1 ∧ (appendDirty b s).link2 = s.link2 ∧
    (appendDirty b s).vote = s.vote ∧ (appendDirty b s).lane = s.lane ∧ (appendDirty b s).clear = s.clear ∧
    (appendDirty b s).log = s.log ∧ (appendDirty b s).pending = s.pending ∧
    (appendDirty b s).copy.serving = s.copy.serving ∧ (appendDirty b s).copy.repairs = s.copy.repairs ∧
    (appendDirty b s).copy.repair = s.copy.repair ∧ (appendDirty b s).copy.phase = s.copy.phase ∧
    (appendDirty b s).copy.attempt = s.copy.attempt ∧ (appendDirty b s).copy.catchUp = s.copy.catchUp ∧
    (appendDirty b s).copy.cursor = s.copy.cursor := by
  unfold appendDirty; split <;> simp

@[simp] theorem handToCopyEngine_frame (loc : Located) (b : Nat) (s : State) :
    (handToCopyEngine loc b s).lines = s.lines ∧ (handToCopyEngine loc b s).loader = s.loader ∧
    (handToCopyEngine loc b s).through = s.through ∧ (handToCopyEngine loc b s).map = s.map ∧
    (handToCopyEngine loc b s).checker = s.checker ∧ (handToCopyEngine loc b s).sram = s.sram ∧
    (handToCopyEngine loc b s).port = s.port ∧ (handToCopyEngine loc b s).sig = s.sig ∧
    (handToCopyEngine loc b s).patrol = s.patrol ∧ (handToCopyEngine loc b s).link1 = s.link1 ∧
    (handToCopyEngine loc b s).link2 = s.link2 ∧ (handToCopyEngine loc b s).vote = s.vote ∧
    (handToCopyEngine loc b s).lane = s.lane ∧ (handToCopyEngine loc b s).clear = s.clear ∧
    (handToCopyEngine loc b s).log = s.log ∧ (handToCopyEngine loc b s).pending = s.pending ∧
    (handToCopyEngine loc b s).copy.serving = s.copy.serving ∧
    (handToCopyEngine loc b s).copy.repairs = s.copy.repairs ∧
    (handToCopyEngine loc b s).copy.repair = s.copy.repair ∧ (handToCopyEngine loc b s).copy.phase = s.copy.phase ∧
    (handToCopyEngine loc b s).copy.attempt = s.copy.attempt ∧
    (handToCopyEngine loc b s).copy.catchUp = s.copy.catchUp ∧
    (handToCopyEngine loc b s).copy.cursor = s.copy.cursor := by
  unfold handToCopyEngine; split <;> simp

@[simp] theorem offerRepair_frame (i b : Nat) (s : State) :
    (offerRepair i b s).lines = s.lines ∧ (offerRepair i b s).loader = s.loader ∧
    (offerRepair i b s).through = s.through ∧ (offerRepair i b s).map = s.map ∧
    (offerRepair i b s).checker = s.checker ∧ (offerRepair i b s).sram = s.sram ∧ (offerRepair i b s).sig = s.sig ∧
    (offerRepair i b s).patrol = s.patrol ∧ (offerRepair i b s).link1 = s.link1 ∧
    (offerRepair i b s).link2 = s.link2 ∧ (offerRepair i b s).vote = s.vote ∧ (offerRepair i b s).lane = s.lane ∧
    (offerRepair i b s).clear = s.clear ∧ (offerRepair i b s).pending = s.pending ∧
    (offerRepair i b s).copy.serving = s.copy.serving ∧ (offerRepair i b s).copy.dirty = s.copy.dirty ∧
    (offerRepair i b s).copy.repair = s.copy.repair ∧ (offerRepair i b s).copy.phase = s.copy.phase ∧
    (offerRepair i b s).copy.attempt = s.copy.attempt ∧ (offerRepair i b s).copy.catchUp = s.copy.catchUp ∧
    (offerRepair i b s).copy.cursor = s.copy.cursor ∧ (offerRepair i b s).log.running = s.log.running := by
  unfold offerRepair; (repeat' split) <;> simp

@[simp] theorem classRepair_frame (loc : Located) (b : Nat) (s : State) :
    (classRepair loc b s).lines = s.lines ∧ (classRepair loc b s).loader = s.loader ∧
    (classRepair loc b s).through = s.through ∧ (classRepair loc b s).map = s.map ∧
    (classRepair loc b s).checker = s.checker ∧ (classRepair loc b s).sram = s.sram ∧
    (classRepair loc b s).sig = s.sig ∧ (classRepair loc b s).patrol = s.patrol ∧
    (classRepair loc b s).link1 = s.link1 ∧ (classRepair loc b s).link2 = s.link2 ∧
    (classRepair loc b s).vote = s.vote ∧ (classRepair loc b s).lane = s.lane ∧
    (classRepair loc b s).clear = s.clear ∧ (classRepair loc b s).pending = s.pending ∧
    (classRepair loc b s).copy.serving = s.copy.serving ∧ (classRepair loc b s).copy.dirty = s.copy.dirty ∧
    (classRepair loc b s).copy.repair = s.copy.repair ∧ (classRepair loc b s).copy.phase = s.copy.phase ∧
    (classRepair loc b s).copy.attempt = s.copy.attempt ∧ (classRepair loc b s).copy.catchUp = s.copy.catchUp ∧
    (classRepair loc b s).copy.cursor = s.copy.cursor ∧ (classRepair loc b s).log.running = s.log.running := by
  unfold classRepair; split <;> simp

@[simp] theorem beginBurst_frame (c : Client) (s : State) :
    (beginBurst c s).lines = s.lines ∧ (beginBurst c s).loader = s.loader ∧ (beginBurst c s).through = s.through ∧
    (beginBurst c s).map = s.map ∧ (beginBurst c s).checker = s.checker ∧ (beginBurst c s).sram = s.sram ∧
    (beginBurst c s).sig = s.sig ∧ (beginBurst c s).patrol = s.patrol ∧ (beginBurst c s).link1 = s.link1 ∧
    (beginBurst c s).link2 = s.link2 ∧ (beginBurst c s).vote = s.vote ∧ (beginBurst c s).lane = s.lane ∧
    (beginBurst c s).copy = s.copy ∧ (beginBurst c s).clear = s.clear ∧ (beginBurst c s).log = s.log ∧
    (beginBurst c s).pending = s.pending ∧ (beginBurst c s).port.procWaiting = s.port.procWaiting ∧
    (beginBurst c s).port.drain = s.port.drain := by
  simp [beginBurst]

@[simp] theorem setAtEnd_frame (e : AtEnd) (s : State) :
    (setAtEnd e s).lines = s.lines ∧ (setAtEnd e s).loader = s.loader ∧ (setAtEnd e s).through = s.through ∧
    (setAtEnd e s).map = s.map ∧ (setAtEnd e s).checker = s.checker ∧ (setAtEnd e s).sram = s.sram ∧
    (setAtEnd e s).sig = s.sig ∧ (setAtEnd e s).patrol = s.patrol ∧ (setAtEnd e s).link1 = s.link1 ∧
    (setAtEnd e s).link2 = s.link2 ∧ (setAtEnd e s).vote = s.vote ∧ (setAtEnd e s).lane = s.lane ∧
    (setAtEnd e s).copy = s.copy ∧ (setAtEnd e s).clear = s.clear ∧ (setAtEnd e s).log = s.log ∧
    (setAtEnd e s).pending = s.pending ∧ (setAtEnd e s).port.procWaiting = s.port.procWaiting ∧
    (setAtEnd e s).port.drain = s.port.drain := by
  simp [setAtEnd]

@[simp] theorem setDueAnswer_frame (a : Answer) (s : State) :
    (setDueAnswer a s).lines = s.lines ∧ (setDueAnswer a s).loader = s.loader ∧
    (setDueAnswer a s).through = s.through ∧ (setDueAnswer a s).map = s.map ∧
    (setDueAnswer a s).checker = s.checker ∧ (setDueAnswer a s).sram = s.sram ∧ (setDueAnswer a s).sig = s.sig ∧
    (setDueAnswer a s).patrol = s.patrol ∧ (setDueAnswer a s).link1 = s.link1 ∧ (setDueAnswer a s).link2 = s.link2 ∧
    (setDueAnswer a s).vote = s.vote ∧ (setDueAnswer a s).lane = s.lane ∧ (setDueAnswer a s).copy = s.copy ∧
    (setDueAnswer a s).clear = s.clear ∧ (setDueAnswer a s).log = s.log ∧ (setDueAnswer a s).pending = s.pending ∧
    (setDueAnswer a s).port.procWaiting = s.port.procWaiting ∧ (setDueAnswer a s).port.drain = s.port.drain := by
  simp [setDueAnswer]

@[simp] theorem startPatrol_frame (s : State) :
    (startPatrol s).lines = s.lines ∧ (startPatrol s).loader = s.loader ∧ (startPatrol s).through = s.through ∧
    (startPatrol s).map = s.map ∧ (startPatrol s).checker = s.checker ∧ (startPatrol s).sram = s.sram ∧
    (startPatrol s).port = s.port ∧ (startPatrol s).sig = s.sig ∧ (startPatrol s).link1 = s.link1 ∧
    (startPatrol s).link2 = s.link2 ∧ (startPatrol s).vote = s.vote ∧ (startPatrol s).lane = s.lane ∧
    (startPatrol s).copy = s.copy ∧ (startPatrol s).clear = s.clear ∧ (startPatrol s).log = s.log ∧
    (startPatrol s).pending = s.pending := by
  simp [startPatrol]

@[simp] theorem regionStart_frame (i : Nat) (s : State) :
    (regionStart i s).lines = s.lines ∧ (regionStart i s).loader = s.loader ∧
    (regionStart i s).through = s.through ∧ (regionStart i s).checker = s.checker ∧
    (regionStart i s).sram = s.sram ∧ (regionStart i s).port = s.port ∧ (regionStart i s).sig = s.sig ∧
    (regionStart i s).link1 = s.link1 ∧ (regionStart i s).link2 = s.link2 ∧ (regionStart i s).vote = s.vote ∧
    (regionStart i s).lane = s.lane ∧ (regionStart i s).copy = s.copy ∧ (regionStart i s).clear = s.clear ∧
    (regionStart i s).log = s.log ∧ (regionStart i s).pending = s.pending ∧
    (regionStart i s).map.image = s.map.image ∧ (regionStart i s).map.lock = s.map.lock ∧
    (regionStart i s).patrol.running = s.patrol.running := by
  simp [regionStart]

@[simp] theorem restartPatrol_frame (s : State) :
    (restartPatrol s).lines = s.lines ∧ (restartPatrol s).loader = s.loader ∧
    (restartPatrol s).through = s.through ∧ (restartPatrol s).checker = s.checker ∧
    (restartPatrol s).sram = s.sram ∧ (restartPatrol s).sig = s.sig ∧ (restartPatrol s).link1 = s.link1 ∧
    (restartPatrol s).link2 = s.link2 ∧ (restartPatrol s).vote = s.vote ∧ (restartPatrol s).lane = s.lane ∧
    (restartPatrol s).copy = s.copy ∧ (restartPatrol s).clear = s.clear ∧ (restartPatrol s).log = s.log ∧
    (restartPatrol s).pending = s.pending ∧ (restartPatrol s).map.image = s.map.image ∧
    (restartPatrol s).map.lock = s.map.lock := by
  simp [restartPatrol]

@[simp] theorem clearLivePairs_frame (s : State) :
    (clearLivePairs s).lines = s.lines ∧ (clearLivePairs s).loader = s.loader ∧
    (clearLivePairs s).through = s.through ∧ (clearLivePairs s).map = s.map ∧
    (clearLivePairs s).checker = s.checker ∧ (clearLivePairs s).sram = s.sram ∧ (clearLivePairs s).port = s.port ∧
    (clearLivePairs s).patrol = s.patrol ∧ (clearLivePairs s).link1 = s.link1 ∧ (clearLivePairs s).link2 = s.link2 ∧
    (clearLivePairs s).vote = s.vote ∧ (clearLivePairs s).lane = s.lane ∧ (clearLivePairs s).copy = s.copy ∧
    (clearLivePairs s).clear = s.clear ∧ (clearLivePairs s).log = s.log ∧
    (clearLivePairs s).pending = s.pending := by
  simp [clearLivePairs]

@[simp] theorem beginClear_frame (j : Bool) (s : State) :
    (beginClear j s).lines = s.lines ∧ (beginClear j s).loader = s.loader ∧ (beginClear j s).through = s.through ∧
    (beginClear j s).map = s.map ∧ (beginClear j s).checker = s.checker ∧ (beginClear j s).sram = s.sram ∧
    (beginClear j s).sig = s.sig ∧ (beginClear j s).patrol = s.patrol ∧ (beginClear j s).link1 = s.link1 ∧
    (beginClear j s).link2 = s.link2 ∧ (beginClear j s).vote = s.vote ∧ (beginClear j s).lane = s.lane ∧
    (beginClear j s).copy = s.copy ∧ (beginClear j s).log = s.log ∧ (beginClear j s).pending = s.pending := by
  simp only [beginClear]; (repeat' split) <;> simp

@[simp] theorem endRestoreJob_frame (s : State) :
    (endRestoreJob s).lines = s.lines ∧ (endRestoreJob s).loader = s.loader ∧
    (endRestoreJob s).through = s.through ∧ (endRestoreJob s).map = s.map ∧ (endRestoreJob s).checker = s.checker ∧
    (endRestoreJob s).sram = s.sram ∧ (endRestoreJob s).sig = s.sig ∧ (endRestoreJob s).patrol = s.patrol ∧
    (endRestoreJob s).vote = s.vote ∧ (endRestoreJob s).lane = s.lane ∧ (endRestoreJob s).clear = s.clear ∧
    (endRestoreJob s).log = s.log ∧ (endRestoreJob s).pending = s.pending ∧
    (endRestoreJob s).copy.serving = s.copy.serving ∧ (endRestoreJob s).copy.dirty = s.copy.dirty ∧
    (endRestoreJob s).copy.repairs = s.copy.repairs ∧ (endRestoreJob s).copy.repair = s.copy.repair ∧
    (endRestoreJob s).copy.phase = s.copy.phase ∧ (endRestoreJob s).copy.attempt = s.copy.attempt ∧
    (endRestoreJob s).copy.catchUp = s.copy.catchUp ∧ (endRestoreJob s).copy.cursor = s.copy.cursor := by
  simp only [endRestoreJob]; (repeat' split) <;> simp

@[simp] theorem endServingStep_frame (c : Cause) (d : Option Cause) (s : State) :
    (endServingStep c d s).lines = s.lines ∧ (endServingStep c d s).loader = s.loader ∧
    (endServingStep c d s).through = s.through ∧ (endServingStep c d s).map = s.map ∧
    (endServingStep c d s).checker = s.checker ∧ (endServingStep c d s).sram = s.sram ∧
    (endServingStep c d s).sig = s.sig ∧ (endServingStep c d s).patrol = s.patrol ∧
    (endServingStep c d s).clear = s.clear ∧ (endServingStep c d s).pending = s.pending ∧
    (endServingStep c d s).vote.counter = s.vote.counter ∧ (endServingStep c d s).vote.window = s.vote.window ∧
    (endServingStep c d s).lane.state = s.lane.state ∧ (endServingStep c d s).lane.attempts = s.lane.attempts ∧
    (endServingStep c d s).lane.retry = s.lane.retry ∧ (endServingStep c d s).lane.formation = s.lane.formation ∧
    (endServingStep c d s).copy.repairs = s.copy.repairs ∧ (endServingStep c d s).copy.repair = s.copy.repair ∧
    (endServingStep c d s).copy.phase = s.copy.phase ∧ (endServingStep c d s).copy.attempt = s.copy.attempt ∧
    (endServingStep c d s).log.running = s.log.running := by
  simp only [endServingStep]; (repeat' split) <;> simp

@[simp] theorem reportServeEnd_frame (b : State) (c : Cause) (n : Option Nat) (s : State) :
    (reportServeEnd b c n s).lines = s.lines ∧ (reportServeEnd b c n s).loader = s.loader ∧
    (reportServeEnd b c n s).through = s.through ∧ (reportServeEnd b c n s).map = s.map ∧
    (reportServeEnd b c n s).checker = s.checker ∧ (reportServeEnd b c n s).sram = s.sram ∧
    (reportServeEnd b c n s).sig = s.sig ∧ (reportServeEnd b c n s).patrol = s.patrol ∧
    (reportServeEnd b c n s).link1 = s.link1 ∧ (reportServeEnd b c n s).link2 = s.link2 ∧
    (reportServeEnd b c n s).vote = s.vote ∧ (reportServeEnd b c n s).lane = s.lane ∧
    (reportServeEnd b c n s).copy = s.copy ∧ (reportServeEnd b c n s).clear = s.clear ∧
    (reportServeEnd b c n s).pending = s.pending ∧ (reportServeEnd b c n s).log.running = s.log.running := by
  unfold reportServeEnd; (repeat' split) <;> simp

@[simp] theorem endServing_frame (c : Cause) (d : Option Cause) (n : Option Nat) (s : State) :
    (endServing c d n s).lines = s.lines ∧ (endServing c d n s).loader = s.loader ∧
    (endServing c d n s).through = s.through ∧ (endServing c d n s).map = s.map ∧
    (endServing c d n s).checker = s.checker ∧ (endServing c d n s).sram = s.sram ∧
    (endServing c d n s).sig = s.sig ∧ (endServing c d n s).patrol = s.patrol ∧
    (endServing c d n s).clear = s.clear ∧ (endServing c d n s).pending = s.pending ∧
    (endServing c d n s).vote.counter = s.vote.counter ∧ (endServing c d n s).vote.window = s.vote.window ∧
    (endServing c d n s).lane.state = s.lane.state ∧ (endServing c d n s).lane.attempts = s.lane.attempts ∧
    (endServing c d n s).lane.retry = s.lane.retry ∧ (endServing c d n s).lane.formation = s.lane.formation ∧
    (endServing c d n s).copy.repairs = s.copy.repairs ∧ (endServing c d n s).copy.repair = s.copy.repair ∧
    (endServing c d n s).copy.phase = s.copy.phase ∧ (endServing c d n s).copy.attempt = s.copy.attempt ∧
    (endServing c d n s).log.running = s.log.running := by
  simp [endServing]

@[simp] theorem dropReceived_frame (s : State) :
    (dropReceived s).lines = s.lines ∧ (dropReceived s).loader = s.loader ∧ (dropReceived s).through = s.through ∧
    (dropReceived s).map = s.map ∧ (dropReceived s).checker = s.checker ∧ (dropReceived s).sram = s.sram ∧
    (dropReceived s).sig = s.sig ∧ (dropReceived s).patrol = s.patrol ∧ (dropReceived s).link1 = s.link1 ∧
    (dropReceived s).link2 = s.link2 ∧ (dropReceived s).vote = s.vote ∧ (dropReceived s).lane = s.lane ∧
    (dropReceived s).clear = s.clear ∧ (dropReceived s).log = s.log ∧ (dropReceived s).pending = s.pending ∧
    (dropReceived s).copy.serving = s.copy.serving ∧ (dropReceived s).copy.dirty = s.copy.dirty ∧
    (dropReceived s).copy.repairs = s.copy.repairs ∧ (dropReceived s).copy.repair = s.copy.repair ∧
    (dropReceived s).copy.phase = s.copy.phase ∧ (dropReceived s).copy.attempt = s.copy.attempt ∧
    (dropReceived s).copy.catchUp = s.copy.catchUp ∧ (dropReceived s).copy.cursor = s.copy.cursor := by
  unfold dropReceived; split <;> simp

@[simp] theorem endAnswerJob_frame (s : State) :
    (endAnswerJob s).lines = s.lines ∧ (endAnswerJob s).loader = s.loader ∧ (endAnswerJob s).through = s.through ∧
    (endAnswerJob s).map = s.map ∧ (endAnswerJob s).checker = s.checker ∧ (endAnswerJob s).sram = s.sram ∧
    (endAnswerJob s).sig = s.sig ∧ (endAnswerJob s).patrol = s.patrol ∧ (endAnswerJob s).vote = s.vote ∧
    (endAnswerJob s).lane = s.lane ∧ (endAnswerJob s).clear = s.clear ∧ (endAnswerJob s).log = s.log ∧
    (endAnswerJob s).pending = s.pending ∧ (endAnswerJob s).copy.serving = s.copy.serving ∧
    (endAnswerJob s).copy.dirty = s.copy.dirty ∧ (endAnswerJob s).copy.repairs = s.copy.repairs ∧
    (endAnswerJob s).copy.repair = s.copy.repair ∧ (endAnswerJob s).copy.phase = s.copy.phase ∧
    (endAnswerJob s).copy.attempt = s.copy.attempt ∧ (endAnswerJob s).copy.catchUp = s.copy.catchUp ∧
    (endAnswerJob s).copy.cursor = s.copy.cursor := by
  unfold endAnswerJob; split <;> simp

@[simp] theorem dropRepairWork_frame (s : State) :
    (dropRepairWork s).lines = s.lines ∧ (dropRepairWork s).loader = s.loader ∧
    (dropRepairWork s).through = s.through ∧ (dropRepairWork s).map = s.map ∧
    (dropRepairWork s).checker = s.checker ∧ (dropRepairWork s).sram = s.sram ∧ (dropRepairWork s).sig = s.sig ∧
    (dropRepairWork s).patrol = s.patrol ∧ (dropRepairWork s).vote = s.vote ∧ (dropRepairWork s).lane = s.lane ∧
    (dropRepairWork s).clear = s.clear ∧ (dropRepairWork s).log = s.log ∧ (dropRepairWork s).pending = s.pending ∧
    (dropRepairWork s).copy.serving = s.copy.serving ∧ (dropRepairWork s).copy.dirty = s.copy.dirty ∧
    (dropRepairWork s).copy.phase = s.copy.phase ∧ (dropRepairWork s).copy.attempt = s.copy.attempt ∧
    (dropRepairWork s).copy.catchUp = s.copy.catchUp ∧ (dropRepairWork s).copy.cursor = s.copy.cursor := by
  unfold dropRepairWork; split <;> simp

@[simp] theorem dropFoundCause_frame (s : State) :
    (dropFoundCause s).lines = s.lines ∧ (dropFoundCause s).loader = s.loader ∧
    (dropFoundCause s).through = s.through ∧ (dropFoundCause s).map = s.map ∧
    (dropFoundCause s).checker = s.checker ∧ (dropFoundCause s).sram = s.sram ∧ (dropFoundCause s).sig = s.sig ∧
    (dropFoundCause s).patrol = s.patrol ∧ (dropFoundCause s).link1 = s.link1 ∧ (dropFoundCause s).link2 = s.link2 ∧
    (dropFoundCause s).vote = s.vote ∧ (dropFoundCause s).lane = s.lane ∧ (dropFoundCause s).copy = s.copy ∧
    (dropFoundCause s).clear = s.clear ∧ (dropFoundCause s).log = s.log ∧ (dropFoundCause s).pending = s.pending ∧
    (dropFoundCause s).port.procWaiting = s.port.procWaiting ∧ (dropFoundCause s).port.drain = s.port.drain := by
  unfold dropFoundCause; (repeat' split) <;> simp

@[simp] theorem emptyVote_frame (s : State) :
    (emptyVote s).lines = s.lines ∧ (emptyVote s).loader = s.loader ∧ (emptyVote s).through = s.through ∧
    (emptyVote s).map = s.map ∧ (emptyVote s).checker = s.checker ∧ (emptyVote s).sram = s.sram ∧
    (emptyVote s).port = s.port ∧ (emptyVote s).sig = s.sig ∧ (emptyVote s).patrol = s.patrol ∧
    (emptyVote s).link1 = s.link1 ∧ (emptyVote s).link2 = s.link2 ∧ (emptyVote s).lane = s.lane ∧
    (emptyVote s).copy = s.copy ∧ (emptyVote s).clear = s.clear ∧ (emptyVote s).log = s.log ∧
    (emptyVote s).pending = s.pending ∧ (emptyVote s).vote.counter = s.vote.counter ∧
    (emptyVote s).vote.view = s.vote.view := by
  simp [emptyVote]

@[simp] theorem reportIsolated_frame (b : State) (c : Cause) (n : Option Nat) (s : State) :
    (reportIsolated b c n s).lines = s.lines ∧ (reportIsolated b c n s).loader = s.loader ∧
    (reportIsolated b c n s).through = s.through ∧ (reportIsolated b c n s).map = s.map ∧
    (reportIsolated b c n s).checker = s.checker ∧ (reportIsolated b c n s).sram = s.sram ∧
    (reportIsolated b c n s).sig = s.sig ∧ (reportIsolated b c n s).patrol = s.patrol ∧
    (reportIsolated b c n s).link1 = s.link1 ∧ (reportIsolated b c n s).link2 = s.link2 ∧
    (reportIsolated b c n s).vote = s.vote ∧ (reportIsolated b c n s).lane = s.lane ∧
    (reportIsolated b c n s).copy = s.copy ∧ (reportIsolated b c n s).clear = s.clear ∧
    (reportIsolated b c n s).pending = s.pending ∧ (reportIsolated b c n s).log.running = s.log.running := by
  simp [reportIsolated]

@[simp] theorem isolate_frame (c : Cause) (n : Option Nat) (s : State) :
    (isolate c n s).loader = s.loader ∧ (isolate c n s).map = s.map ∧ (isolate c n s).checker = s.checker ∧
    (isolate c n s).sram = s.sram ∧ (isolate c n s).sig = s.sig ∧ (isolate c n s).clear = s.clear ∧
    (isolate c n s).pending = s.pending ∧ (isolate c n s).lines.straps = s.lines.straps ∧
    (isolate c n s).lines.supplyLow = s.lines.supplyLow ∧ (isolate c n s).lines.permit = s.lines.permit ∧
    (isolate c n s).vote.counter = s.vote.counter ∧ (isolate c n s).copy.phase = s.copy.phase ∧
    (isolate c n s).copy.attempt = s.copy.attempt ∧ (isolate c n s).log.running = s.log.running := by
  unfold isolate; split <;> simp

@[simp] theorem leave_frame (c : Cause) (n : Option Nat) (s : State) :
    (leave c n s).loader = s.loader ∧ (leave c n s).map = s.map ∧ (leave c n s).checker = s.checker ∧
    (leave c n s).sram = s.sram ∧ (leave c n s).sig = s.sig ∧ (leave c n s).clear = s.clear ∧
    (leave c n s).pending = s.pending ∧ (leave c n s).lines.straps = s.lines.straps ∧
    (leave c n s).lines.supplyLow = s.lines.supplyLow ∧ (leave c n s).lines.permit = s.lines.permit ∧
    (leave c n s).vote.counter = s.vote.counter ∧ (leave c n s).copy.phase = s.copy.phase ∧
    (leave c n s).copy.attempt = s.copy.attempt ∧ (leave c n s).log.running = s.log.running := by
  unfold leave; split <;> simp

@[simp] theorem askPeer_frame (l : Lane) (s : State) :
    (askPeer l s).lines = s.lines ∧ (askPeer l s).loader = s.loader ∧ (askPeer l s).through = s.through ∧
    (askPeer l s).map = s.map ∧ (askPeer l s).checker = s.checker ∧ (askPeer l s).sram = s.sram ∧
    (askPeer l s).sig = s.sig ∧ (askPeer l s).patrol = s.patrol ∧ (askPeer l s).vote = s.vote ∧
    (askPeer l s).lane = s.lane ∧ (askPeer l s).clear = s.clear ∧ (askPeer l s).pending = s.pending ∧
    (askPeer l s).copy.serving = s.copy.serving ∧ (askPeer l s).copy.dirty = s.copy.dirty ∧
    (askPeer l s).copy.repairs = s.copy.repairs ∧ (askPeer l s).copy.repair = s.copy.repair ∧
    (askPeer l s).copy.phase = s.copy.phase ∧ (askPeer l s).copy.attempt = s.copy.attempt ∧
    (askPeer l s).copy.catchUp = s.copy.catchUp ∧ (askPeer l s).copy.cursor = s.copy.cursor ∧
    (askPeer l s).log.running = s.log.running := by
  simp only [askPeer]; (repeat' split) <;> simp

@[simp] theorem enterRequest_frame (s : State) :
    (enterRequest s).lines = s.lines ∧ (enterRequest s).loader = s.loader ∧ (enterRequest s).through = s.through ∧
    (enterRequest s).map = s.map ∧ (enterRequest s).checker = s.checker ∧ (enterRequest s).sram = s.sram ∧
    (enterRequest s).sig = s.sig ∧ (enterRequest s).patrol = s.patrol ∧ (enterRequest s).vote = s.vote ∧
    (enterRequest s).lane = s.lane ∧ (enterRequest s).clear = s.clear ∧ (enterRequest s).pending = s.pending ∧
    (enterRequest s).copy.serving = s.copy.serving ∧ (enterRequest s).copy.dirty = s.copy.dirty ∧
    (enterRequest s).copy.repairs = s.copy.repairs ∧ (enterRequest s).copy.repair = s.copy.repair ∧
    (enterRequest s).copy.attempt = s.copy.attempt ∧ (enterRequest s).copy.catchUp = s.copy.catchUp ∧
    (enterRequest s).copy.cursor = s.copy.cursor ∧ (enterRequest s).log.running = s.log.running := by
  simp only [enterRequest]; (repeat' split) <;> simp

@[simp] theorem endJoinerClear_frame (s : State) :
    (endJoinerClear s).lines = s.lines ∧ (endJoinerClear s).loader = s.loader ∧
    (endJoinerClear s).through = s.through ∧ (endJoinerClear s).map = s.map ∧
    (endJoinerClear s).checker = s.checker ∧ (endJoinerClear s).sram = s.sram ∧ (endJoinerClear s).sig = s.sig ∧
    (endJoinerClear s).vote = s.vote ∧ (endJoinerClear s).lane = s.lane ∧ (endJoinerClear s).pending = s.pending ∧
    (endJoinerClear s).copy.serving = s.copy.serving ∧ (endJoinerClear s).copy.dirty = s.copy.dirty ∧
    (endJoinerClear s).copy.repairs = s.copy.repairs ∧ (endJoinerClear s).copy.repair = s.copy.repair ∧
    (endJoinerClear s).copy.attempt = s.copy.attempt ∧ (endJoinerClear s).copy.catchUp = s.copy.catchUp ∧
    (endJoinerClear s).copy.cursor = s.copy.cursor ∧ (endJoinerClear s).log.running = s.log.running := by
  simp only [endJoinerClear]; (repeat' split) <;> simp

@[simp] theorem clearStart_frame (s : State) :
    (clearStart s).lines = s.lines ∧ (clearStart s).loader = s.loader ∧ (clearStart s).through = s.through ∧
    (clearStart s).checker = s.checker ∧ (clearStart s).sram = s.sram ∧ (clearStart s).link1 = s.link1 ∧
    (clearStart s).link2 = s.link2 ∧ (clearStart s).lane = s.lane ∧ (clearStart s).copy = s.copy ∧
    (clearStart s).clear = s.clear ∧ (clearStart s).log = s.log ∧ (clearStart s).pending = s.pending ∧
    (clearStart s).map.image = s.map.image ∧ (clearStart s).map.lock = s.map.lock ∧
    (clearStart s).vote.view = s.vote.view := by
  simp [clearStart]

@[simp] theorem startAttempt_frame (s : State) :
    (startAttempt s).lines = s.lines ∧ (startAttempt s).loader = s.loader ∧ (startAttempt s).through = s.through ∧
    (startAttempt s).checker = s.checker ∧ (startAttempt s).sram = s.sram ∧ (startAttempt s).lane = s.lane ∧
    (startAttempt s).pending = s.pending ∧ (startAttempt s).map.image = s.map.image ∧
    (startAttempt s).map.lock = s.map.lock ∧ (startAttempt s).vote.view = s.vote.view ∧
    (startAttempt s).copy.serving = s.copy.serving ∧ (startAttempt s).copy.dirty = s.copy.dirty ∧
    (startAttempt s).copy.catchUp = s.copy.catchUp ∧ (startAttempt s).copy.cursor = s.copy.cursor ∧
    (startAttempt s).log.running = s.log.running := by
  simp only [startAttempt]; (repeat' split) <;> simp

@[simp] theorem enterJoining_frame (g : Trigger) (s : State) :
    (enterJoining g s).loader = s.loader ∧ (enterJoining g s).checker = s.checker ∧
    (enterJoining g s).sram = s.sram ∧ (enterJoining g s).pending = s.pending ∧
    (enterJoining g s).lines.straps = s.lines.straps ∧ (enterJoining g s).lines.supplyLow = s.lines.supplyLow ∧
    (enterJoining g s).lines.permit = s.lines.permit ∧ (enterJoining g s).map.image = s.map.image ∧
    (enterJoining g s).map.lock = s.map.lock ∧ (enterJoining g s).lane.attempts = s.lane.attempts ∧
    (enterJoining g s).lane.retainedServing = s.lane.retainedServing ∧
    (enterJoining g s).copy.serving = s.copy.serving ∧ (enterJoining g s).copy.dirty = s.copy.dirty ∧
    (enterJoining g s).copy.catchUp = s.copy.catchUp ∧ (enterJoining g s).copy.cursor = s.copy.cursor ∧
    (enterJoining g s).log.running = s.log.running := by
  simp [enterJoining]

@[simp] theorem hearMember_frame (s : State) :
    (hearMember s).loader = s.loader ∧ (hearMember s).checker = s.checker ∧ (hearMember s).sram = s.sram ∧
    (hearMember s).pending = s.pending ∧ (hearMember s).lines.straps = s.lines.straps ∧
    (hearMember s).lines.supplyLow = s.lines.supplyLow ∧ (hearMember s).lines.permit = s.lines.permit ∧
    (hearMember s).map.image = s.map.image ∧ (hearMember s).map.lock = s.map.lock ∧
    (hearMember s).log.running = s.log.running := by
  unfold hearMember; (repeat' split) <;> simp

@[simp] theorem reportRestoreEnd_frame (c : Cause) (d : Option Cause) (s : State) :
    (reportRestoreEnd c d s).lines = s.lines ∧ (reportRestoreEnd c d s).loader = s.loader ∧
    (reportRestoreEnd c d s).through = s.through ∧ (reportRestoreEnd c d s).map = s.map ∧
    (reportRestoreEnd c d s).checker = s.checker ∧ (reportRestoreEnd c d s).sram = s.sram ∧
    (reportRestoreEnd c d s).sig = s.sig ∧ (reportRestoreEnd c d s).patrol = s.patrol ∧
    (reportRestoreEnd c d s).link1 = s.link1 ∧ (reportRestoreEnd c d s).link2 = s.link2 ∧
    (reportRestoreEnd c d s).vote = s.vote ∧ (reportRestoreEnd c d s).lane = s.lane ∧
    (reportRestoreEnd c d s).copy = s.copy ∧ (reportRestoreEnd c d s).clear = s.clear ∧
    (reportRestoreEnd c d s).pending = s.pending ∧ (reportRestoreEnd c d s).log.running = s.log.running := by
  simp [reportRestoreEnd]

@[simp] theorem endAttempt_frame (c : Cause) (b : Bool) (s : State) :
    (endAttempt c b s).lines = s.lines ∧ (endAttempt c b s).loader = s.loader ∧
    (endAttempt c b s).through = s.through ∧ (endAttempt c b s).map = s.map ∧
    (endAttempt c b s).checker = s.checker ∧ (endAttempt c b s).sram = s.sram ∧ (endAttempt c b s).sig = s.sig ∧
    (endAttempt c b s).patrol = s.patrol ∧ (endAttempt c b s).vote = s.vote ∧ (endAttempt c b s).lane = s.lane ∧
    (endAttempt c b s).clear = s.clear ∧ (endAttempt c b s).pending = s.pending ∧
    (endAttempt c b s).copy.serving = s.copy.serving ∧ (endAttempt c b s).copy.dirty = s.copy.dirty ∧
    (endAttempt c b s).copy.repairs = s.copy.repairs ∧ (endAttempt c b s).copy.repair = s.copy.repair ∧
    (endAttempt c b s).copy.attempt = s.copy.attempt ∧ (endAttempt c b s).copy.catchUp = s.copy.catchUp ∧
    (endAttempt c b s).copy.cursor = s.copy.cursor ∧ (endAttempt c b s).log.running = s.log.running := by
  simp only [endAttempt]; (repeat' split) <;> simp

@[simp] theorem failAttempt_frame (c : Cause) (b : Bool) (d : Option Cause) (s : State) :
    (failAttempt c b d s).lines = s.lines ∧ (failAttempt c b d s).loader = s.loader ∧
    (failAttempt c b d s).through = s.through ∧ (failAttempt c b d s).map = s.map ∧
    (failAttempt c b d s).checker = s.checker ∧ (failAttempt c b d s).sram = s.sram ∧
    (failAttempt c b d s).sig = s.sig ∧ (failAttempt c b d s).patrol = s.patrol ∧
    (failAttempt c b d s).clear = s.clear ∧ (failAttempt c b d s).pending = s.pending ∧
    (failAttempt c b d s).vote.counter = s.vote.counter ∧ (failAttempt c b d s).vote.table = s.vote.table ∧
    (failAttempt c b d s).vote.window = s.vote.window ∧ (failAttempt c b d s).lane.formation = s.lane.formation ∧
    (failAttempt c b d s).lane.retainedServing = s.lane.retainedServing ∧
    (failAttempt c b d s).copy.serving = s.copy.serving ∧ (failAttempt c b d s).copy.dirty = s.copy.dirty ∧
    (failAttempt c b d s).copy.repairs = s.copy.repairs ∧ (failAttempt c b d s).copy.repair = s.copy.repair ∧
    (failAttempt c b d s).copy.attempt = s.copy.attempt ∧ (failAttempt c b d s).copy.catchUp = s.copy.catchUp ∧
    (failAttempt c b d s).copy.cursor = s.copy.cursor ∧ (failAttempt c b d s).log.running = s.log.running := by
  unfold failAttempt; split <;> simp

@[simp] theorem askOther_frame (b : Bool) (s : State) :
    (askOther b s).lines = s.lines ∧ (askOther b s).loader = s.loader ∧ (askOther b s).through = s.through ∧
    (askOther b s).map = s.map ∧ (askOther b s).checker = s.checker ∧ (askOther b s).sram = s.sram ∧
    (askOther b s).sig = s.sig ∧ (askOther b s).patrol = s.patrol ∧ (askOther b s).clear = s.clear ∧
    (askOther b s).pending = s.pending ∧ (askOther b s).vote.counter = s.vote.counter ∧
    (askOther b s).vote.table = s.vote.table ∧ (askOther b s).vote.window = s.vote.window ∧
    (askOther b s).lane.formation = s.lane.formation ∧
    (askOther b s).lane.retainedServing = s.lane.retainedServing ∧ (askOther b s).copy.serving = s.copy.serving ∧
    (askOther b s).copy.dirty = s.copy.dirty ∧ (askOther b s).copy.repairs = s.copy.repairs ∧
    (askOther b s).copy.repair = s.copy.repair ∧ (askOther b s).copy.attempt = s.copy.attempt ∧
    (askOther b s).copy.catchUp = s.copy.catchUp ∧ (askOther b s).copy.cursor = s.copy.cursor ∧
    (askOther b s).log.running = s.log.running := by
  unfold askOther; split <;> simp

@[simp] theorem enterMember_frame (s : State) :
    (enterMember s).loader = s.loader ∧ (enterMember s).through = s.through ∧ (enterMember s).map = s.map ∧
    (enterMember s).checker = s.checker ∧ (enterMember s).sram = s.sram ∧ (enterMember s).port = s.port ∧
    (enterMember s).sig = s.sig ∧ (enterMember s).patrol = s.patrol ∧ (enterMember s).link1 = s.link1 ∧
    (enterMember s).link2 = s.link2 ∧ (enterMember s).copy = s.copy ∧ (enterMember s).clear = s.clear ∧
    (enterMember s).log = s.log ∧ (enterMember s).pending = s.pending ∧
    (enterMember s).lines.straps = s.lines.straps ∧ (enterMember s).lines.supplyLow = s.lines.supplyLow ∧
    (enterMember s).lines.permit = s.lines.permit ∧ (enterMember s).vote.counter = s.vote.counter ∧
    (enterMember s).vote.table = s.vote.table ∧ (enterMember s).vote.window = s.vote.window ∧
    (enterMember s).lane.retry = s.lane.retry ∧ (enterMember s).lane.formation = s.lane.formation ∧
    (enterMember s).lane.retainedServing = s.lane.retainedServing := by
  simp [enterMember]

@[simp] theorem admission_frame (x : Snapshot) (s : State) :
    (admission x s).loader = s.loader ∧ (admission x s).through = s.through ∧ (admission x s).checker = s.checker ∧
    (admission x s).sram = s.sram ∧ (admission x s).sig = s.sig ∧ (admission x s).patrol = s.patrol ∧
    (admission x s).clear = s.clear ∧ (admission x s).pending = s.pending ∧
    (admission x s).lines.straps = s.lines.straps ∧ (admission x s).lines.supplyLow = s.lines.supplyLow ∧
    (admission x s).lines.permit = s.lines.permit ∧ (admission x s).map.image = s.map.image ∧
    (admission x s).lane.retry = s.lane.retry ∧ (admission x s).lane.formation = s.lane.formation ∧
    (admission x s).lane.retainedServing = s.lane.retainedServing ∧ (admission x s).copy.serving = s.copy.serving ∧
    (admission x s).copy.dirty = s.copy.dirty ∧ (admission x s).copy.repairs = s.copy.repairs ∧
    (admission x s).copy.repair = s.copy.repair ∧ (admission x s).copy.attempt = s.copy.attempt ∧
    (admission x s).copy.catchUp = s.copy.catchUp ∧ (admission x s).copy.cursor = s.copy.cursor ∧
    (admission x s).log.running = s.log.running := by
  unfold admission; split <;> simp

@[simp] theorem reportVote_frame (l : Lane) (e : VoteEntry) (r : List SlotResult) (s : State) :
    (reportVote l e r s).lines = s.lines ∧ (reportVote l e r s).loader = s.loader ∧
    (reportVote l e r s).through = s.through ∧ (reportVote l e r s).map = s.map ∧
    (reportVote l e r s).checker = s.checker ∧ (reportVote l e r s).sram = s.sram ∧
    (reportVote l e r s).sig = s.sig ∧ (reportVote l e r s).patrol = s.patrol ∧
    (reportVote l e r s).link1 = s.link1 ∧ (reportVote l e r s).link2 = s.link2 ∧
    (reportVote l e r s).vote = s.vote ∧ (reportVote l e r s).lane = s.lane ∧ (reportVote l e r s).copy = s.copy ∧
    (reportVote l e r s).clear = s.clear ∧ (reportVote l e r s).pending = s.pending ∧
    (reportVote l e r s).log.running = s.log.running := by
  simp [reportVote]

@[simp] theorem excludeAll_frame (xs : List (Lane × Cause)) (s : State) :
    (excludeAll xs s).lines = s.lines ∧ (excludeAll xs s).loader = s.loader ∧
    (excludeAll xs s).through = s.through ∧ (excludeAll xs s).map = s.map ∧ (excludeAll xs s).checker = s.checker ∧
    (excludeAll xs s).sram = s.sram ∧ (excludeAll xs s).port = s.port ∧ (excludeAll xs s).sig = s.sig ∧
    (excludeAll xs s).patrol = s.patrol ∧ (excludeAll xs s).link1 = s.link1 ∧ (excludeAll xs s).link2 = s.link2 ∧
    (excludeAll xs s).copy = s.copy ∧ (excludeAll xs s).clear = s.clear ∧ (excludeAll xs s).log = s.log ∧
    (excludeAll xs s).pending = s.pending ∧ (excludeAll xs s).vote.counter = s.vote.counter ∧
    (excludeAll xs s).vote.window = s.vote.window ∧ (excludeAll xs s).lane.state = s.lane.state ∧
    (excludeAll xs s).lane.attempts = s.lane.attempts ∧ (excludeAll xs s).lane.retry = s.lane.retry ∧
    (excludeAll xs s).lane.formation = s.lane.formation ∧
    (excludeAll xs s).lane.retainedServing = s.lane.retainedServing := by
  induction xs generalizing s with
  | nil => simp [excludeAll]
  | cons _ _ ih => simp [excludeAll, ih]

@[simp] theorem reportAllExcluded_frame (b : State) (xs : List (Lane × Cause)) (s : State) :
    (reportAllExcluded b xs s).lines = s.lines ∧ (reportAllExcluded b xs s).loader = s.loader ∧
    (reportAllExcluded b xs s).through = s.through ∧ (reportAllExcluded b xs s).map = s.map ∧
    (reportAllExcluded b xs s).checker = s.checker ∧ (reportAllExcluded b xs s).sram = s.sram ∧
    (reportAllExcluded b xs s).sig = s.sig ∧ (reportAllExcluded b xs s).patrol = s.patrol ∧
    (reportAllExcluded b xs s).link1 = s.link1 ∧ (reportAllExcluded b xs s).link2 = s.link2 ∧
    (reportAllExcluded b xs s).vote = s.vote ∧ (reportAllExcluded b xs s).lane = s.lane ∧
    (reportAllExcluded b xs s).copy = s.copy ∧ (reportAllExcluded b xs s).clear = s.clear ∧
    (reportAllExcluded b xs s).pending = s.pending ∧ (reportAllExcluded b xs s).log.running = s.log.running := by
  induction xs generalizing s with
  | nil => simp [reportAllExcluded]
  | cons _ _ ih => simp only [reportAllExcluded, ih]; split <;> simp

@[simp] theorem makeMembers_frame (ls : List Lane) (s : State) :
    (makeMembers ls s).lines = s.lines ∧ (makeMembers ls s).loader = s.loader ∧
    (makeMembers ls s).through = s.through ∧ (makeMembers ls s).map = s.map ∧
    (makeMembers ls s).checker = s.checker ∧ (makeMembers ls s).sram = s.sram ∧ (makeMembers ls s).port = s.port ∧
    (makeMembers ls s).sig = s.sig ∧ (makeMembers ls s).patrol = s.patrol ∧ (makeMembers ls s).link1 = s.link1 ∧
    (makeMembers ls s).link2 = s.link2 ∧ (makeMembers ls s).copy = s.copy ∧ (makeMembers ls s).clear = s.clear ∧
    (makeMembers ls s).log = s.log ∧ (makeMembers ls s).pending = s.pending ∧
    (makeMembers ls s).vote.counter = s.vote.counter ∧ (makeMembers ls s).vote.table = s.vote.table ∧
    (makeMembers ls s).vote.window = s.vote.window ∧ (makeMembers ls s).lane.state = s.lane.state ∧
    (makeMembers ls s).lane.attempts = s.lane.attempts ∧ (makeMembers ls s).lane.retry = s.lane.retry ∧
    (makeMembers ls s).lane.formation = s.lane.formation ∧
    (makeMembers ls s).lane.retainedServing = s.lane.retainedServing := by
  induction ls generalizing s with
  | nil => simp [makeMembers]
  | cons _ _ ih => simp [makeMembers, ih]

@[simp] theorem endFormation_frame (l : Lane) (e : VoteEntry) (r : List SlotResult) (s : State) :
    (endFormation l e r s).loader = s.loader ∧ (endFormation l e r s).through = s.through ∧
    (endFormation l e r s).map = s.map ∧ (endFormation l e r s).checker = s.checker ∧
    (endFormation l e r s).sram = s.sram ∧ (endFormation l e r s).sig = s.sig ∧
    (endFormation l e r s).patrol = s.patrol ∧ (endFormation l e r s).copy = s.copy ∧
    (endFormation l e r s).clear = s.clear ∧ (endFormation l e r s).pending = s.pending ∧
    (endFormation l e r s).lines.straps = s.lines.straps ∧
    (endFormation l e r s).lines.supplyLow = s.lines.supplyLow ∧
    (endFormation l e r s).lines.permit = s.lines.permit ∧ (endFormation l e r s).vote.counter = s.vote.counter ∧
    (endFormation l e r s).vote.table = s.vote.table ∧ (endFormation l e r s).vote.window = s.vote.window ∧
    (endFormation l e r s).lane.retry = s.lane.retry ∧ (endFormation l e r s).lane.formation = s.lane.formation ∧
    (endFormation l e r s).lane.retainedServing = s.lane.retainedServing ∧
    (endFormation l e r s).log.running = s.log.running := by
  unfold endFormation; split <;> simp

@[simp] theorem handOnVote_frame (l : Lane) (g : Option Word) (e : VoteEntry) (r : List SlotResult) (s : State) :
    (handOnVote l g e r s).loader = s.loader ∧ (handOnVote l g e r s).map = s.map ∧
    (handOnVote l g e r s).checker = s.checker ∧ (handOnVote l g e r s).sram = s.sram ∧
    (handOnVote l g e r s).sig = s.sig ∧ (handOnVote l g e r s).clear = s.clear ∧
    (handOnVote l g e r s).pending = s.pending ∧ (handOnVote l g e r s).lines.straps = s.lines.straps ∧
    (handOnVote l g e r s).lines.supplyLow = s.lines.supplyLow ∧
    (handOnVote l g e r s).lines.permit = s.lines.permit ∧ (handOnVote l g e r s).vote.counter = s.vote.counter ∧
    (handOnVote l g e r s).copy.phase = s.copy.phase ∧ (handOnVote l g e r s).copy.attempt = s.copy.attempt ∧
    (handOnVote l g e r s).log.running = s.log.running := by
  unfold handOnVote; (repeat' split) <;> simp

@[simp] theorem castVote_frame (e : VoteEntry) (s : State) :
    (castVote e s).loader = s.loader ∧ (castVote e s).map = s.map ∧ (castVote e s).checker = s.checker ∧
    (castVote e s).sram = s.sram ∧ (castVote e s).sig = s.sig ∧ (castVote e s).clear = s.clear ∧
    (castVote e s).pending = s.pending ∧ (castVote e s).lines.straps = s.lines.straps ∧
    (castVote e s).lines.supplyLow = s.lines.supplyLow ∧ (castVote e s).lines.permit = s.lines.permit ∧
    (castVote e s).vote.counter = s.vote.counter ∧ (castVote e s).copy.phase = s.copy.phase ∧
    (castVote e s).copy.attempt = s.copy.attempt ∧ (castVote e s).log.running = s.log.running := by
  simp only [castVote]; (repeat' split) <;> simp

@[simp] theorem voteIfComplete_frame (s : State) :
    (voteIfComplete s).loader = s.loader ∧ (voteIfComplete s).map = s.map ∧ (voteIfComplete s).checker = s.checker ∧
    (voteIfComplete s).sram = s.sram ∧ (voteIfComplete s).sig = s.sig ∧ (voteIfComplete s).clear = s.clear ∧
    (voteIfComplete s).pending = s.pending ∧ (voteIfComplete s).lines.straps = s.lines.straps ∧
    (voteIfComplete s).lines.supplyLow = s.lines.supplyLow ∧ (voteIfComplete s).lines.permit = s.lines.permit ∧
    (voteIfComplete s).vote.counter = s.vote.counter ∧ (voteIfComplete s).copy.phase = s.copy.phase ∧
    (voteIfComplete s).copy.attempt = s.copy.attempt ∧ (voteIfComplete s).log.running = s.log.running := by
  unfold voteIfComplete; split <;> simp

@[simp] theorem scrubWord_frame (c : Client) (loc : Located) (a : Nat) (s : State) :
    (scrubWord c loc a s).2.lines = s.lines ∧ (scrubWord c loc a s).2.loader = s.loader ∧
    (scrubWord c loc a s).2.through = s.through ∧ (scrubWord c loc a s).2.sig = s.sig ∧
    (scrubWord c loc a s).2.patrol = s.patrol ∧ (scrubWord c loc a s).2.link1 = s.link1 ∧
    (scrubWord c loc a s).2.link2 = s.link2 ∧ (scrubWord c loc a s).2.vote = s.vote ∧
    (scrubWord c loc a s).2.lane = s.lane ∧ (scrubWord c loc a s).2.copy = s.copy ∧
    (scrubWord c loc a s).2.clear = s.clear ∧ (scrubWord c loc a s).2.pending = s.pending ∧
    (scrubWord c loc a s).2.map.image = s.map.image ∧ (scrubWord c loc a s).2.map.lock = s.map.lock ∧
    (scrubWord c loc a s).2.log.running = s.log.running := by
  unfold scrubWord; split <;> simp

@[simp] theorem scrubWords_frame (c : Client) (loc : Located) (as : List Nat) (s : State) :
    (scrubWords c loc as s).2.lines = s.lines ∧ (scrubWords c loc as s).2.loader = s.loader ∧
    (scrubWords c loc as s).2.through = s.through ∧ (scrubWords c loc as s).2.sig = s.sig ∧
    (scrubWords c loc as s).2.patrol = s.patrol ∧ (scrubWords c loc as s).2.link1 = s.link1 ∧
    (scrubWords c loc as s).2.link2 = s.link2 ∧ (scrubWords c loc as s).2.vote = s.vote ∧
    (scrubWords c loc as s).2.lane = s.lane ∧ (scrubWords c loc as s).2.copy = s.copy ∧
    (scrubWords c loc as s).2.clear = s.clear ∧ (scrubWords c loc as s).2.pending = s.pending ∧
    (scrubWords c loc as s).2.map.image = s.map.image ∧ (scrubWords c loc as s).2.map.lock = s.map.lock ∧
    (scrubWords c loc as s).2.log.running = s.log.running := by
  induction as generalizing s with
  | nil => simp [scrubWords]
  | cons _ _ ih => simp [scrubWords, ih]

@[simp] theorem fillWords_frame (v : Word) (as : List Nat) (s : State) :
    (fillWords v as s).lines = s.lines ∧ (fillWords v as s).loader = s.loader ∧
    (fillWords v as s).through = s.through ∧ (fillWords v as s).map = s.map ∧ (fillWords v as s).sig = s.sig ∧
    (fillWords v as s).patrol = s.patrol ∧ (fillWords v as s).link1 = s.link1 ∧ (fillWords v as s).link2 = s.link2 ∧
    (fillWords v as s).vote = s.vote ∧ (fillWords v as s).lane = s.lane ∧ (fillWords v as s).copy = s.copy ∧
    (fillWords v as s).clear = s.clear ∧ (fillWords v as s).log = s.log ∧ (fillWords v as s).pending = s.pending ∧
    (fillWords v as s).port.procWaiting = s.port.procWaiting ∧ (fillWords v as s).port.drain = s.port.drain := by
  induction as generalizing s with
  | nil => simp [fillWords]
  | cons _ _ ih => simp [fillWords, ih]

@[simp] theorem writeWords_frame (a : Nat) (ws : List Word) (s : State) :
    (writeWords a ws s).lines = s.lines ∧ (writeWords a ws s).loader = s.loader ∧
    (writeWords a ws s).through = s.through ∧ (writeWords a ws s).map = s.map ∧ (writeWords a ws s).sig = s.sig ∧
    (writeWords a ws s).patrol = s.patrol ∧ (writeWords a ws s).link1 = s.link1 ∧
    (writeWords a ws s).link2 = s.link2 ∧ (writeWords a ws s).vote = s.vote ∧ (writeWords a ws s).lane = s.lane ∧
    (writeWords a ws s).copy = s.copy ∧ (writeWords a ws s).clear = s.clear ∧ (writeWords a ws s).log = s.log ∧
    (writeWords a ws s).pending = s.pending ∧ (writeWords a ws s).port.procWaiting = s.port.procWaiting ∧
    (writeWords a ws s).port.drain = s.port.drain := by
  induction ws generalizing a s with
  | nil => simp [writeWords]
  | cons _ _ ih => simp [writeWords, ih]

@[simp] theorem storeWord_frame (c : Client) (loc : Located) (a : Nat) (v : Word) (s : State) :
    (storeWord c loc a v s).2.lines = s.lines ∧ (storeWord c loc a v s).2.loader = s.loader ∧
    (storeWord c loc a v s).2.through = s.through ∧ (storeWord c loc a v s).2.link1 = s.link1 ∧
    (storeWord c loc a v s).2.link2 = s.link2 ∧ (storeWord c loc a v s).2.vote = s.vote ∧
    (storeWord c loc a v s).2.lane = s.lane ∧ (storeWord c loc a v s).2.copy = s.copy ∧
    (storeWord c loc a v s).2.clear = s.clear ∧ (storeWord c loc a v s).2.pending = s.pending ∧
    (storeWord c loc a v s).2.map.image = s.map.image ∧ (storeWord c loc a v s).2.map.lock = s.map.lock ∧
    (storeWord c loc a v s).2.log.running = s.log.running := by
  unfold storeWord; (repeat' split) <;> simp

@[simp] theorem reportRefused_frame (x : Access) (r : RefusalReason) (s : State) :
    (reportRefused x r s).lines = s.lines ∧ (reportRefused x r s).loader = s.loader ∧
    (reportRefused x r s).through = s.through ∧ (reportRefused x r s).map = s.map ∧
    (reportRefused x r s).checker = s.checker ∧ (reportRefused x r s).sram = s.sram ∧
    (reportRefused x r s).sig = s.sig ∧ (reportRefused x r s).patrol = s.patrol ∧
    (reportRefused x r s).link1 = s.link1 ∧ (reportRefused x r s).link2 = s.link2 ∧
    (reportRefused x r s).vote = s.vote ∧ (reportRefused x r s).lane = s.lane ∧
    (reportRefused x r s).copy = s.copy ∧ (reportRefused x r s).clear = s.clear ∧
    (reportRefused x r s).pending = s.pending ∧ (reportRefused x r s).log.running = s.log.running := by
  simp [reportRefused]

@[simp] theorem carryEnables_frame (x : Access) (b s : State) :
    (carryEnables x b s).lines = s.lines ∧ (carryEnables x b s).loader = s.loader ∧
    (carryEnables x b s).through = s.through ∧ (carryEnables x b s).map = s.map ∧
    (carryEnables x b s).checker = s.checker ∧ (carryEnables x b s).sram = s.sram ∧
    (carryEnables x b s).port = s.port ∧ (carryEnables x b s).sig = s.sig ∧
    (carryEnables x b s).patrol = s.patrol ∧ (carryEnables x b s).link1 = s.link1 ∧
    (carryEnables x b s).link2 = s.link2 ∧ (carryEnables x b s).vote = s.vote ∧
    (carryEnables x b s).lane = s.lane ∧ (carryEnables x b s).copy = s.copy ∧
    (carryEnables x b s).clear = s.clear ∧ (carryEnables x b s).pending = s.pending ∧
    (carryEnables x b s).log.running = s.log.running ∧ (carryEnables x b s).log.next = s.log.next := by
  simp [carryEnables]

@[simp] theorem refuseAccess_frame (x : Access) (r : RefusalReason) (s : State) :
    (refuseAccess x r s).loader = s.loader ∧ (refuseAccess x r s).map = s.map ∧
    (refuseAccess x r s).checker = s.checker ∧ (refuseAccess x r s).sram = s.sram ∧
    (refuseAccess x r s).sig = s.sig ∧ (refuseAccess x r s).patrol = s.patrol ∧
    (refuseAccess x r s).link1 = s.link1 ∧ (refuseAccess x r s).link2 = s.link2 ∧
    (refuseAccess x r s).vote = s.vote ∧ (refuseAccess x r s).lane = s.lane ∧ (refuseAccess x r s).copy = s.copy ∧
    (refuseAccess x r s).clear = s.clear ∧ (refuseAccess x r s).pending = s.pending ∧
    (refuseAccess x r s).lines.straps = s.lines.straps ∧ (refuseAccess x r s).lines.supplyLow = s.lines.supplyLow ∧
    (refuseAccess x r s).lines.hold = s.lines.hold ∧ (refuseAccess x r s).lines.permit = s.lines.permit ∧
    (refuseAccess x r s).log.running = s.log.running := by
  simp [refuseAccess]

@[simp] theorem procClassAction_frame (loc : Located) (b : Nat) (s : State) :
    (procClassAction loc b s).lines = s.lines ∧ (procClassAction loc b s).loader = s.loader ∧
    (procClassAction loc b s).through = s.through ∧ (procClassAction loc b s).map = s.map ∧
    (procClassAction loc b s).checker = s.checker ∧ (procClassAction loc b s).sram = s.sram ∧
    (procClassAction loc b s).sig = s.sig ∧ (procClassAction loc b s).patrol = s.patrol ∧
    (procClassAction loc b s).link1 = s.link1 ∧ (procClassAction loc b s).link2 = s.link2 ∧
    (procClassAction loc b s).vote = s.vote ∧ (procClassAction loc b s).lane = s.lane ∧
    (procClassAction loc b s).clear = s.clear ∧ (procClassAction loc b s).pending = s.pending ∧
    (procClassAction loc b s).copy.serving = s.copy.serving ∧ (procClassAction loc b s).copy.dirty = s.copy.dirty ∧
    (procClassAction loc b s).copy.repair = s.copy.repair ∧ (procClassAction loc b s).copy.phase = s.copy.phase ∧
    (procClassAction loc b s).copy.attempt = s.copy.attempt ∧
    (procClassAction loc b s).copy.catchUp = s.copy.catchUp ∧
    (procClassAction loc b s).copy.cursor = s.copy.cursor ∧
    (procClassAction loc b s).log.running = s.log.running := by
  simp [procClassAction]

@[simp] theorem procRead_frame (loc : Located) (a : Nat) (s : State) :
    (procRead loc a s).lines = s.lines ∧ (procRead loc a s).loader = s.loader ∧
    (procRead loc a s).through = s.through ∧ (procRead loc a s).sig = s.sig ∧ (procRead loc a s).patrol = s.patrol ∧
    (procRead loc a s).link1 = s.link1 ∧ (procRead loc a s).link2 = s.link2 ∧ (procRead loc a s).vote = s.vote ∧
    (procRead loc a s).lane = s.lane ∧ (procRead loc a s).clear = s.clear ∧ (procRead loc a s).pending = s.pending ∧
    (procRead loc a s).map.image = s.map.image ∧ (procRead loc a s).map.lock = s.map.lock ∧
    (procRead loc a s).copy.serving = s.copy.serving ∧ (procRead loc a s).copy.dirty = s.copy.dirty ∧
    (procRead loc a s).copy.repair = s.copy.repair ∧ (procRead loc a s).copy.phase = s.copy.phase ∧
    (procRead loc a s).copy.attempt = s.copy.attempt ∧ (procRead loc a s).copy.catchUp = s.copy.catchUp ∧
    (procRead loc a s).copy.cursor = s.copy.cursor ∧ (procRead loc a s).log.running = s.log.running := by
  unfold procRead; split <;> simp

@[simp] theorem procFullWrite_frame (loc : Located) (a : Nat) (v : Word) (s : State) :
    (procFullWrite loc a v s).lines = s.lines ∧ (procFullWrite loc a v s).loader = s.loader ∧
    (procFullWrite loc a v s).through = s.through ∧ (procFullWrite loc a v s).link1 = s.link1 ∧
    (procFullWrite loc a v s).link2 = s.link2 ∧ (procFullWrite loc a v s).vote = s.vote ∧
    (procFullWrite loc a v s).lane = s.lane ∧ (procFullWrite loc a v s).clear = s.clear ∧
    (procFullWrite loc a v s).pending = s.pending ∧ (procFullWrite loc a v s).map.image = s.map.image ∧
    (procFullWrite loc a v s).map.lock = s.map.lock ∧ (procFullWrite loc a v s).copy.serving = s.copy.serving ∧
    (procFullWrite loc a v s).copy.repairs = s.copy.repairs ∧
    (procFullWrite loc a v s).copy.repair = s.copy.repair ∧ (procFullWrite loc a v s).copy.phase = s.copy.phase ∧
    (procFullWrite loc a v s).copy.attempt = s.copy.attempt ∧
    (procFullWrite loc a v s).copy.catchUp = s.copy.catchUp ∧
    (procFullWrite loc a v s).copy.cursor = s.copy.cursor ∧
    (procFullWrite loc a v s).log.running = s.log.running := by
  simp only [procFullWrite]; (repeat' split) <;> simp

@[simp] theorem procMerge_frame (loc : Located) (x : Access) (v : Word) (s : State) :
    (procMerge loc x v s).lines = s.lines ∧ (procMerge loc x v s).loader = s.loader ∧
    (procMerge loc x v s).map = s.map ∧ (procMerge loc x v s).link1 = s.link1 ∧
    (procMerge loc x v s).link2 = s.link2 ∧ (procMerge loc x v s).vote = s.vote ∧
    (procMerge loc x v s).lane = s.lane ∧ (procMerge loc x v s).clear = s.clear ∧
    (procMerge loc x v s).log = s.log ∧ (procMerge loc x v s).pending = s.pending ∧
    (procMerge loc x v s).port.procWaiting = s.port.procWaiting ∧ (procMerge loc x v s).port.drain = s.port.drain ∧
    (procMerge loc x v s).copy.serving = s.copy.serving ∧ (procMerge loc x v s).copy.repairs = s.copy.repairs ∧
    (procMerge loc x v s).copy.repair = s.copy.repair ∧ (procMerge loc x v s).copy.phase = s.copy.phase ∧
    (procMerge loc x v s).copy.attempt = s.copy.attempt ∧ (procMerge loc x v s).copy.catchUp = s.copy.catchUp ∧
    (procMerge loc x v s).copy.cursor = s.copy.cursor := by
  simp [procMerge]

@[simp] theorem reportPartialRefused_frame (loc : Located) (x : Access) (n : Nat) (s : State) :
    (reportPartialRefused loc x n s).lines = s.lines ∧ (reportPartialRefused loc x n s).loader = s.loader ∧
    (reportPartialRefused loc x n s).through = s.through ∧ (reportPartialRefused loc x n s).map = s.map ∧
    (reportPartialRefused loc x n s).checker = s.checker ∧ (reportPartialRefused loc x n s).sram = s.sram ∧
    (reportPartialRefused loc x n s).sig = s.sig ∧ (reportPartialRefused loc x n s).patrol = s.patrol ∧
    (reportPartialRefused loc x n s).link1 = s.link1 ∧ (reportPartialRefused loc x n s).link2 = s.link2 ∧
    (reportPartialRefused loc x n s).vote = s.vote ∧ (reportPartialRefused loc x n s).lane = s.lane ∧
    (reportPartialRefused loc x n s).copy = s.copy ∧ (reportPartialRefused loc x n s).clear = s.clear ∧
    (reportPartialRefused loc x n s).pending = s.pending ∧
    (reportPartialRefused loc x n s).log.running = s.log.running := by
  simp [reportPartialRefused]

@[simp] theorem procPartialWrite_frame (loc : Located) (x : Access) (s : State) :
    (procPartialWrite loc x s).lines = s.lines ∧ (procPartialWrite loc x s).loader = s.loader ∧
    (procPartialWrite loc x s).link1 = s.link1 ∧ (procPartialWrite loc x s).link2 = s.link2 ∧
    (procPartialWrite loc x s).vote = s.vote ∧ (procPartialWrite loc x s).lane = s.lane ∧
    (procPartialWrite loc x s).clear = s.clear ∧ (procPartialWrite loc x s).pending = s.pending ∧
    (procPartialWrite loc x s).map.image = s.map.image ∧ (procPartialWrite loc x s).map.lock = s.map.lock ∧
    (procPartialWrite loc x s).copy.serving = s.copy.serving ∧
    (procPartialWrite loc x s).copy.repair = s.copy.repair ∧ (procPartialWrite loc x s).copy.phase = s.copy.phase ∧
    (procPartialWrite loc x s).copy.attempt = s.copy.attempt ∧
    (procPartialWrite loc x s).copy.catchUp = s.copy.catchUp ∧
    (procPartialWrite loc x s).copy.cursor = s.copy.cursor ∧
    (procPartialWrite loc x s).log.running = s.log.running := by
  unfold procPartialWrite; split <;> simp

@[simp] theorem procBurst_frame (loc : Located) (x : Access) (s : State) :
    (procBurst loc x s).lines = s.lines ∧ (procBurst loc x s).loader = s.loader ∧
    (procBurst loc x s).link1 = s.link1 ∧ (procBurst loc x s).link2 = s.link2 ∧ (procBurst loc x s).vote = s.vote ∧
    (procBurst loc x s).lane = s.lane ∧ (procBurst loc x s).clear = s.clear ∧
    (procBurst loc x s).pending = s.pending ∧ (procBurst loc x s).map.image = s.map.image ∧
    (procBurst loc x s).map.lock = s.map.lock ∧ (procBurst loc x s).copy.serving = s.copy.serving ∧
    (procBurst loc x s).copy.repair = s.copy.repair ∧ (procBurst loc x s).copy.phase = s.copy.phase ∧
    (procBurst loc x s).copy.attempt = s.copy.attempt ∧ (procBurst loc x s).copy.catchUp = s.copy.catchUp ∧
    (procBurst loc x s).copy.cursor = s.copy.cursor ∧ (procBurst loc x s).log.running = s.log.running := by
  unfold procBurst; (repeat' split) <;> simp

@[simp] theorem grantProc_frame (s : State) :
    (grantProc s).loader = s.loader ∧ (grantProc s).link1 = s.link1 ∧ (grantProc s).link2 = s.link2 ∧
    (grantProc s).vote = s.vote ∧ (grantProc s).lane = s.lane ∧ (grantProc s).clear = s.clear ∧
    (grantProc s).pending = s.pending ∧ (grantProc s).lines.straps = s.lines.straps ∧
    (grantProc s).lines.supplyLow = s.lines.supplyLow ∧ (grantProc s).lines.hold = s.lines.hold ∧
    (grantProc s).lines.permit = s.lines.permit ∧ (grantProc s).map.image = s.map.image ∧
    (grantProc s).map.lock = s.map.lock ∧ (grantProc s).copy.serving = s.copy.serving ∧
    (grantProc s).copy.repair = s.copy.repair ∧ (grantProc s).copy.phase = s.copy.phase ∧
    (grantProc s).copy.attempt = s.copy.attempt ∧ (grantProc s).copy.catchUp = s.copy.catchUp ∧
    (grantProc s).copy.cursor = s.copy.cursor ∧ (grantProc s).log.running = s.log.running := by
  unfold grantProc; (repeat' split) <;> simp

@[simp] theorem regionCompare_frame (loc : Located) (k : Nat) (x y : Pair) (s : State) :
    (regionCompare loc k x y s).lines = s.lines ∧ (regionCompare loc k x y s).loader = s.loader ∧
    (regionCompare loc k x y s).through = s.through ∧ (regionCompare loc k x y s).map = s.map ∧
    (regionCompare loc k x y s).checker = s.checker ∧ (regionCompare loc k x y s).sram = s.sram ∧
    (regionCompare loc k x y s).sig = s.sig ∧ (regionCompare loc k x y s).patrol = s.patrol ∧
    (regionCompare loc k x y s).link1 = s.link1 ∧ (regionCompare loc k x y s).link2 = s.link2 ∧
    (regionCompare loc k x y s).vote = s.vote ∧ (regionCompare loc k x y s).lane = s.lane ∧
    (regionCompare loc k x y s).copy = s.copy ∧ (regionCompare loc k x y s).clear = s.clear ∧
    (regionCompare loc k x y s).pending = s.pending ∧ (regionCompare loc k x y s).log.running = s.log.running := by
  unfold regionCompare; split <;> simp

@[simp] theorem regionEnd_frame (loc : Located) (s : State) :
    (regionEnd loc s).lines = s.lines ∧ (regionEnd loc s).loader = s.loader ∧
    (regionEnd loc s).through = s.through ∧ (regionEnd loc s).map = s.map ∧ (regionEnd loc s).checker = s.checker ∧
    (regionEnd loc s).sram = s.sram ∧ (regionEnd loc s).sig = s.sig ∧ (regionEnd loc s).patrol = s.patrol ∧
    (regionEnd loc s).link1 = s.link1 ∧ (regionEnd loc s).link2 = s.link2 ∧ (regionEnd loc s).vote = s.vote ∧
    (regionEnd loc s).lane = s.lane ∧ (regionEnd loc s).copy = s.copy ∧ (regionEnd loc s).clear = s.clear ∧
    (regionEnd loc s).pending = s.pending ∧ (regionEnd loc s).log.running = s.log.running := by
  unfold regionEnd; (repeat' split) <;> simp

@[simp] theorem advanceCursor_frame (loc : Located) (k : Nat) (s : State) :
    (advanceCursor loc k s).lines = s.lines ∧ (advanceCursor loc k s).loader = s.loader ∧
    (advanceCursor loc k s).through = s.through ∧ (advanceCursor loc k s).checker = s.checker ∧
    (advanceCursor loc k s).sram = s.sram ∧ (advanceCursor loc k s).sig = s.sig ∧
    (advanceCursor loc k s).link1 = s.link1 ∧ (advanceCursor loc k s).link2 = s.link2 ∧
    (advanceCursor loc k s).vote = s.vote ∧ (advanceCursor loc k s).lane = s.lane ∧
    (advanceCursor loc k s).copy = s.copy ∧ (advanceCursor loc k s).clear = s.clear ∧
    (advanceCursor loc k s).pending = s.pending ∧ (advanceCursor loc k s).map.image = s.map.image ∧
    (advanceCursor loc k s).map.lock = s.map.lock ∧ (advanceCursor loc k s).patrol.running = s.patrol.running ∧
    (advanceCursor loc k s).log.running = s.log.running := by
  simp only [advanceCursor]; (repeat' split) <;> simp

@[simp] theorem dealWithBlock_frame (loc : Located) (k : Nat) (ws : List (Option Word)) (s : State) :
    (dealWithBlock loc k ws s).lines = s.lines ∧ (dealWithBlock loc k ws s).loader = s.loader ∧
    (dealWithBlock loc k ws s).through = s.through ∧ (dealWithBlock loc k ws s).map = s.map ∧
    (dealWithBlock loc k ws s).checker = s.checker ∧ (dealWithBlock loc k ws s).sram = s.sram ∧
    (dealWithBlock loc k ws s).sig = s.sig ∧ (dealWithBlock loc k ws s).link1 = s.link1 ∧
    (dealWithBlock loc k ws s).link2 = s.link2 ∧ (dealWithBlock loc k ws s).vote = s.vote ∧
    (dealWithBlock loc k ws s).lane = s.lane ∧ (dealWithBlock loc k ws s).clear = s.clear ∧
    (dealWithBlock loc k ws s).pending = s.pending ∧ (dealWithBlock loc k ws s).patrol.running = s.patrol.running ∧
    (dealWithBlock loc k ws s).copy.serving = s.copy.serving ∧
    (dealWithBlock loc k ws s).copy.dirty = s.copy.dirty ∧ (dealWithBlock loc k ws s).copy.repair = s.copy.repair ∧
    (dealWithBlock loc k ws s).copy.phase = s.copy.phase ∧
    (dealWithBlock loc k ws s).copy.attempt = s.copy.attempt ∧
    (dealWithBlock loc k ws s).copy.catchUp = s.copy.catchUp ∧
    (dealWithBlock loc k ws s).copy.cursor = s.copy.cursor ∧
    (dealWithBlock loc k ws s).log.running = s.log.running := by
  unfold dealWithBlock; (repeat' split) <;> simp

@[simp] theorem grantPatrol_frame (s : State) :
    (grantPatrol s).lines = s.lines ∧ (grantPatrol s).loader = s.loader ∧ (grantPatrol s).through = s.through ∧
    (grantPatrol s).sig = s.sig ∧ (grantPatrol s).link1 = s.link1 ∧ (grantPatrol s).link2 = s.link2 ∧
    (grantPatrol s).vote = s.vote ∧ (grantPatrol s).lane = s.lane ∧ (grantPatrol s).clear = s.clear ∧
    (grantPatrol s).pending = s.pending ∧ (grantPatrol s).map.image = s.map.image ∧
    (grantPatrol s).map.lock = s.map.lock ∧ (grantPatrol s).patrol.running = s.patrol.running ∧
    (grantPatrol s).copy.serving = s.copy.serving ∧ (grantPatrol s).copy.dirty = s.copy.dirty ∧
    (grantPatrol s).copy.repair = s.copy.repair ∧ (grantPatrol s).copy.phase = s.copy.phase ∧
    (grantPatrol s).copy.attempt = s.copy.attempt ∧ (grantPatrol s).copy.catchUp = s.copy.catchUp ∧
    (grantPatrol s).copy.cursor = s.copy.cursor ∧ (grantPatrol s).log.running = s.log.running := by
  simp only [grantPatrol]; (repeat' split) <;> simp

@[simp] theorem takeBlock_frame (b : Nat) (s : State) :
    (takeBlock b s).lines = s.lines ∧ (takeBlock b s).loader = s.loader ∧ (takeBlock b s).through = s.through ∧
    (takeBlock b s).map = s.map ∧ (takeBlock b s).checker = s.checker ∧ (takeBlock b s).sram = s.sram ∧
    (takeBlock b s).port = s.port ∧ (takeBlock b s).sig = s.sig ∧ (takeBlock b s).patrol = s.patrol ∧
    (takeBlock b s).link1 = s.link1 ∧ (takeBlock b s).link2 = s.link2 ∧ (takeBlock b s).vote = s.vote ∧
    (takeBlock b s).lane = s.lane ∧ (takeBlock b s).clear = s.clear ∧ (takeBlock b s).log = s.log ∧
    (takeBlock b s).pending = s.pending ∧ (takeBlock b s).copy.serving = s.copy.serving ∧
    (takeBlock b s).copy.repairs = s.copy.repairs ∧ (takeBlock b s).copy.repair = s.copy.repair ∧
    (takeBlock b s).copy.phase = s.copy.phase ∧ (takeBlock b s).copy.attempt = s.copy.attempt ∧
    (takeBlock b s).copy.catchUp = s.copy.catchUp := by
  unfold takeBlock; split <;> simp

@[simp] theorem copyForRestore_frame (p : PortId) (s : State) :
    (copyForRestore p s).lines = s.lines ∧ (copyForRestore p s).loader = s.loader ∧
    (copyForRestore p s).through = s.through ∧ (copyForRestore p s).sig = s.sig ∧
    (copyForRestore p s).patrol = s.patrol ∧ (copyForRestore p s).vote = s.vote ∧
    (copyForRestore p s).lane = s.lane ∧ (copyForRestore p s).clear = s.clear ∧
    (copyForRestore p s).pending = s.pending ∧ (copyForRestore p s).map.image = s.map.image ∧
    (copyForRestore p s).map.lock = s.map.lock ∧ (copyForRestore p s).copy.serving = s.copy.serving ∧
    (copyForRestore p s).copy.repairs = s.copy.repairs ∧ (copyForRestore p s).copy.repair = s.copy.repair ∧
    (copyForRestore p s).copy.phase = s.copy.phase ∧ (copyForRestore p s).copy.attempt = s.copy.attempt ∧
    (copyForRestore p s).copy.catchUp = s.copy.catchUp ∧ (copyForRestore p s).log.running = s.log.running := by
  unfold copyForRestore; (repeat' split) <;> simp

@[simp] theorem copyForFetch_frame (p : PortId) (s : State) :
    (copyForFetch p s).lines = s.lines ∧ (copyForFetch p s).loader = s.loader ∧
    (copyForFetch p s).through = s.through ∧ (copyForFetch p s).sig = s.sig ∧ (copyForFetch p s).patrol = s.patrol ∧
    (copyForFetch p s).vote = s.vote ∧ (copyForFetch p s).lane = s.lane ∧ (copyForFetch p s).clear = s.clear ∧
    (copyForFetch p s).pending = s.pending ∧ (copyForFetch p s).map.image = s.map.image ∧
    (copyForFetch p s).map.lock = s.map.lock ∧ (copyForFetch p s).copy.serving = s.copy.serving ∧
    (copyForFetch p s).copy.dirty = s.copy.dirty ∧ (copyForFetch p s).copy.repairs = s.copy.repairs ∧
    (copyForFetch p s).copy.repair = s.copy.repair ∧ (copyForFetch p s).copy.phase = s.copy.phase ∧
    (copyForFetch p s).copy.attempt = s.copy.attempt ∧ (copyForFetch p s).copy.catchUp = s.copy.catchUp ∧
    (copyForFetch p s).copy.cursor = s.copy.cursor ∧ (copyForFetch p s).log.running = s.log.running := by
  simp only [copyForFetch]; (repeat' split) <;> simp

@[simp] theorem grantCopy_frame (s : State) :
    (grantCopy s).lines = s.lines ∧ (grantCopy s).loader = s.loader ∧ (grantCopy s).through = s.through ∧
    (grantCopy s).sig = s.sig ∧ (grantCopy s).patrol = s.patrol ∧ (grantCopy s).vote = s.vote ∧
    (grantCopy s).lane = s.lane ∧ (grantCopy s).clear = s.clear ∧ (grantCopy s).pending = s.pending ∧
    (grantCopy s).map.image = s.map.image ∧ (grantCopy s).map.lock = s.map.lock ∧
    (grantCopy s).copy.serving = s.copy.serving ∧ (grantCopy s).copy.repairs = s.copy.repairs ∧
    (grantCopy s).copy.repair = s.copy.repair ∧ (grantCopy s).copy.phase = s.copy.phase ∧
    (grantCopy s).copy.attempt = s.copy.attempt ∧ (grantCopy s).copy.catchUp = s.copy.catchUp ∧
    (grantCopy s).log.running = s.log.running := by
  unfold grantCopy; split <;> simp

@[simp] theorem scanSlot_frame (loc : Located) (j : Nat) (s : State) :
    (scanSlot loc j s).lines = s.lines ∧ (scanSlot loc j s).loader = s.loader ∧
    (scanSlot loc j s).through = s.through ∧ (scanSlot loc j s).sig = s.sig ∧ (scanSlot loc j s).patrol = s.patrol ∧
    (scanSlot loc j s).link1 = s.link1 ∧ (scanSlot loc j s).link2 = s.link2 ∧ (scanSlot loc j s).vote = s.vote ∧
    (scanSlot loc j s).lane = s.lane ∧ (scanSlot loc j s).copy = s.copy ∧ (scanSlot loc j s).pending = s.pending ∧
    (scanSlot loc j s).map.image = s.map.image ∧ (scanSlot loc j s).map.lock = s.map.lock ∧
    (scanSlot loc j s).clear.pass = s.clear.pass ∧ (scanSlot loc j s).log.running = s.log.running := by
  simp only [scanSlot]; (repeat' split) <;> simp

@[simp] theorem scanSlots_frame (loc : Located) (js : List Nat) (s : State) :
    (scanSlots loc js s).lines = s.lines ∧ (scanSlots loc js s).loader = s.loader ∧
    (scanSlots loc js s).through = s.through ∧ (scanSlots loc js s).sig = s.sig ∧
    (scanSlots loc js s).patrol = s.patrol ∧ (scanSlots loc js s).link1 = s.link1 ∧
    (scanSlots loc js s).link2 = s.link2 ∧ (scanSlots loc js s).vote = s.vote ∧ (scanSlots loc js s).lane = s.lane ∧
    (scanSlots loc js s).copy = s.copy ∧ (scanSlots loc js s).pending = s.pending ∧
    (scanSlots loc js s).map.image = s.map.image ∧ (scanSlots loc js s).map.lock = s.map.lock ∧
    (scanSlots loc js s).clear.pass = s.clear.pass ∧ (scanSlots loc js s).log.running = s.log.running := by
  induction js generalizing s with
  | nil => simp [scanSlots]
  | cons _ _ ih => simp [scanSlots, ih]

@[simp] theorem scanBlock_frame (loc : Located) (b : Nat) (s : State) :
    (scanBlock loc b s).lines = s.lines ∧ (scanBlock loc b s).loader = s.loader ∧
    (scanBlock loc b s).through = s.through ∧ (scanBlock loc b s).sig = s.sig ∧
    (scanBlock loc b s).patrol = s.patrol ∧ (scanBlock loc b s).link1 = s.link1 ∧
    (scanBlock loc b s).link2 = s.link2 ∧ (scanBlock loc b s).vote = s.vote ∧ (scanBlock loc b s).lane = s.lane ∧
    (scanBlock loc b s).copy = s.copy ∧ (scanBlock loc b s).pending = s.pending ∧
    (scanBlock loc b s).map.image = s.map.image ∧ (scanBlock loc b s).map.lock = s.map.lock ∧
    (scanBlock loc b s).clear.pass = s.clear.pass ∧ (scanBlock loc b s).log.running = s.log.running := by
  simp [scanBlock]

@[simp] theorem clearBlock_frame (loc : Located) (b : Nat) (s : State) :
    (clearBlock loc b s).lines = s.lines ∧ (clearBlock loc b s).loader = s.loader ∧
    (clearBlock loc b s).through = s.through ∧ (clearBlock loc b s).sig = s.sig ∧
    (clearBlock loc b s).patrol = s.patrol ∧ (clearBlock loc b s).link1 = s.link1 ∧
    (clearBlock loc b s).link2 = s.link2 ∧ (clearBlock loc b s).vote = s.vote ∧ (clearBlock loc b s).lane = s.lane ∧
    (clearBlock loc b s).copy = s.copy ∧ (clearBlock loc b s).pending = s.pending ∧
    (clearBlock loc b s).map.image = s.map.image ∧ (clearBlock loc b s).map.lock = s.map.lock ∧
    (clearBlock loc b s).clear.pass = s.clear.pass ∧ (clearBlock loc b s).log.running = s.log.running := by
  unfold clearBlock; (repeat' split) <;> simp

@[simp] theorem grantFill_frame (s : State) :
    (grantFill s).lines = s.lines ∧ (grantFill s).loader = s.loader ∧ (grantFill s).through = s.through ∧
    (grantFill s).sig = s.sig ∧ (grantFill s).patrol = s.patrol ∧ (grantFill s).link1 = s.link1 ∧
    (grantFill s).link2 = s.link2 ∧ (grantFill s).vote = s.vote ∧ (grantFill s).lane = s.lane ∧
    (grantFill s).copy = s.copy ∧ (grantFill s).pending = s.pending ∧ (grantFill s).map.image = s.map.image ∧
    (grantFill s).map.lock = s.map.lock ∧ (grantFill s).log.running = s.log.running := by
  simp only [grantFill]; (repeat' split) <;> simp

@[simp] theorem storeWords_frame (loc : Located) (a : Nat) (ws : List Word) (s : State) :
    (storeWords loc a ws s).2.lines = s.lines ∧ (storeWords loc a ws s).2.loader = s.loader ∧
    (storeWords loc a ws s).2.through = s.through ∧ (storeWords loc a ws s).2.link1 = s.link1 ∧
    (storeWords loc a ws s).2.link2 = s.link2 ∧ (storeWords loc a ws s).2.vote = s.vote ∧
    (storeWords loc a ws s).2.lane = s.lane ∧ (storeWords loc a ws s).2.copy = s.copy ∧
    (storeWords loc a ws s).2.clear = s.clear ∧ (storeWords loc a ws s).2.pending = s.pending ∧
    (storeWords loc a ws s).2.map.image = s.map.image ∧ (storeWords loc a ws s).2.map.lock = s.map.lock ∧
    (storeWords loc a ws s).2.log.running = s.log.running := by
  induction ws generalizing a s with
  | nil => simp [storeWords]
  | cons _ _ ih => simp [storeWords, ih]

@[simp] theorem recvBlock_frame (b : Nat) (ws : List Word) (s : State) :
    (recvBlock b ws s).lines = s.lines ∧ (recvBlock b ws s).loader = s.loader ∧
    (recvBlock b ws s).through = s.through ∧ (recvBlock b ws s).link1 = s.link1 ∧
    (recvBlock b ws s).link2 = s.link2 ∧ (recvBlock b ws s).vote = s.vote ∧ (recvBlock b ws s).lane = s.lane ∧
    (recvBlock b ws s).copy = s.copy ∧ (recvBlock b ws s).clear = s.clear ∧ (recvBlock b ws s).pending = s.pending ∧
    (recvBlock b ws s).map.image = s.map.image ∧ (recvBlock b ws s).map.lock = s.map.lock ∧
    (recvBlock b ws s).log.running = s.log.running := by
  simp only [recvBlock]; (repeat' split) <;> simp

@[simp] theorem rereadWord_frame (loc : Located) (a : Nat) (s : State) :
    (rereadWord loc a s).2.lines = s.lines ∧ (rereadWord loc a s).2.loader = s.loader ∧
    (rereadWord loc a s).2.through = s.through ∧ (rereadWord loc a s).2.sig = s.sig ∧
    (rereadWord loc a s).2.patrol = s.patrol ∧ (rereadWord loc a s).2.link1 = s.link1 ∧
    (rereadWord loc a s).2.link2 = s.link2 ∧ (rereadWord loc a s).2.vote = s.vote ∧
    (rereadWord loc a s).2.lane = s.lane ∧ (rereadWord loc a s).2.copy = s.copy ∧
    (rereadWord loc a s).2.clear = s.clear ∧ (rereadWord loc a s).2.pending = s.pending ∧
    (rereadWord loc a s).2.map.image = s.map.image ∧ (rereadWord loc a s).2.map.lock = s.map.lock ∧
    (rereadWord loc a s).2.log.running = s.log.running := by
  unfold rereadWord; split <;> simp

@[simp] theorem rereadWords_frame (loc : Located) (as : List Nat) (s : State) :
    (rereadWords loc as s).2.lines = s.lines ∧ (rereadWords loc as s).2.loader = s.loader ∧
    (rereadWords loc as s).2.through = s.through ∧ (rereadWords loc as s).2.sig = s.sig ∧
    (rereadWords loc as s).2.patrol = s.patrol ∧ (rereadWords loc as s).2.link1 = s.link1 ∧
    (rereadWords loc as s).2.link2 = s.link2 ∧ (rereadWords loc as s).2.vote = s.vote ∧
    (rereadWords loc as s).2.lane = s.lane ∧ (rereadWords loc as s).2.copy = s.copy ∧
    (rereadWords loc as s).2.clear = s.clear ∧ (rereadWords loc as s).2.pending = s.pending ∧
    (rereadWords loc as s).2.map.image = s.map.image ∧ (rereadWords loc as s).2.map.lock = s.map.lock ∧
    (rereadWords loc as s).2.log.running = s.log.running := by
  induction as generalizing s with
  | nil => simp [rereadWords]
  | cons _ _ ih => simp [rereadWords, ih]

@[simp] theorem repairWord_frame (loc : Located) (a : Nat) (v : Word) (s : State) :
    (repairWord loc a v s).lines = s.lines ∧ (repairWord loc a v s).loader = s.loader ∧
    (repairWord loc a v s).through = s.through ∧ (repairWord loc a v s).map = s.map ∧
    (repairWord loc a v s).sig = s.sig ∧ (repairWord loc a v s).patrol = s.patrol ∧
    (repairWord loc a v s).link1 = s.link1 ∧ (repairWord loc a v s).link2 = s.link2 ∧
    (repairWord loc a v s).vote = s.vote ∧ (repairWord loc a v s).lane = s.lane ∧
    (repairWord loc a v s).copy = s.copy ∧ (repairWord loc a v s).clear = s.clear ∧
    (repairWord loc a v s).pending = s.pending ∧ (repairWord loc a v s).log.running = s.log.running := by
  simp [repairWord]

@[simp] theorem repairWords_frame (loc : Located) (a : Nat) (rs : List (Option Word)) (ws : List Word) (s : State) :
    (repairWords loc a rs ws s).lines = s.lines ∧ (repairWords loc a rs ws s).loader = s.loader ∧
    (repairWords loc a rs ws s).through = s.through ∧ (repairWords loc a rs ws s).map = s.map ∧
    (repairWords loc a rs ws s).sig = s.sig ∧ (repairWords loc a rs ws s).patrol = s.patrol ∧
    (repairWords loc a rs ws s).link1 = s.link1 ∧ (repairWords loc a rs ws s).link2 = s.link2 ∧
    (repairWords loc a rs ws s).vote = s.vote ∧ (repairWords loc a rs ws s).lane = s.lane ∧
    (repairWords loc a rs ws s).copy = s.copy ∧ (repairWords loc a rs ws s).clear = s.clear ∧
    (repairWords loc a rs ws s).pending = s.pending ∧ (repairWords loc a rs ws s).log.running = s.log.running := by
  induction rs generalizing a ws s with
  | nil => cases ws <;> simp [repairWords]
  | cons r _ ih => cases ws <;> cases r <;> simp [repairWords, ih]

@[simp] theorem closeRepair_frame (b : Nat) (s : State) :
    (closeRepair b s).lines = s.lines ∧ (closeRepair b s).loader = s.loader ∧
    (closeRepair b s).through = s.through ∧ (closeRepair b s).map = s.map ∧ (closeRepair b s).checker = s.checker ∧
    (closeRepair b s).sram = s.sram ∧ (closeRepair b s).port = s.port ∧ (closeRepair b s).sig = s.sig ∧
    (closeRepair b s).patrol = s.patrol ∧ (closeRepair b s).link1 = s.link1 ∧ (closeRepair b s).link2 = s.link2 ∧
    (closeRepair b s).vote = s.vote ∧ (closeRepair b s).lane = s.lane ∧ (closeRepair b s).clear = s.clear ∧
    (closeRepair b s).log = s.log ∧ (closeRepair b s).pending = s.pending ∧
    (closeRepair b s).copy.serving = s.copy.serving ∧ (closeRepair b s).copy.dirty = s.copy.dirty ∧
    (closeRepair b s).copy.phase = s.copy.phase ∧ (closeRepair b s).copy.attempt = s.copy.attempt ∧
    (closeRepair b s).copy.catchUp = s.copy.catchUp ∧ (closeRepair b s).copy.cursor = s.copy.cursor := by
  simp [closeRepair]

@[simp] theorem recvRepair_frame (b : Nat) (ws : List Word) (s : State) :
    (recvRepair b ws s).lines = s.lines ∧ (recvRepair b ws s).loader = s.loader ∧
    (recvRepair b ws s).through = s.through ∧ (recvRepair b ws s).sig = s.sig ∧
    (recvRepair b ws s).patrol = s.patrol ∧ (recvRepair b ws s).link1 = s.link1 ∧
    (recvRepair b ws s).link2 = s.link2 ∧ (recvRepair b ws s).vote = s.vote ∧ (recvRepair b ws s).lane = s.lane ∧
    (recvRepair b ws s).clear = s.clear ∧ (recvRepair b ws s).pending = s.pending ∧
    (recvRepair b ws s).map.image = s.map.image ∧ (recvRepair b ws s).map.lock = s.map.lock ∧
    (recvRepair b ws s).copy.serving = s.copy.serving ∧ (recvRepair b ws s).copy.dirty = s.copy.dirty ∧
    (recvRepair b ws s).copy.phase = s.copy.phase ∧ (recvRepair b ws s).copy.attempt = s.copy.attempt ∧
    (recvRepair b ws s).copy.catchUp = s.copy.catchUp ∧ (recvRepair b ws s).copy.cursor = s.copy.cursor ∧
    (recvRepair b ws s).log.running = s.log.running := by
  simp only [recvRepair]; (repeat' split) <;> simp

@[simp] theorem grantRecv_frame (s : State) :
    (grantRecv s).lines = s.lines ∧ (grantRecv s).loader = s.loader ∧ (grantRecv s).through = s.through ∧
    (grantRecv s).link1 = s.link1 ∧ (grantRecv s).link2 = s.link2 ∧ (grantRecv s).vote = s.vote ∧
    (grantRecv s).lane = s.lane ∧ (grantRecv s).clear = s.clear ∧ (grantRecv s).pending = s.pending ∧
    (grantRecv s).map.image = s.map.image ∧ (grantRecv s).map.lock = s.map.lock ∧
    (grantRecv s).copy.serving = s.copy.serving ∧ (grantRecv s).copy.dirty = s.copy.dirty ∧
    (grantRecv s).copy.phase = s.copy.phase ∧ (grantRecv s).copy.attempt = s.copy.attempt ∧
    (grantRecv s).copy.catchUp = s.copy.catchUp ∧ (grantRecv s).copy.cursor = s.copy.cursor ∧
    (grantRecv s).log.running = s.log.running := by
  unfold grantRecv; split <;> simp

@[simp] theorem owePulse_frame (s : State) :
    (owePulse s).loader = s.loader ∧ (owePulse s).through = s.through ∧ (owePulse s).map = s.map ∧
    (owePulse s).checker = s.checker ∧ (owePulse s).sram = s.sram ∧ (owePulse s).port = s.port ∧
    (owePulse s).sig = s.sig ∧ (owePulse s).patrol = s.patrol ∧ (owePulse s).link1 = s.link1 ∧
    (owePulse s).link2 = s.link2 ∧ (owePulse s).vote = s.vote ∧ (owePulse s).lane = s.lane ∧
    (owePulse s).copy = s.copy ∧ (owePulse s).clear = s.clear ∧ (owePulse s).pending = s.pending ∧
    (owePulse s).lines.straps = s.lines.straps ∧ (owePulse s).lines.supplyLow = s.lines.supplyLow ∧
    (owePulse s).lines.hold = s.lines.hold ∧ (owePulse s).lines.permit = s.lines.permit ∧
    (owePulse s).log.running = s.log.running := by
  simp only [owePulse]; (repeat' split) <;> simp

@[simp] theorem grantLog_frame (s : State) :
    (grantLog s).loader = s.loader ∧ (grantLog s).through = s.through ∧ (grantLog s).map = s.map ∧
    (grantLog s).sig = s.sig ∧ (grantLog s).patrol = s.patrol ∧ (grantLog s).link1 = s.link1 ∧
    (grantLog s).link2 = s.link2 ∧ (grantLog s).vote = s.vote ∧ (grantLog s).lane = s.lane ∧
    (grantLog s).copy = s.copy ∧ (grantLog s).clear = s.clear ∧ (grantLog s).pending = s.pending ∧
    (grantLog s).lines.straps = s.lines.straps ∧ (grantLog s).lines.supplyLow = s.lines.supplyLow ∧
    (grantLog s).lines.hold = s.lines.hold ∧ (grantLog s).lines.permit = s.lines.permit ∧
    (grantLog s).port.procWaiting = s.port.procWaiting ∧ (grantLog s).port.drain = s.port.drain ∧
    (grantLog s).log.running = s.log.running := by
  simp only [grantLog]; (repeat' split) <;> simp

@[simp] theorem grantBackground_frame (b : Background) (s : State) :
    (grantBackground b s).loader = s.loader ∧ (grantBackground b s).vote = s.vote ∧
    (grantBackground b s).lane = s.lane ∧ (grantBackground b s).pending = s.pending ∧
    (grantBackground b s).lines.straps = s.lines.straps ∧
    (grantBackground b s).lines.supplyLow = s.lines.supplyLow ∧ (grantBackground b s).lines.hold = s.lines.hold ∧
    (grantBackground b s).lines.permit = s.lines.permit ∧ (grantBackground b s).map.image = s.map.image ∧
    (grantBackground b s).map.lock = s.map.lock ∧ (grantBackground b s).copy.serving = s.copy.serving ∧
    (grantBackground b s).copy.phase = s.copy.phase ∧ (grantBackground b s).copy.attempt = s.copy.attempt ∧
    (grantBackground b s).copy.catchUp = s.copy.catchUp ∧ (grantBackground b s).log.running = s.log.running := by cases b <;> simp [grantBackground]

@[simp] theorem carryOut_frame (c : Choice) (s : State) :
    (carryOut c s).loader = s.loader ∧ (carryOut c s).vote = s.vote ∧ (carryOut c s).lane = s.lane ∧
    (carryOut c s).pending = s.pending ∧ (carryOut c s).lines.straps = s.lines.straps ∧
    (carryOut c s).lines.supplyLow = s.lines.supplyLow ∧ (carryOut c s).lines.hold = s.lines.hold ∧
    (carryOut c s).lines.permit = s.lines.permit ∧ (carryOut c s).map.image = s.map.image ∧
    (carryOut c s).map.lock = s.map.lock ∧ (carryOut c s).copy.serving = s.copy.serving ∧
    (carryOut c s).copy.phase = s.copy.phase ∧ (carryOut c s).copy.attempt = s.copy.attempt ∧
    (carryOut c s).copy.catchUp = s.copy.catchUp ∧ (carryOut c s).log.running = s.log.running := by
  unfold carryOut; split <;> simp

@[simp] theorem arbitrate_frame (s : State) :
    (arbitrate s).loader = s.loader ∧ (arbitrate s).vote = s.vote ∧ (arbitrate s).lane = s.lane ∧
    (arbitrate s).pending = s.pending ∧ (arbitrate s).lines.straps = s.lines.straps ∧
    (arbitrate s).lines.supplyLow = s.lines.supplyLow ∧ (arbitrate s).lines.hold = s.lines.hold ∧
    (arbitrate s).lines.permit = s.lines.permit ∧ (arbitrate s).map.image = s.map.image ∧
    (arbitrate s).map.lock = s.map.lock ∧ (arbitrate s).copy.serving = s.copy.serving ∧
    (arbitrate s).copy.phase = s.copy.phase ∧ (arbitrate s).copy.attempt = s.copy.attempt ∧
    (arbitrate s).copy.catchUp = s.copy.catchUp ∧ (arbitrate s).log.running = s.log.running := by
  unfold arbitrate; split <;> simp

@[simp] theorem settle_frame (s : State) :
    (settle s).loader = s.loader ∧ (settle s).vote = s.vote ∧ (settle s).lane = s.lane ∧
    (settle s).pending = s.pending ∧ (settle s).lines.straps = s.lines.straps ∧
    (settle s).lines.supplyLow = s.lines.supplyLow ∧ (settle s).lines.hold = s.lines.hold ∧
    (settle s).lines.permit = s.lines.permit ∧ (settle s).map.image = s.map.image ∧
    (settle s).map.lock = s.map.lock ∧ (settle s).copy.serving = s.copy.serving ∧
    (settle s).copy.phase = s.copy.phase ∧ (settle s).copy.attempt = s.copy.attempt ∧
    (settle s).copy.catchUp = s.copy.catchUp ∧ (settle s).log.running = s.log.running := by
  simp [settle]

end Sys2Proof.Machine
end

