-- ==== Sys2Proof/Laws/CommandFrames.lean ====
section
/-! SUPPORT. What the operations of each command leave as it was, in the same form as Frames.lean. -/

namespace Sys2Proof.Machine

@[simp] theorem startWriter_frame (s : State) :
    (startWriter s).lines = s.lines ∧ (startWriter s).loader = s.loader ∧ (startWriter s).through = s.through ∧
    (startWriter s).map = s.map ∧ (startWriter s).checker = s.checker ∧ (startWriter s).sram = s.sram ∧
    (startWriter s).port = s.port ∧ (startWriter s).sig = s.sig ∧ (startWriter s).patrol = s.patrol ∧
    (startWriter s).link1 = s.link1 ∧ (startWriter s).link2 = s.link2 ∧ (startWriter s).vote = s.vote ∧
    (startWriter s).lane = s.lane ∧ (startWriter s).copy = s.copy ∧ (startWriter s).clear = s.clear ∧
    (startWriter s).pending = s.pending := by
  simp [startWriter]

@[simp] theorem reportStarted_frame (s : State) :
    (reportStarted s).lines = s.lines ∧ (reportStarted s).loader = s.loader ∧
    (reportStarted s).through = s.through ∧ (reportStarted s).map = s.map ∧ (reportStarted s).checker = s.checker ∧
    (reportStarted s).sram = s.sram ∧ (reportStarted s).sig = s.sig ∧ (reportStarted s).patrol = s.patrol ∧
    (reportStarted s).link1 = s.link1 ∧ (reportStarted s).link2 = s.link2 ∧ (reportStarted s).vote = s.vote ∧
    (reportStarted s).lane = s.lane ∧ (reportStarted s).copy = s.copy ∧ (reportStarted s).clear = s.clear ∧
    (reportStarted s).pending = s.pending ∧ (reportStarted s).log.running = s.log.running := by
  simp [reportStarted]

@[simp] theorem reportClamped_frame (s : State) :
    (reportClamped s).lines = s.lines ∧ (reportClamped s).loader = s.loader ∧
    (reportClamped s).through = s.through ∧ (reportClamped s).map = s.map ∧ (reportClamped s).checker = s.checker ∧
    (reportClamped s).sram = s.sram ∧ (reportClamped s).sig = s.sig ∧ (reportClamped s).patrol = s.patrol ∧
    (reportClamped s).link1 = s.link1 ∧ (reportClamped s).link2 = s.link2 ∧ (reportClamped s).vote = s.vote ∧
    (reportClamped s).lane = s.lane ∧ (reportClamped s).copy = s.copy ∧ (reportClamped s).clear = s.clear ∧
    (reportClamped s).pending = s.pending ∧ (reportClamped s).log.running = s.log.running := by
  unfold reportClamped; (repeat' split) <;> simp

@[simp] theorem endStartingClear_frame (s : State) :
    (endStartingClear s).loader = s.loader ∧ (endStartingClear s).checker = s.checker ∧
    (endStartingClear s).sram = s.sram ∧ (endStartingClear s).pending = s.pending ∧
    (endStartingClear s).lines.straps = s.lines.straps ∧ (endStartingClear s).lines.supplyLow = s.lines.supplyLow ∧
    (endStartingClear s).lines.permit = s.lines.permit ∧ (endStartingClear s).map.image = s.map.image ∧
    (endStartingClear s).map.lock = s.map.lock := by
  simp only [endStartingClear]; (repeat' split) <;> simp

@[simp] theorem copyClassAction_frame (b : Nat) (s : State) :
    (copyClassAction b s).loader = s.loader ∧ (copyClassAction b s).map = s.map ∧
    (copyClassAction b s).checker = s.checker ∧ (copyClassAction b s).sram = s.sram ∧
    (copyClassAction b s).sig = s.sig ∧ (copyClassAction b s).clear = s.clear ∧
    (copyClassAction b s).pending = s.pending ∧ (copyClassAction b s).lines.straps = s.lines.straps ∧
    (copyClassAction b s).lines.supplyLow = s.lines.supplyLow ∧
    (copyClassAction b s).lines.permit = s.lines.permit ∧ (copyClassAction b s).vote.counter = s.vote.counter ∧
    (copyClassAction b s).copy.phase = s.copy.phase ∧ (copyClassAction b s).copy.attempt = s.copy.attempt ∧
    (copyClassAction b s).log.running = s.log.running := by
  unfold copyClassAction; (repeat' split) <;> simp

@[simp] theorem endWork_frame (e : AtEnd) (s : State) :
    (endWork e s).loader = s.loader ∧ (endWork e s).map = s.map ∧ (endWork e s).checker = s.checker ∧
    (endWork e s).sram = s.sram ∧ (endWork e s).sig = s.sig ∧ (endWork e s).clear = s.clear ∧
    (endWork e s).pending = s.pending ∧ (endWork e s).lines.straps = s.lines.straps ∧
    (endWork e s).lines.supplyLow = s.lines.supplyLow ∧ (endWork e s).lines.permit = s.lines.permit ∧
    (endWork e s).vote.counter = s.vote.counter ∧ (endWork e s).copy.attempt = s.copy.attempt ∧
    (endWork e s).log.running = s.log.running := by
  unfold endWork; split <;> simp

@[simp] theorem fillGoesOn_frame (s : State) :
    (fillGoesOn s).loader = s.loader ∧ (fillGoesOn s).checker = s.checker ∧ (fillGoesOn s).sram = s.sram ∧
    (fillGoesOn s).pending = s.pending ∧ (fillGoesOn s).lines.straps = s.lines.straps ∧
    (fillGoesOn s).lines.supplyLow = s.lines.supplyLow ∧ (fillGoesOn s).lines.permit = s.lines.permit ∧
    (fillGoesOn s).map.image = s.map.image ∧ (fillGoesOn s).map.lock = s.map.lock := by
  unfold fillGoesOn; split <;> simp

@[simp] theorem releasePort_frame (s : State) :
    (releasePort s).lines = s.lines ∧ (releasePort s).loader = s.loader ∧ (releasePort s).through = s.through ∧
    (releasePort s).map = s.map ∧ (releasePort s).checker = s.checker ∧ (releasePort s).sram = s.sram ∧
    (releasePort s).sig = s.sig ∧ (releasePort s).patrol = s.patrol ∧ (releasePort s).link1 = s.link1 ∧
    (releasePort s).link2 = s.link2 ∧ (releasePort s).vote = s.vote ∧ (releasePort s).lane = s.lane ∧
    (releasePort s).copy = s.copy ∧ (releasePort s).clear = s.clear ∧ (releasePort s).log = s.log ∧
    (releasePort s).pending = s.pending ∧ (releasePort s).port.procWaiting = s.port.procWaiting := by
  unfold releasePort; split <;> simp

@[simp] theorem endBurst_frame (b : Burst) (s : State) :
    (endBurst b s).loader = s.loader ∧ (endBurst b s).checker = s.checker ∧ (endBurst b s).sram = s.sram ∧
    (endBurst b s).pending = s.pending ∧ (endBurst b s).lines.straps = s.lines.straps ∧
    (endBurst b s).lines.supplyLow = s.lines.supplyLow ∧ (endBurst b s).lines.permit = s.lines.permit ∧
    (endBurst b s).map.image = s.map.image ∧ (endBurst b s).map.lock = s.map.lock := by
  unfold endBurst; (repeat' split) <;> simp

@[simp] theorem takeAccess_frame (x : Access) (s : State) :
    (takeAccess x s).loader = s.loader ∧ (takeAccess x s).map = s.map ∧ (takeAccess x s).checker = s.checker ∧
    (takeAccess x s).sram = s.sram ∧ (takeAccess x s).sig = s.sig ∧ (takeAccess x s).patrol = s.patrol ∧
    (takeAccess x s).link1 = s.link1 ∧ (takeAccess x s).link2 = s.link2 ∧ (takeAccess x s).vote = s.vote ∧
    (takeAccess x s).lane = s.lane ∧ (takeAccess x s).copy = s.copy ∧ (takeAccess x s).clear = s.clear ∧
    (takeAccess x s).pending = s.pending ∧ (takeAccess x s).lines.straps = s.lines.straps ∧
    (takeAccess x s).lines.supplyLow = s.lines.supplyLow ∧ (takeAccess x s).lines.hold = s.lines.hold ∧
    (takeAccess x s).lines.permit = s.lines.permit ∧ (takeAccess x s).log.running = s.log.running := by
  unfold takeAccess; split <;> simp

@[simp] theorem loadTables_frame (im : Image) (s : State) :
    (loadTables im s).lines = s.lines ∧ (loadTables im s).through = s.through ∧
    (loadTables im s).checker = s.checker ∧ (loadTables im s).sram = s.sram ∧ (loadTables im s).port = s.port ∧
    (loadTables im s).patrol = s.patrol ∧ (loadTables im s).lane = s.lane ∧ (loadTables im s).copy = s.copy ∧
    (loadTables im s).clear = s.clear ∧ (loadTables im s).log = s.log ∧ (loadTables im s).pending = s.pending ∧
    (loadTables im s).map.lock = s.map.lock ∧ (loadTables im s).vote.counter = s.vote.counter ∧
    (loadTables im s).vote.table = s.vote.table ∧ (loadTables im s).vote.window = s.vote.window := by
  simp [loadTables]

@[simp] theorem acceptImage_frame (im : Image) (s : State) :
    (acceptImage im s).lines = s.lines ∧ (acceptImage im s).through = s.through ∧
    (acceptImage im s).checker = s.checker ∧ (acceptImage im s).sram = s.sram ∧ (acceptImage im s).lane = s.lane ∧
    (acceptImage im s).copy = s.copy ∧ (acceptImage im s).log = s.log ∧ (acceptImage im s).pending = s.pending ∧
    (acceptImage im s).map.lock = s.map.lock ∧ (acceptImage im s).vote.counter = s.vote.counter ∧
    (acceptImage im s).vote.table = s.vote.table ∧ (acceptImage im s).vote.window = s.vote.window := by
  simp [acceptImage]

@[simp] theorem enterFailed_frame (s : State) :
    (enterFailed s).through = s.through ∧ (enterFailed s).map = s.map ∧ (enterFailed s).checker = s.checker ∧
    (enterFailed s).sram = s.sram ∧ (enterFailed s).port = s.port ∧ (enterFailed s).sig = s.sig ∧
    (enterFailed s).patrol = s.patrol ∧ (enterFailed s).link1 = s.link1 ∧ (enterFailed s).link2 = s.link2 ∧
    (enterFailed s).vote = s.vote ∧ (enterFailed s).copy = s.copy ∧ (enterFailed s).clear = s.clear ∧
    (enterFailed s).log = s.log ∧ (enterFailed s).pending = s.pending ∧
    (enterFailed s).lines.straps = s.lines.straps ∧ (enterFailed s).lines.supplyLow = s.lines.supplyLow ∧
    (enterFailed s).lines.hold = s.lines.hold ∧ (enterFailed s).lines.permit = s.lines.permit ∧
    (enterFailed s).lane.attempts = s.lane.attempts ∧ (enterFailed s).lane.retry = s.lane.retry ∧
    (enterFailed s).lane.permitTimer = s.lane.permitTimer ∧ (enterFailed s).lane.formation = s.lane.formation ∧
    (enterFailed s).lane.retainedServing = s.lane.retainedServing := by
  simp [enterFailed]

@[simp] theorem raiseCounter_frame (s : State) :
    (raiseCounter s).lines = s.lines ∧ (raiseCounter s).loader = s.loader ∧ (raiseCounter s).through = s.through ∧
    (raiseCounter s).map = s.map ∧ (raiseCounter s).checker = s.checker ∧ (raiseCounter s).sram = s.sram ∧
    (raiseCounter s).port = s.port ∧ (raiseCounter s).sig = s.sig ∧ (raiseCounter s).patrol = s.patrol ∧
    (raiseCounter s).link1 = s.link1 ∧ (raiseCounter s).link2 = s.link2 ∧ (raiseCounter s).lane = s.lane ∧
    (raiseCounter s).copy = s.copy ∧ (raiseCounter s).clear = s.clear ∧ (raiseCounter s).log = s.log ∧
    (raiseCounter s).pending = s.pending ∧ (raiseCounter s).vote.view = s.vote.view ∧
    (raiseCounter s).vote.table = s.vote.table ∧ (raiseCounter s).vote.window = s.vote.window := by
  simp [raiseCounter]

@[simp] theorem closeEarlier_frame (s : State) :
    (closeEarlier s).loader = s.loader ∧ (closeEarlier s).map = s.map ∧ (closeEarlier s).checker = s.checker ∧
    (closeEarlier s).sram = s.sram ∧ (closeEarlier s).sig = s.sig ∧ (closeEarlier s).clear = s.clear ∧
    (closeEarlier s).pending = s.pending ∧ (closeEarlier s).lines.straps = s.lines.straps ∧
    (closeEarlier s).lines.supplyLow = s.lines.supplyLow ∧ (closeEarlier s).lines.permit = s.lines.permit ∧
    (closeEarlier s).vote.counter = s.vote.counter ∧ (closeEarlier s).copy.phase = s.copy.phase ∧
    (closeEarlier s).copy.attempt = s.copy.attempt ∧ (closeEarlier s).log.running = s.log.running := by
  unfold closeEarlier; split <;> simp

@[simp] theorem markEntry_frame (s : State) :
    (markEntry s).lines = s.lines ∧ (markEntry s).loader = s.loader ∧ (markEntry s).through = s.through ∧
    (markEntry s).checker = s.checker ∧ (markEntry s).sram = s.sram ∧ (markEntry s).port = s.port ∧
    (markEntry s).patrol = s.patrol ∧ (markEntry s).link1 = s.link1 ∧ (markEntry s).link2 = s.link2 ∧
    (markEntry s).lane = s.lane ∧ (markEntry s).copy = s.copy ∧ (markEntry s).clear = s.clear ∧
    (markEntry s).log = s.log ∧ (markEntry s).pending = s.pending ∧ (markEntry s).map.image = s.map.image ∧
    (markEntry s).vote.counter = s.vote.counter ∧ (markEntry s).vote.view = s.vote.view ∧
    (markEntry s).vote.window = s.vote.window := by
  simp [markEntry]

@[simp] theorem sendSignature_frame (s : State) :
    (sendSignature s).lines = s.lines ∧ (sendSignature s).loader = s.loader ∧
    (sendSignature s).through = s.through ∧ (sendSignature s).map = s.map ∧ (sendSignature s).checker = s.checker ∧
    (sendSignature s).sram = s.sram ∧ (sendSignature s).sig = s.sig ∧ (sendSignature s).patrol = s.patrol ∧
    (sendSignature s).vote = s.vote ∧ (sendSignature s).lane = s.lane ∧ (sendSignature s).copy = s.copy ∧
    (sendSignature s).clear = s.clear ∧ (sendSignature s).pending = s.pending ∧
    (sendSignature s).log.running = s.log.running := by
  simp [sendSignature]

@[simp] theorem voteOrWait_frame (s : State) :
    (voteOrWait s).loader = s.loader ∧ (voteOrWait s).map = s.map ∧ (voteOrWait s).checker = s.checker ∧
    (voteOrWait s).sram = s.sram ∧ (voteOrWait s).sig = s.sig ∧ (voteOrWait s).clear = s.clear ∧
    (voteOrWait s).pending = s.pending ∧ (voteOrWait s).lines.straps = s.lines.straps ∧
    (voteOrWait s).lines.supplyLow = s.lines.supplyLow ∧ (voteOrWait s).lines.permit = s.lines.permit ∧
    (voteOrWait s).vote.counter = s.vote.counter ∧ (voteOrWait s).copy.phase = s.copy.phase ∧
    (voteOrWait s).copy.attempt = s.copy.attempt ∧ (voteOrWait s).log.running = s.log.running := by
  unfold voteOrWait; (repeat' split) <;> simp

@[simp] theorem restartSupervision_frame (s : State) :
    (restartSupervision s).lines = s.lines ∧ (restartSupervision s).loader = s.loader ∧
    (restartSupervision s).through = s.through ∧ (restartSupervision s).map = s.map ∧
    (restartSupervision s).checker = s.checker ∧ (restartSupervision s).sram = s.sram ∧
    (restartSupervision s).port = s.port ∧ (restartSupervision s).sig = s.sig ∧
    (restartSupervision s).patrol = s.patrol ∧ (restartSupervision s).link1 = s.link1 ∧
    (restartSupervision s).link2 = s.link2 ∧ (restartSupervision s).lane = s.lane ∧
    (restartSupervision s).copy = s.copy ∧ (restartSupervision s).clear = s.clear ∧
    (restartSupervision s).log = s.log ∧ (restartSupervision s).pending = s.pending ∧
    (restartSupervision s).vote.counter = s.vote.counter ∧ (restartSupervision s).vote.view = s.vote.view ∧
    (restartSupervision s).vote.table = s.vote.table ∧ (restartSupervision s).vote.window = s.vote.window := by
  unfold restartSupervision; split <;> simp

@[simp] theorem markCopyEngine_frame (s : State) :
    (markCopyEngine s).lines = s.lines ∧ (markCopyEngine s).loader = s.loader ∧
    (markCopyEngine s).through = s.through ∧ (markCopyEngine s).map = s.map ∧
    (markCopyEngine s).checker = s.checker ∧ (markCopyEngine s).sram = s.sram ∧ (markCopyEngine s).port = s.port ∧
    (markCopyEngine s).sig = s.sig ∧ (markCopyEngine s).patrol = s.patrol ∧ (markCopyEngine s).link1 = s.link1 ∧
    (markCopyEngine s).link2 = s.link2 ∧ (markCopyEngine s).vote = s.vote ∧ (markCopyEngine s).lane = s.lane ∧
    (markCopyEngine s).clear = s.clear ∧ (markCopyEngine s).log = s.log ∧ (markCopyEngine s).pending = s.pending ∧
    (markCopyEngine s).copy.serving = s.copy.serving ∧ (markCopyEngine s).copy.dirty = s.copy.dirty ∧
    (markCopyEngine s).copy.repairs = s.copy.repairs ∧ (markCopyEngine s).copy.repair = s.copy.repair ∧
    (markCopyEngine s).copy.phase = s.copy.phase ∧ (markCopyEngine s).copy.attempt = s.copy.attempt ∧
    (markCopyEngine s).copy.cursor = s.copy.cursor := by
  unfold markCopyEngine; split <;> simp

@[simp] theorem completeMark_frame (s : State) :
    (completeMark s).loader = s.loader ∧ (completeMark s).checker = s.checker ∧ (completeMark s).sram = s.sram ∧
    (completeMark s).clear = s.clear ∧ (completeMark s).pending = s.pending ∧
    (completeMark s).lines.straps = s.lines.straps ∧ (completeMark s).lines.supplyLow = s.lines.supplyLow ∧
    (completeMark s).lines.permit = s.lines.permit ∧ (completeMark s).map.image = s.map.image ∧
    (completeMark s).vote.counter = s.vote.counter ∧ (completeMark s).copy.phase = s.copy.phase ∧
    (completeMark s).copy.attempt = s.copy.attempt ∧ (completeMark s).log.running = s.log.running := by
  simp [completeMark]

@[simp] theorem takeMark_frame (s : State) :
    (takeMark s).loader = s.loader ∧ (takeMark s).checker = s.checker ∧ (takeMark s).sram = s.sram ∧
    (takeMark s).clear = s.clear ∧ (takeMark s).pending = s.pending ∧ (takeMark s).lines.straps = s.lines.straps ∧
    (takeMark s).lines.supplyLow = s.lines.supplyLow ∧ (takeMark s).lines.permit = s.lines.permit ∧
    (takeMark s).map.image = s.map.image ∧ (takeMark s).copy.phase = s.copy.phase ∧
    (takeMark s).copy.attempt = s.copy.attempt ∧ (takeMark s).log.running = s.log.running := by
  simp only [takeMark]; (repeat' split) <;> simp

@[simp] theorem enterForming_frame (s : State) :
    (enterForming s).loader = s.loader ∧ (enterForming s).through = s.through ∧ (enterForming s).map = s.map ∧
    (enterForming s).checker = s.checker ∧ (enterForming s).sram = s.sram ∧ (enterForming s).sig = s.sig ∧
    (enterForming s).copy = s.copy ∧ (enterForming s).clear = s.clear ∧ (enterForming s).pending = s.pending ∧
    (enterForming s).lines.straps = s.lines.straps ∧ (enterForming s).lines.supplyLow = s.lines.supplyLow ∧
    (enterForming s).lines.permit = s.lines.permit ∧ (enterForming s).vote.counter = s.vote.counter ∧
    (enterForming s).vote.table = s.vote.table ∧ (enterForming s).vote.window = s.vote.window ∧
    (enterForming s).lane.attempts = s.lane.attempts ∧ (enterForming s).lane.retry = s.lane.retry ∧
    (enterForming s).lane.retainedServing = s.lane.retainedServing ∧
    (enterForming s).log.running = s.log.running := by
  simp [enterForming]

@[simp] theorem retryExpires_frame (s : State) :
    (retryExpires s).loader = s.loader ∧ (retryExpires s).checker = s.checker ∧ (retryExpires s).sram = s.sram ∧
    (retryExpires s).pending = s.pending ∧ (retryExpires s).lines.straps = s.lines.straps ∧
    (retryExpires s).lines.supplyLow = s.lines.supplyLow ∧ (retryExpires s).lines.permit = s.lines.permit ∧
    (retryExpires s).map.image = s.map.image ∧ (retryExpires s).map.lock = s.map.lock ∧
    (retryExpires s).lane.attempts = s.lane.attempts ∧
    (retryExpires s).lane.retainedServing = s.lane.retainedServing ∧
    (retryExpires s).copy.serving = s.copy.serving ∧ (retryExpires s).copy.dirty = s.copy.dirty ∧
    (retryExpires s).copy.catchUp = s.copy.catchUp ∧ (retryExpires s).copy.cursor = s.copy.cursor ∧
    (retryExpires s).log.running = s.log.running := by
  unfold retryExpires; split <;> simp

@[simp] theorem giveUpServing_frame (c : Cause) (s : State) :
    (giveUpServing c s).loader = s.loader ∧ (giveUpServing c s).map = s.map ∧
    (giveUpServing c s).checker = s.checker ∧ (giveUpServing c s).sram = s.sram ∧ (giveUpServing c s).sig = s.sig ∧
    (giveUpServing c s).clear = s.clear ∧ (giveUpServing c s).pending = s.pending ∧
    (giveUpServing c s).lines.straps = s.lines.straps ∧ (giveUpServing c s).lines.supplyLow = s.lines.supplyLow ∧
    (giveUpServing c s).lines.permit = s.lines.permit ∧ (giveUpServing c s).vote.counter = s.vote.counter ∧
    (giveUpServing c s).copy.phase = s.copy.phase ∧ (giveUpServing c s).copy.attempt = s.copy.attempt ∧
    (giveUpServing c s).log.running = s.log.running := by
  simp [giveUpServing]

@[simp] theorem silentInRequest_frame (s : State) :
    (silentInRequest s).lines = s.lines ∧ (silentInRequest s).loader = s.loader ∧
    (silentInRequest s).through = s.through ∧ (silentInRequest s).map = s.map ∧
    (silentInRequest s).checker = s.checker ∧ (silentInRequest s).sram = s.sram ∧ (silentInRequest s).sig = s.sig ∧
    (silentInRequest s).patrol = s.patrol ∧ (silentInRequest s).clear = s.clear ∧
    (silentInRequest s).pending = s.pending ∧ (silentInRequest s).vote.counter = s.vote.counter ∧
    (silentInRequest s).vote.table = s.vote.table ∧ (silentInRequest s).vote.window = s.vote.window ∧
    (silentInRequest s).lane.formation = s.lane.formation ∧
    (silentInRequest s).lane.retainedServing = s.lane.retainedServing ∧
    (silentInRequest s).copy.serving = s.copy.serving ∧ (silentInRequest s).copy.dirty = s.copy.dirty ∧
    (silentInRequest s).copy.repairs = s.copy.repairs ∧ (silentInRequest s).copy.repair = s.copy.repair ∧
    (silentInRequest s).copy.attempt = s.copy.attempt ∧ (silentInRequest s).copy.catchUp = s.copy.catchUp ∧
    (silentInRequest s).copy.cursor = s.copy.cursor ∧ (silentInRequest s).log.running = s.log.running := by
  unfold silentInRequest; split <;> simp

@[simp] theorem progressExpires_frame (s : State) :
    (progressExpires s).loader = s.loader ∧ (progressExpires s).map = s.map ∧
    (progressExpires s).checker = s.checker ∧ (progressExpires s).sram = s.sram ∧ (progressExpires s).sig = s.sig ∧
    (progressExpires s).clear = s.clear ∧ (progressExpires s).pending = s.pending ∧
    (progressExpires s).lines.straps = s.lines.straps ∧ (progressExpires s).lines.supplyLow = s.lines.supplyLow ∧
    (progressExpires s).lines.permit = s.lines.permit ∧ (progressExpires s).vote.counter = s.vote.counter ∧
    (progressExpires s).copy.attempt = s.copy.attempt ∧ (progressExpires s).log.running = s.log.running := by
  unfold progressExpires; (repeat' split) <;> simp

@[simp] theorem holdRunsOut_frame (s : State) :
    (holdRunsOut s).loader = s.loader ∧ (holdRunsOut s).map = s.map ∧ (holdRunsOut s).checker = s.checker ∧
    (holdRunsOut s).sram = s.sram ∧ (holdRunsOut s).sig = s.sig ∧ (holdRunsOut s).clear = s.clear ∧
    (holdRunsOut s).pending = s.pending ∧ (holdRunsOut s).lines.straps = s.lines.straps ∧
    (holdRunsOut s).lines.supplyLow = s.lines.supplyLow ∧ (holdRunsOut s).lines.permit = s.lines.permit ∧
    (holdRunsOut s).vote.counter = s.vote.counter ∧ (holdRunsOut s).copy.phase = s.copy.phase ∧
    (holdRunsOut s).copy.attempt = s.copy.attempt ∧ (holdRunsOut s).log.running = s.log.running := by
  simp only [holdRunsOut]; (repeat' split) <;> simp

@[simp] theorem holdExpires_frame (s : State) :
    (holdExpires s).loader = s.loader ∧ (holdExpires s).map = s.map ∧ (holdExpires s).checker = s.checker ∧
    (holdExpires s).sram = s.sram ∧ (holdExpires s).sig = s.sig ∧ (holdExpires s).clear = s.clear ∧
    (holdExpires s).pending = s.pending ∧ (holdExpires s).lines.straps = s.lines.straps ∧
    (holdExpires s).lines.supplyLow = s.lines.supplyLow ∧ (holdExpires s).lines.permit = s.lines.permit ∧
    (holdExpires s).vote.counter = s.vote.counter ∧ (holdExpires s).copy.phase = s.copy.phase ∧
    (holdExpires s).copy.attempt = s.copy.attempt ∧ (holdExpires s).log.running = s.log.running := by
  unfold holdExpires; split <;> simp

@[simp] theorem offerAdmit_frame (p : PortId) (n : Nat) (x : Snapshot) (s : State) :
    (offerAdmit p n x s).lines = s.lines ∧ (offerAdmit p n x s).loader = s.loader ∧
    (offerAdmit p n x s).through = s.through ∧ (offerAdmit p n x s).map = s.map ∧
    (offerAdmit p n x s).checker = s.checker ∧ (offerAdmit p n x s).sram = s.sram ∧
    (offerAdmit p n x s).sig = s.sig ∧ (offerAdmit p n x s).patrol = s.patrol ∧ (offerAdmit p n x s).vote = s.vote ∧
    (offerAdmit p n x s).lane = s.lane ∧ (offerAdmit p n x s).clear = s.clear ∧
    (offerAdmit p n x s).pending = s.pending ∧ (offerAdmit p n x s).copy.serving = s.copy.serving ∧
    (offerAdmit p n x s).copy.dirty = s.copy.dirty ∧ (offerAdmit p n x s).copy.repairs = s.copy.repairs ∧
    (offerAdmit p n x s).copy.repair = s.copy.repair ∧ (offerAdmit p n x s).copy.phase = s.copy.phase ∧
    (offerAdmit p n x s).copy.attempt = s.copy.attempt ∧ (offerAdmit p n x s).copy.cursor = s.copy.cursor ∧
    (offerAdmit p n x s).log.running = s.log.running := by
  simp [offerAdmit]

@[simp] theorem mismatchFound_frame (n : Nat) (s : State) :
    (mismatchFound n s).lines = s.lines ∧ (mismatchFound n s).loader = s.loader ∧
    (mismatchFound n s).through = s.through ∧ (mismatchFound n s).map = s.map ∧
    (mismatchFound n s).checker = s.checker ∧ (mismatchFound n s).sram = s.sram ∧ (mismatchFound n s).sig = s.sig ∧
    (mismatchFound n s).patrol = s.patrol ∧ (mismatchFound n s).clear = s.clear ∧
    (mismatchFound n s).pending = s.pending ∧ (mismatchFound n s).vote.counter = s.vote.counter ∧
    (mismatchFound n s).vote.table = s.vote.table ∧ (mismatchFound n s).vote.window = s.vote.window ∧
    (mismatchFound n s).lane.formation = s.lane.formation ∧
    (mismatchFound n s).lane.retainedServing = s.lane.retainedServing ∧
    (mismatchFound n s).copy.serving = s.copy.serving ∧ (mismatchFound n s).copy.dirty = s.copy.dirty ∧
    (mismatchFound n s).copy.repairs = s.copy.repairs ∧ (mismatchFound n s).copy.repair = s.copy.repair ∧
    (mismatchFound n s).copy.attempt = s.copy.attempt ∧ (mismatchFound n s).copy.catchUp = s.copy.catchUp ∧
    (mismatchFound n s).copy.cursor = s.copy.cursor ∧ (mismatchFound n s).log.running = s.log.running := by
  unfold mismatchFound; split <;> simp

@[simp] theorem verifyAdmit_frame (x : Snapshot) (s : State) :
    (verifyAdmit x s).loader = s.loader ∧ (verifyAdmit x s).through = s.through ∧
    (verifyAdmit x s).checker = s.checker ∧ (verifyAdmit x s).sram = s.sram ∧ (verifyAdmit x s).sig = s.sig ∧
    (verifyAdmit x s).patrol = s.patrol ∧ (verifyAdmit x s).clear = s.clear ∧
    (verifyAdmit x s).pending = s.pending ∧ (verifyAdmit x s).lines.straps = s.lines.straps ∧
    (verifyAdmit x s).lines.supplyLow = s.lines.supplyLow ∧ (verifyAdmit x s).lines.permit = s.lines.permit ∧
    (verifyAdmit x s).map.image = s.map.image ∧ (verifyAdmit x s).lane.formation = s.lane.formation ∧
    (verifyAdmit x s).lane.retainedServing = s.lane.retainedServing ∧
    (verifyAdmit x s).copy.serving = s.copy.serving ∧ (verifyAdmit x s).copy.dirty = s.copy.dirty ∧
    (verifyAdmit x s).copy.repairs = s.copy.repairs ∧ (verifyAdmit x s).copy.repair = s.copy.repair ∧
    (verifyAdmit x s).copy.attempt = s.copy.attempt ∧ (verifyAdmit x s).copy.catchUp = s.copy.catchUp ∧
    (verifyAdmit x s).copy.cursor = s.copy.cursor ∧ (verifyAdmit x s).log.running = s.log.running := by
  unfold verifyAdmit; split <;> simp

@[simp] theorem askRepair_frame (b : Nat) (l : Lane) (o : Bool) (s : State) :
    (askRepair b l o s).lines = s.lines ∧ (askRepair b l o s).loader = s.loader ∧
    (askRepair b l o s).through = s.through ∧ (askRepair b l o s).map = s.map ∧
    (askRepair b l o s).checker = s.checker ∧ (askRepair b l o s).sram = s.sram ∧ (askRepair b l o s).sig = s.sig ∧
    (askRepair b l o s).patrol = s.patrol ∧ (askRepair b l o s).vote = s.vote ∧ (askRepair b l o s).lane = s.lane ∧
    (askRepair b l o s).clear = s.clear ∧ (askRepair b l o s).pending = s.pending ∧
    (askRepair b l o s).copy.serving = s.copy.serving ∧ (askRepair b l o s).copy.dirty = s.copy.dirty ∧
    (askRepair b l o s).copy.repairs = s.copy.repairs ∧ (askRepair b l o s).copy.phase = s.copy.phase ∧
    (askRepair b l o s).copy.attempt = s.copy.attempt ∧ (askRepair b l o s).copy.catchUp = s.copy.catchUp ∧
    (askRepair b l o s).copy.cursor = s.copy.cursor ∧ (askRepair b l o s).log.running = s.log.running := by
  simp [askRepair]

@[simp] theorem failRepair_frame (b : Nat) (l : Option Lane) (r : RepairReason) (s : State) :
    (failRepair b l r s).lines = s.lines ∧ (failRepair b l r s).loader = s.loader ∧
    (failRepair b l r s).through = s.through ∧ (failRepair b l r s).map = s.map ∧
    (failRepair b l r s).checker = s.checker ∧ (failRepair b l r s).sram = s.sram ∧
    (failRepair b l r s).sig = s.sig ∧ (failRepair b l r s).patrol = s.patrol ∧
    (failRepair b l r s).link1 = s.link1 ∧ (failRepair b l r s).link2 = s.link2 ∧
    (failRepair b l r s).vote = s.vote ∧ (failRepair b l r s).lane = s.lane ∧ (failRepair b l r s).clear = s.clear ∧
    (failRepair b l r s).pending = s.pending ∧ (failRepair b l r s).copy.serving = s.copy.serving ∧
    (failRepair b l r s).copy.dirty = s.copy.dirty ∧ (failRepair b l r s).copy.phase = s.copy.phase ∧
    (failRepair b l r s).copy.attempt = s.copy.attempt ∧ (failRepair b l r s).copy.catchUp = s.copy.catchUp ∧
    (failRepair b l r s).copy.cursor = s.copy.cursor ∧ (failRepair b l r s).log.running = s.log.running := by
  simp [failRepair]

@[simp] theorem repairNext_frame (x : Repair) (r : RepairReason) (s : State) :
    (repairNext x r s).lines = s.lines ∧ (repairNext x r s).loader = s.loader ∧
    (repairNext x r s).through = s.through ∧ (repairNext x r s).map = s.map ∧
    (repairNext x r s).checker = s.checker ∧ (repairNext x r s).sram = s.sram ∧ (repairNext x r s).sig = s.sig ∧
    (repairNext x r s).patrol = s.patrol ∧ (repairNext x r s).vote = s.vote ∧ (repairNext x r s).lane = s.lane ∧
    (repairNext x r s).clear = s.clear ∧ (repairNext x r s).pending = s.pending ∧
    (repairNext x r s).copy.serving = s.copy.serving ∧ (repairNext x r s).copy.dirty = s.copy.dirty ∧
    (repairNext x r s).copy.phase = s.copy.phase ∧ (repairNext x r s).copy.attempt = s.copy.attempt ∧
    (repairNext x r s).copy.catchUp = s.copy.catchUp ∧ (repairNext x r s).copy.cursor = s.copy.cursor ∧
    (repairNext x r s).log.running = s.log.running := by
  unfold repairNext; split <;> simp

@[simp] theorem startRepair_frame (b : Nat) (s : State) :
    (startRepair b s).lines = s.lines ∧ (startRepair b s).loader = s.loader ∧
    (startRepair b s).through = s.through ∧ (startRepair b s).map = s.map ∧ (startRepair b s).checker = s.checker ∧
    (startRepair b s).sram = s.sram ∧ (startRepair b s).sig = s.sig ∧ (startRepair b s).patrol = s.patrol ∧
    (startRepair b s).vote = s.vote ∧ (startRepair b s).lane = s.lane ∧ (startRepair b s).clear = s.clear ∧
    (startRepair b s).pending = s.pending ∧ (startRepair b s).copy.serving = s.copy.serving ∧
    (startRepair b s).copy.dirty = s.copy.dirty ∧ (startRepair b s).copy.phase = s.copy.phase ∧
    (startRepair b s).copy.attempt = s.copy.attempt ∧ (startRepair b s).copy.catchUp = s.copy.catchUp ∧
    (startRepair b s).copy.cursor = s.copy.cursor ∧ (startRepair b s).log.running = s.log.running := by
  unfold startRepair; split <;> simp

@[simp] theorem hunt_frame (p : PortId) (s : State) :
    (hunt p s).lines = s.lines ∧ (hunt p s).loader = s.loader ∧ (hunt p s).through = s.through ∧
    (hunt p s).map = s.map ∧ (hunt p s).checker = s.checker ∧ (hunt p s).sram = s.sram ∧ (hunt p s).port = s.port ∧
    (hunt p s).sig = s.sig ∧ (hunt p s).patrol = s.patrol ∧ (hunt p s).vote = s.vote ∧ (hunt p s).lane = s.lane ∧
    (hunt p s).copy = s.copy ∧ (hunt p s).clear = s.clear ∧ (hunt p s).log = s.log ∧
    (hunt p s).pending = s.pending := by
  simp [hunt]

@[simp] theorem acceptFrame_frame (p : PortId) (x y : Byte) (f : Frame) (s : State) :
    (acceptFrame p x y f s).lines = s.lines ∧ (acceptFrame p x y f s).loader = s.loader ∧
    (acceptFrame p x y f s).through = s.through ∧ (acceptFrame p x y f s).map = s.map ∧
    (acceptFrame p x y f s).checker = s.checker ∧ (acceptFrame p x y f s).sram = s.sram ∧
    (acceptFrame p x y f s).sig = s.sig ∧ (acceptFrame p x y f s).patrol = s.patrol ∧
    (acceptFrame p x y f s).vote = s.vote ∧ (acceptFrame p x y f s).lane = s.lane ∧
    (acceptFrame p x y f s).copy = s.copy ∧ (acceptFrame p x y f s).clear = s.clear ∧
    (acceptFrame p x y f s).pending = s.pending ∧ (acceptFrame p x y f s).log.running = s.log.running := by
  unfold acceptFrame; split <;> simp

@[simp] theorem frameWhole_frame (p : PortId) (k : FrameKind) (y : Byte) (c d : List Byte) (n : Nat) (s : State) :
    (frameWhole p k y c d n s).lines = s.lines ∧ (frameWhole p k y c d n s).loader = s.loader ∧
    (frameWhole p k y c d n s).through = s.through ∧ (frameWhole p k y c d n s).map = s.map ∧
    (frameWhole p k y c d n s).checker = s.checker ∧ (frameWhole p k y c d n s).sram = s.sram ∧
    (frameWhole p k y c d n s).sig = s.sig ∧ (frameWhole p k y c d n s).patrol = s.patrol ∧
    (frameWhole p k y c d n s).vote = s.vote ∧ (frameWhole p k y c d n s).lane = s.lane ∧
    (frameWhole p k y c d n s).copy = s.copy ∧ (frameWhole p k y c d n s).clear = s.clear ∧
    (frameWhole p k y c d n s).pending = s.pending ∧ (frameWhole p k y c d n s).log.running = s.log.running := by
  unfold frameWhole; (repeat' split) <;> simp

@[simp] theorem sourceHeard_frame (l : Lane) (s : State) :
    (sourceHeard l s).lines = s.lines ∧ (sourceHeard l s).loader = s.loader ∧
    (sourceHeard l s).through = s.through ∧ (sourceHeard l s).map = s.map ∧ (sourceHeard l s).checker = s.checker ∧
    (sourceHeard l s).sram = s.sram ∧ (sourceHeard l s).port = s.port ∧ (sourceHeard l s).sig = s.sig ∧
    (sourceHeard l s).patrol = s.patrol ∧ (sourceHeard l s).link1 = s.link1 ∧ (sourceHeard l s).link2 = s.link2 ∧
    (sourceHeard l s).vote = s.vote ∧ (sourceHeard l s).lane = s.lane ∧ (sourceHeard l s).clear = s.clear ∧
    (sourceHeard l s).log = s.log ∧ (sourceHeard l s).pending = s.pending ∧
    (sourceHeard l s).copy.serving = s.copy.serving ∧ (sourceHeard l s).copy.dirty = s.copy.dirty ∧
    (sourceHeard l s).copy.repairs = s.copy.repairs ∧ (sourceHeard l s).copy.repair = s.copy.repair ∧
    (sourceHeard l s).copy.phase = s.copy.phase ∧ (sourceHeard l s).copy.attempt = s.copy.attempt ∧
    (sourceHeard l s).copy.catchUp = s.copy.catchUp ∧ (sourceHeard l s).copy.cursor = s.copy.cursor := by
  unfold sourceHeard; split <;> simp

@[simp] theorem arrive_frame (p : PortId) (fs : List Frame) (l : Lane) (s : State) :
    (arrive p fs l s).lines = s.lines ∧ (arrive p fs l s).loader = s.loader ∧
    (arrive p fs l s).through = s.through ∧ (arrive p fs l s).map = s.map ∧ (arrive p fs l s).checker = s.checker ∧
    (arrive p fs l s).sram = s.sram ∧ (arrive p fs l s).port = s.port ∧ (arrive p fs l s).sig = s.sig ∧
    (arrive p fs l s).patrol = s.patrol ∧ (arrive p fs l s).vote = s.vote ∧ (arrive p fs l s).lane = s.lane ∧
    (arrive p fs l s).clear = s.clear ∧ (arrive p fs l s).log = s.log ∧ (arrive p fs l s).pending = s.pending ∧
    (arrive p fs l s).copy.serving = s.copy.serving ∧ (arrive p fs l s).copy.dirty = s.copy.dirty ∧
    (arrive p fs l s).copy.repairs = s.copy.repairs ∧ (arrive p fs l s).copy.repair = s.copy.repair ∧
    (arrive p fs l s).copy.phase = s.copy.phase ∧ (arrive p fs l s).copy.attempt = s.copy.attempt ∧
    (arrive p fs l s).copy.catchUp = s.copy.catchUp ∧ (arrive p fs l s).copy.cursor = s.copy.cursor := by
  simp [arrive]

@[simp] theorem hear_frame (l : Lane) (x : LaneState) (s : State) :
    (hear l x s).lines = s.lines ∧ (hear l x s).loader = s.loader ∧ (hear l x s).through = s.through ∧
    (hear l x s).map = s.map ∧ (hear l x s).checker = s.checker ∧ (hear l x s).sram = s.sram ∧
    (hear l x s).port = s.port ∧ (hear l x s).sig = s.sig ∧ (hear l x s).patrol = s.patrol ∧
    (hear l x s).link1 = s.link1 ∧ (hear l x s).link2 = s.link2 ∧ (hear l x s).lane = s.lane ∧
    (hear l x s).copy = s.copy ∧ (hear l x s).clear = s.clear ∧ (hear l x s).log = s.log ∧
    (hear l x s).pending = s.pending ∧ (hear l x s).vote.counter = s.vote.counter ∧
    (hear l x s).vote.view = s.vote.view ∧ (hear l x s).vote.table = s.vote.table ∧
    (hear l x s).vote.window = s.vote.window := by
  simp [hear]

@[simp] theorem excludeByState_frame (l : Lane) (x : LaneState) (w : Word) (s : State) :
    (excludeByState l x w s).lines = s.lines ∧ (excludeByState l x w s).loader = s.loader ∧
    (excludeByState l x w s).through = s.through ∧ (excludeByState l x w s).map = s.map ∧
    (excludeByState l x w s).checker = s.checker ∧ (excludeByState l x w s).sram = s.sram ∧
    (excludeByState l x w s).sig = s.sig ∧ (excludeByState l x w s).patrol = s.patrol ∧
    (excludeByState l x w s).link1 = s.link1 ∧ (excludeByState l x w s).link2 = s.link2 ∧
    (excludeByState l x w s).copy = s.copy ∧ (excludeByState l x w s).clear = s.clear ∧
    (excludeByState l x w s).pending = s.pending ∧ (excludeByState l x w s).vote.counter = s.vote.counter ∧
    (excludeByState l x w s).vote.window = s.vote.window ∧ (excludeByState l x w s).lane.state = s.lane.state ∧
    (excludeByState l x w s).lane.attempts = s.lane.attempts ∧ (excludeByState l x w s).lane.retry = s.lane.retry ∧
    (excludeByState l x w s).lane.formation = s.lane.formation ∧
    (excludeByState l x w s).lane.retainedServing = s.lane.retainedServing ∧
    (excludeByState l x w s).log.running = s.log.running := by
  unfold excludeByState; split <;> simp

@[simp] theorem discover_frame (x : LaneState) (b : Bool) (s : State) :
    (discover x b s).loader = s.loader ∧ (discover x b s).checker = s.checker ∧ (discover x b s).sram = s.sram ∧
    (discover x b s).pending = s.pending ∧ (discover x b s).lines.straps = s.lines.straps ∧
    (discover x b s).lines.supplyLow = s.lines.supplyLow ∧ (discover x b s).lines.permit = s.lines.permit ∧
    (discover x b s).map.image = s.map.image ∧ (discover x b s).map.lock = s.map.lock ∧
    (discover x b s).log.running = s.log.running := by
  unfold discover; split <;> simp

@[simp] theorem storeFrame_frame (l : Lane) (c : Word) (f : PeerFrame) (s : State) :
    (storeFrame l c f s).lines = s.lines ∧ (storeFrame l c f s).loader = s.loader ∧
    (storeFrame l c f s).through = s.through ∧ (storeFrame l c f s).map = s.map ∧
    (storeFrame l c f s).checker = s.checker ∧ (storeFrame l c f s).sram = s.sram ∧
    (storeFrame l c f s).port = s.port ∧ (storeFrame l c f s).sig = s.sig ∧ (storeFrame l c f s).patrol = s.patrol ∧
    (storeFrame l c f s).link1 = s.link1 ∧ (storeFrame l c f s).link2 = s.link2 ∧
    (storeFrame l c f s).lane = s.lane ∧ (storeFrame l c f s).copy = s.copy ∧ (storeFrame l c f s).clear = s.clear ∧
    (storeFrame l c f s).log = s.log ∧ (storeFrame l c f s).pending = s.pending ∧
    (storeFrame l c f s).vote.counter = s.vote.counter ∧ (storeFrame l c f s).vote.view = s.vote.view ∧
    (storeFrame l c f s).vote.window = s.vote.window := by
  simp [storeFrame]

@[simp] theorem reportSkew_frame (l : Lane) (c : Word) (s : State) :
    (reportSkew l c s).lines = s.lines ∧ (reportSkew l c s).loader = s.loader ∧
    (reportSkew l c s).through = s.through ∧ (reportSkew l c s).map = s.map ∧
    (reportSkew l c s).checker = s.checker ∧ (reportSkew l c s).sram = s.sram ∧ (reportSkew l c s).sig = s.sig ∧
    (reportSkew l c s).patrol = s.patrol ∧ (reportSkew l c s).link1 = s.link1 ∧ (reportSkew l c s).link2 = s.link2 ∧
    (reportSkew l c s).vote = s.vote ∧ (reportSkew l c s).lane = s.lane ∧ (reportSkew l c s).copy = s.copy ∧
    (reportSkew l c s).clear = s.clear ∧ (reportSkew l c s).pending = s.pending ∧
    (reportSkew l c s).log.running = s.log.running := by
  simp [reportSkew]

@[simp] theorem reportPeerLate_frame (l : Lane) (c : Word) (s : State) :
    (reportPeerLate l c s).lines = s.lines ∧ (reportPeerLate l c s).loader = s.loader ∧
    (reportPeerLate l c s).through = s.through ∧ (reportPeerLate l c s).map = s.map ∧
    (reportPeerLate l c s).checker = s.checker ∧ (reportPeerLate l c s).sram = s.sram ∧
    (reportPeerLate l c s).sig = s.sig ∧ (reportPeerLate l c s).patrol = s.patrol ∧
    (reportPeerLate l c s).link1 = s.link1 ∧ (reportPeerLate l c s).link2 = s.link2 ∧
    (reportPeerLate l c s).vote = s.vote ∧ (reportPeerLate l c s).lane = s.lane ∧
    (reportPeerLate l c s).copy = s.copy ∧ (reportPeerLate l c s).clear = s.clear ∧
    (reportPeerLate l c s).pending = s.pending ∧ (reportPeerLate l c s).log.running = s.log.running := by
  unfold reportPeerLate; split <;> simp

@[simp] theorem takeSignature_frame (l : Lane) (c : Word) (f : PeerFrame) (s : State) :
    (takeSignature l c f s).lines = s.lines ∧ (takeSignature l c f s).loader = s.loader ∧
    (takeSignature l c f s).through = s.through ∧ (takeSignature l c f s).map = s.map ∧
    (takeSignature l c f s).checker = s.checker ∧ (takeSignature l c f s).sram = s.sram ∧
    (takeSignature l c f s).sig = s.sig ∧ (takeSignature l c f s).patrol = s.patrol ∧
    (takeSignature l c f s).link1 = s.link1 ∧ (takeSignature l c f s).link2 = s.link2 ∧
    (takeSignature l c f s).lane = s.lane ∧ (takeSignature l c f s).copy = s.copy ∧
    (takeSignature l c f s).clear = s.clear ∧ (takeSignature l c f s).pending = s.pending ∧
    (takeSignature l c f s).vote.counter = s.vote.counter ∧ (takeSignature l c f s).vote.view = s.vote.view ∧
    (takeSignature l c f s).vote.window = s.vote.window ∧ (takeSignature l c f s).log.running = s.log.running := by
  unfold takeSignature; split <;> simp

@[simp] theorem signatureArrives_frame (l : Lane) (c : Word) (f : PeerFrame) (s : State) :
    (signatureArrives l c f s).loader = s.loader ∧ (signatureArrives l c f s).checker = s.checker ∧
    (signatureArrives l c f s).sram = s.sram ∧ (signatureArrives l c f s).pending = s.pending ∧
    (signatureArrives l c f s).lines.straps = s.lines.straps ∧
    (signatureArrives l c f s).lines.supplyLow = s.lines.supplyLow ∧
    (signatureArrives l c f s).lines.permit = s.lines.permit ∧ (signatureArrives l c f s).map.image = s.map.image ∧
    (signatureArrives l c f s).map.lock = s.map.lock ∧ (signatureArrives l c f s).log.running = s.log.running := by
  simp only [signatureArrives]; (repeat' split) <;> simp

@[simp] theorem stateArrives_frame (l : Lane) (x : LaneState) (w : Word) (s : State) :
    (stateArrives l x w s).loader = s.loader ∧ (stateArrives l x w s).checker = s.checker ∧
    (stateArrives l x w s).sram = s.sram ∧ (stateArrives l x w s).pending = s.pending ∧
    (stateArrives l x w s).lines.straps = s.lines.straps ∧
    (stateArrives l x w s).lines.supplyLow = s.lines.supplyLow ∧
    (stateArrives l x w s).lines.permit = s.lines.permit ∧ (stateArrives l x w s).map.image = s.map.image ∧
    (stateArrives l x w s).map.lock = s.map.lock ∧ (stateArrives l x w s).log.running = s.log.running := by
  simp [stateArrives]

@[simp] theorem noticeArrives_frame (l : Lane) (w : Word) (s : State) :
    (noticeArrives l w s).loader = s.loader ∧ (noticeArrives l w s).map = s.map ∧
    (noticeArrives l w s).checker = s.checker ∧ (noticeArrives l w s).sram = s.sram ∧
    (noticeArrives l w s).sig = s.sig ∧ (noticeArrives l w s).clear = s.clear ∧
    (noticeArrives l w s).pending = s.pending ∧ (noticeArrives l w s).lines.straps = s.lines.straps ∧
    (noticeArrives l w s).lines.supplyLow = s.lines.supplyLow ∧
    (noticeArrives l w s).lines.permit = s.lines.permit ∧ (noticeArrives l w s).vote.counter = s.vote.counter ∧
    (noticeArrives l w s).copy.phase = s.copy.phase ∧ (noticeArrives l w s).copy.attempt = s.copy.attempt ∧
    (noticeArrives l w s).log.running = s.log.running := by
  unfold noticeArrives; split <;> simp

@[simp] theorem standJoining_frame (l : Lane) (s : State) :
    (standJoining l s).lines = s.lines ∧ (standJoining l s).loader = s.loader ∧
    (standJoining l s).through = s.through ∧ (standJoining l s).map = s.map ∧
    (standJoining l s).checker = s.checker ∧ (standJoining l s).sram = s.sram ∧ (standJoining l s).port = s.port ∧
    (standJoining l s).sig = s.sig ∧ (standJoining l s).patrol = s.patrol ∧ (standJoining l s).link1 = s.link1 ∧
    (standJoining l s).link2 = s.link2 ∧ (standJoining l s).copy = s.copy ∧ (standJoining l s).clear = s.clear ∧
    (standJoining l s).log = s.log ∧ (standJoining l s).pending = s.pending ∧
    (standJoining l s).vote.counter = s.vote.counter ∧ (standJoining l s).vote.window = s.vote.window ∧
    (standJoining l s).lane.state = s.lane.state ∧ (standJoining l s).lane.attempts = s.lane.attempts ∧
    (standJoining l s).lane.retry = s.lane.retry ∧ (standJoining l s).lane.formation = s.lane.formation ∧
    (standJoining l s).lane.retainedServing = s.lane.retainedServing := by
  unfold standJoining; split <;> simp

@[simp] theorem acceptJoin_frame (p : PortId) (l : Lane) (n : Nat) (s : State) :
    (acceptJoin p l n s).loader = s.loader ∧ (acceptJoin p l n s).map = s.map ∧
    (acceptJoin p l n s).checker = s.checker ∧ (acceptJoin p l n s).sram = s.sram ∧
    (acceptJoin p l n s).sig = s.sig ∧ (acceptJoin p l n s).clear = s.clear ∧
    (acceptJoin p l n s).pending = s.pending ∧ (acceptJoin p l n s).lines.straps = s.lines.straps ∧
    (acceptJoin p l n s).lines.supplyLow = s.lines.supplyLow ∧ (acceptJoin p l n s).lines.permit = s.lines.permit ∧
    (acceptJoin p l n s).vote.counter = s.vote.counter ∧ (acceptJoin p l n s).copy.phase = s.copy.phase ∧
    (acceptJoin p l n s).copy.attempt = s.copy.attempt ∧ (acceptJoin p l n s).log.running = s.log.running := by
  simp [acceptJoin]

@[simp] theorem joinArrives_frame (p : PortId) (l : Lane) (n : Nat) (x : Pair) (s : State) :
    (joinArrives p l n x s).loader = s.loader ∧ (joinArrives p l n x s).map = s.map ∧
    (joinArrives p l n x s).checker = s.checker ∧ (joinArrives p l n x s).sram = s.sram ∧
    (joinArrives p l n x s).sig = s.sig ∧ (joinArrives p l n x s).clear = s.clear ∧
    (joinArrives p l n x s).pending = s.pending ∧ (joinArrives p l n x s).lines.straps = s.lines.straps ∧
    (joinArrives p l n x s).lines.supplyLow = s.lines.supplyLow ∧
    (joinArrives p l n x s).lines.permit = s.lines.permit ∧ (joinArrives p l n x s).vote.counter = s.vote.counter ∧
    (joinArrives p l n x s).copy.phase = s.copy.phase ∧ (joinArrives p l n x s).copy.attempt = s.copy.attempt ∧
    (joinArrives p l n x s).log.running = s.log.running := by
  unfold joinArrives; split <;> simp

@[simp] theorem acceptArrives_frame (l : Lane) (n : Nat) (s : State) :
    (acceptArrives l n s).lines = s.lines ∧ (acceptArrives l n s).loader = s.loader ∧
    (acceptArrives l n s).through = s.through ∧ (acceptArrives l n s).map = s.map ∧
    (acceptArrives l n s).checker = s.checker ∧ (acceptArrives l n s).sram = s.sram ∧
    (acceptArrives l n s).port = s.port ∧ (acceptArrives l n s).sig = s.sig ∧
    (acceptArrives l n s).patrol = s.patrol ∧ (acceptArrives l n s).link1 = s.link1 ∧
    (acceptArrives l n s).link2 = s.link2 ∧ (acceptArrives l n s).vote = s.vote ∧
    (acceptArrives l n s).lane = s.lane ∧ (acceptArrives l n s).clear = s.clear ∧
    (acceptArrives l n s).log = s.log ∧ (acceptArrives l n s).pending = s.pending ∧
    (acceptArrives l n s).copy.serving = s.copy.serving ∧ (acceptArrives l n s).copy.dirty = s.copy.dirty ∧
    (acceptArrives l n s).copy.repairs = s.copy.repairs ∧ (acceptArrives l n s).copy.repair = s.copy.repair ∧
    (acceptArrives l n s).copy.attempt = s.copy.attempt ∧ (acceptArrives l n s).copy.catchUp = s.copy.catchUp ∧
    (acceptArrives l n s).copy.cursor = s.copy.cursor := by
  unfold acceptArrives; split <;> simp

@[simp] theorem refuseArrives_frame (l : Lane) (x : RefuseSubject) (r : RefuseReason) (s : State) :
    (refuseArrives l x r s).lines = s.lines ∧ (refuseArrives l x r s).loader = s.loader ∧
    (refuseArrives l x r s).through = s.through ∧ (refuseArrives l x r s).map = s.map ∧
    (refuseArrives l x r s).checker = s.checker ∧ (refuseArrives l x r s).sram = s.sram ∧
    (refuseArrives l x r s).sig = s.sig ∧ (refuseArrives l x r s).patrol = s.patrol ∧
    (refuseArrives l x r s).clear = s.clear ∧ (refuseArrives l x r s).pending = s.pending ∧
    (refuseArrives l x r s).vote.counter = s.vote.counter ∧ (refuseArrives l x r s).vote.table = s.vote.table ∧
    (refuseArrives l x r s).vote.window = s.vote.window ∧
    (refuseArrives l x r s).lane.formation = s.lane.formation ∧
    (refuseArrives l x r s).lane.retainedServing = s.lane.retainedServing ∧
    (refuseArrives l x r s).copy.serving = s.copy.serving ∧ (refuseArrives l x r s).copy.dirty = s.copy.dirty ∧
    (refuseArrives l x r s).copy.attempt = s.copy.attempt ∧ (refuseArrives l x r s).copy.catchUp = s.copy.catchUp ∧
    (refuseArrives l x r s).copy.cursor = s.copy.cursor ∧ (refuseArrives l x r s).log.running = s.log.running := by
  unfold refuseArrives; (repeat' split) <;> simp

@[simp] theorem offerNaks_frame (p : PortId) (n : Nat) (bs : List Nat) (s : State) :
    (offerNaks p n bs s).lines = s.lines ∧ (offerNaks p n bs s).loader = s.loader ∧
    (offerNaks p n bs s).through = s.through ∧ (offerNaks p n bs s).map = s.map ∧
    (offerNaks p n bs s).checker = s.checker ∧ (offerNaks p n bs s).sram = s.sram ∧
    (offerNaks p n bs s).sig = s.sig ∧ (offerNaks p n bs s).patrol = s.patrol ∧ (offerNaks p n bs s).vote = s.vote ∧
    (offerNaks p n bs s).lane = s.lane ∧ (offerNaks p n bs s).copy = s.copy ∧ (offerNaks p n bs s).clear = s.clear ∧
    (offerNaks p n bs s).pending = s.pending ∧ (offerNaks p n bs s).log.running = s.log.running := by
  induction bs generalizing s with
  | nil => simp [offerNaks]
  | cons _ _ ih => simp [offerNaks, ih]

@[simp] theorem checkExpected_frame (p : PortId) (n b : Nat) (s : State) :
    (checkExpected p n b s).lines = s.lines ∧ (checkExpected p n b s).loader = s.loader ∧
    (checkExpected p n b s).through = s.through ∧ (checkExpected p n b s).map = s.map ∧
    (checkExpected p n b s).checker = s.checker ∧ (checkExpected p n b s).sram = s.sram ∧
    (checkExpected p n b s).sig = s.sig ∧ (checkExpected p n b s).patrol = s.patrol ∧
    (checkExpected p n b s).vote = s.vote ∧ (checkExpected p n b s).lane = s.lane ∧
    (checkExpected p n b s).clear = s.clear ∧ (checkExpected p n b s).pending = s.pending ∧
    (checkExpected p n b s).copy.serving = s.copy.serving ∧ (checkExpected p n b s).copy.dirty = s.copy.dirty ∧
    (checkExpected p n b s).copy.repairs = s.copy.repairs ∧ (checkExpected p n b s).copy.repair = s.copy.repair ∧
    (checkExpected p n b s).copy.phase = s.copy.phase ∧ (checkExpected p n b s).copy.attempt = s.copy.attempt ∧
    (checkExpected p n b s).copy.catchUp = s.copy.catchUp ∧ (checkExpected p n b s).copy.cursor = s.copy.cursor ∧
    (checkExpected p n b s).log.running = s.log.running := by
  unfold checkExpected; (repeat' split) <;> simp

@[simp] theorem blockArrives_frame (p : PortId) (l : Lane) (n b : Nat) (ws : List Word) (s : State) :
    (blockArrives p l n b ws s).lines = s.lines ∧ (blockArrives p l n b ws s).loader = s.loader ∧
    (blockArrives p l n b ws s).through = s.through ∧ (blockArrives p l n b ws s).map = s.map ∧
    (blockArrives p l n b ws s).checker = s.checker ∧ (blockArrives p l n b ws s).sram = s.sram ∧
    (blockArrives p l n b ws s).sig = s.sig ∧ (blockArrives p l n b ws s).patrol = s.patrol ∧
    (blockArrives p l n b ws s).vote = s.vote ∧ (blockArrives p l n b ws s).lane = s.lane ∧
    (blockArrives p l n b ws s).clear = s.clear ∧ (blockArrives p l n b ws s).pending = s.pending ∧
    (blockArrives p l n b ws s).copy.serving = s.copy.serving ∧
    (blockArrives p l n b ws s).copy.dirty = s.copy.dirty ∧
    (blockArrives p l n b ws s).copy.repairs = s.copy.repairs ∧
    (blockArrives p l n b ws s).copy.repair = s.copy.repair ∧
    (blockArrives p l n b ws s).copy.phase = s.copy.phase ∧
    (blockArrives p l n b ws s).copy.attempt = s.copy.attempt ∧
    (blockArrives p l n b ws s).copy.catchUp = s.copy.catchUp ∧
    (blockArrives p l n b ws s).copy.cursor = s.copy.cursor ∧
    (blockArrives p l n b ws s).log.running = s.log.running := by
  unfold blockArrives; split <;> simp

@[simp] theorem nakArrives_frame (l : Lane) (n b : Nat) (s : State) :
    (nakArrives l n b s).lines = s.lines ∧ (nakArrives l n b s).loader = s.loader ∧
    (nakArrives l n b s).through = s.through ∧ (nakArrives l n b s).map = s.map ∧
    (nakArrives l n b s).checker = s.checker ∧ (nakArrives l n b s).sram = s.sram ∧
    (nakArrives l n b s).port = s.port ∧ (nakArrives l n b s).sig = s.sig ∧ (nakArrives l n b s).patrol = s.patrol ∧
    (nakArrives l n b s).link1 = s.link1 ∧ (nakArrives l n b s).link2 = s.link2 ∧
    (nakArrives l n b s).vote = s.vote ∧ (nakArrives l n b s).lane = s.lane ∧ (nakArrives l n b s).clear = s.clear ∧
    (nakArrives l n b s).log = s.log ∧ (nakArrives l n b s).pending = s.pending ∧
    (nakArrives l n b s).copy.serving = s.copy.serving ∧ (nakArrives l n b s).copy.repairs = s.copy.repairs ∧
    (nakArrives l n b s).copy.repair = s.copy.repair ∧ (nakArrives l n b s).copy.phase = s.copy.phase ∧
    (nakArrives l n b s).copy.attempt = s.copy.attempt ∧ (nakArrives l n b s).copy.catchUp = s.copy.catchUp ∧
    (nakArrives l n b s).copy.cursor = s.copy.cursor := by
  unfold nakArrives; split <;> simp

@[simp] theorem admitArrives_frame (l : Lane) (n : Nat) (x : Snapshot) (s : State) :
    (admitArrives l n x s).lines = s.lines ∧ (admitArrives l n x s).loader = s.loader ∧
    (admitArrives l n x s).through = s.through ∧ (admitArrives l n x s).map = s.map ∧
    (admitArrives l n x s).checker = s.checker ∧ (admitArrives l n x s).sram = s.sram ∧
    (admitArrives l n x s).port = s.port ∧ (admitArrives l n x s).sig = s.sig ∧
    (admitArrives l n x s).patrol = s.patrol ∧ (admitArrives l n x s).link1 = s.link1 ∧
    (admitArrives l n x s).link2 = s.link2 ∧ (admitArrives l n x s).vote = s.vote ∧
    (admitArrives l n x s).lane = s.lane ∧ (admitArrives l n x s).clear = s.clear ∧
    (admitArrives l n x s).log = s.log ∧ (admitArrives l n x s).pending = s.pending ∧
    (admitArrives l n x s).copy.serving = s.copy.serving ∧ (admitArrives l n x s).copy.dirty = s.copy.dirty ∧
    (admitArrives l n x s).copy.repairs = s.copy.repairs ∧ (admitArrives l n x s).copy.repair = s.copy.repair ∧
    (admitArrives l n x s).copy.attempt = s.copy.attempt ∧ (admitArrives l n x s).copy.catchUp = s.copy.catchUp ∧
    (admitArrives l n x s).copy.cursor = s.copy.cursor := by
  unfold admitArrives; split <;> simp

@[simp] theorem offerNotice_frame (l : Lane) (x : Option Snapshot) (s : State) :
    (offerNotice l x s).lines = s.lines ∧ (offerNotice l x s).loader = s.loader ∧
    (offerNotice l x s).through = s.through ∧ (offerNotice l x s).map = s.map ∧
    (offerNotice l x s).checker = s.checker ∧ (offerNotice l x s).sram = s.sram ∧ (offerNotice l x s).sig = s.sig ∧
    (offerNotice l x s).patrol = s.patrol ∧ (offerNotice l x s).vote = s.vote ∧ (offerNotice l x s).lane = s.lane ∧
    (offerNotice l x s).copy = s.copy ∧ (offerNotice l x s).clear = s.clear ∧
    (offerNotice l x s).pending = s.pending ∧ (offerNotice l x s).log.running = s.log.running := by
  unfold offerNotice; split <;> simp

@[simp] theorem admittedArrives_frame (l : Lane) (n : Nat) (w : Word) (s : State) :
    (admittedArrives l n w s).loader = s.loader ∧ (admittedArrives l n w s).map = s.map ∧
    (admittedArrives l n w s).checker = s.checker ∧ (admittedArrives l n w s).sram = s.sram ∧
    (admittedArrives l n w s).sig = s.sig ∧ (admittedArrives l n w s).clear = s.clear ∧
    (admittedArrives l n w s).pending = s.pending ∧ (admittedArrives l n w s).lines.straps = s.lines.straps ∧
    (admittedArrives l n w s).lines.supplyLow = s.lines.supplyLow ∧
    (admittedArrives l n w s).lines.permit = s.lines.permit ∧
    (admittedArrives l n w s).vote.counter = s.vote.counter ∧ (admittedArrives l n w s).copy.phase = s.copy.phase ∧
    (admittedArrives l n w s).copy.attempt = s.copy.attempt ∧
    (admittedArrives l n w s).log.running = s.log.running := by
  unfold admittedArrives; split <;> simp

@[simp] theorem mismatchArrives_frame (l : Lane) (n k : Nat) (s : State) :
    (mismatchArrives l n k s).loader = s.loader ∧ (mismatchArrives l n k s).map = s.map ∧
    (mismatchArrives l n k s).checker = s.checker ∧ (mismatchArrives l n k s).sram = s.sram ∧
    (mismatchArrives l n k s).sig = s.sig ∧ (mismatchArrives l n k s).clear = s.clear ∧
    (mismatchArrives l n k s).pending = s.pending ∧ (mismatchArrives l n k s).lines.straps = s.lines.straps ∧
    (mismatchArrives l n k s).lines.supplyLow = s.lines.supplyLow ∧
    (mismatchArrives l n k s).lines.permit = s.lines.permit ∧
    (mismatchArrives l n k s).vote.counter = s.vote.counter ∧ (mismatchArrives l n k s).copy.phase = s.copy.phase ∧
    (mismatchArrives l n k s).copy.attempt = s.copy.attempt ∧
    (mismatchArrives l n k s).log.running = s.log.running := by
  unfold mismatchArrives; split <;> simp

@[simp] theorem abandonArrives_frame (l : Lane) (n : Nat) (c : Cause) (s : State) :
    (abandonArrives l n c s).loader = s.loader ∧ (abandonArrives l n c s).map = s.map ∧
    (abandonArrives l n c s).checker = s.checker ∧ (abandonArrives l n c s).sram = s.sram ∧
    (abandonArrives l n c s).sig = s.sig ∧ (abandonArrives l n c s).clear = s.clear ∧
    (abandonArrives l n c s).pending = s.pending ∧ (abandonArrives l n c s).lines.straps = s.lines.straps ∧
    (abandonArrives l n c s).lines.supplyLow = s.lines.supplyLow ∧
    (abandonArrives l n c s).lines.permit = s.lines.permit ∧
    (abandonArrives l n c s).vote.counter = s.vote.counter ∧
    (abandonArrives l n c s).copy.attempt = s.copy.attempt ∧
    (abandonArrives l n c s).log.running = s.log.running := by
  unfold abandonArrives; (repeat' split) <;> simp

@[simp] theorem fetchArrives_frame (p : PortId) (b : Nat) (s : State) :
    (fetchArrives p b s).lines = s.lines ∧ (fetchArrives p b s).loader = s.loader ∧
    (fetchArrives p b s).through = s.through ∧ (fetchArrives p b s).map = s.map ∧
    (fetchArrives p b s).checker = s.checker ∧ (fetchArrives p b s).sram = s.sram ∧
    (fetchArrives p b s).sig = s.sig ∧ (fetchArrives p b s).patrol = s.patrol ∧ (fetchArrives p b s).vote = s.vote ∧
    (fetchArrives p b s).lane = s.lane ∧ (fetchArrives p b s).clear = s.clear ∧
    (fetchArrives p b s).pending = s.pending ∧ (fetchArrives p b s).copy.serving = s.copy.serving ∧
    (fetchArrives p b s).copy.dirty = s.copy.dirty ∧ (fetchArrives p b s).copy.repairs = s.copy.repairs ∧
    (fetchArrives p b s).copy.repair = s.copy.repair ∧ (fetchArrives p b s).copy.phase = s.copy.phase ∧
    (fetchArrives p b s).copy.attempt = s.copy.attempt ∧ (fetchArrives p b s).copy.catchUp = s.copy.catchUp ∧
    (fetchArrives p b s).copy.cursor = s.copy.cursor ∧ (fetchArrives p b s).log.running = s.log.running := by
  unfold fetchArrives; (repeat' split) <;> simp

@[simp] theorem fetchedArrives_frame (l : Lane) (b : Nat) (ws : List Word) (s : State) :
    (fetchedArrives l b ws s).lines = s.lines ∧ (fetchedArrives l b ws s).loader = s.loader ∧
    (fetchedArrives l b ws s).through = s.through ∧ (fetchedArrives l b ws s).map = s.map ∧
    (fetchedArrives l b ws s).checker = s.checker ∧ (fetchedArrives l b ws s).sram = s.sram ∧
    (fetchedArrives l b ws s).sig = s.sig ∧ (fetchedArrives l b ws s).patrol = s.patrol ∧
    (fetchedArrives l b ws s).link1 = s.link1 ∧ (fetchedArrives l b ws s).link2 = s.link2 ∧
    (fetchedArrives l b ws s).vote = s.vote ∧ (fetchedArrives l b ws s).lane = s.lane ∧
    (fetchedArrives l b ws s).clear = s.clear ∧ (fetchedArrives l b ws s).log = s.log ∧
    (fetchedArrives l b ws s).pending = s.pending ∧ (fetchedArrives l b ws s).copy.serving = s.copy.serving ∧
    (fetchedArrives l b ws s).copy.dirty = s.copy.dirty ∧ (fetchedArrives l b ws s).copy.repairs = s.copy.repairs ∧
    (fetchedArrives l b ws s).copy.phase = s.copy.phase ∧ (fetchedArrives l b ws s).copy.attempt = s.copy.attempt ∧
    (fetchedArrives l b ws s).copy.catchUp = s.copy.catchUp ∧
    (fetchedArrives l b ws s).copy.cursor = s.copy.cursor := by
  unfold fetchedArrives; (repeat' split) <;> simp

end Sys2Proof.Machine
end

