-- ==== Sys2Proof/Laws/State.lean ====
section
/-! SUPPORT. What each update of the state leaves in each field: by rfl, for simp. -/

namespace Sys2Proof.Machine

/-! Values for each lane. -/

@[simp] theorem PerLane.get_set_self {α : Type} (v : PerLane α) (l : Lane) (x : α) :
    PerLane.get (PerLane.set v l x) l = x := by cases l <;> rfl

theorem PerLane.get_set_of_ne {α : Type} (v : PerLane α) {l k : Lane} (x : α) (h : k ≠ l) :
    PerLane.get (PerLane.set v l x) k = PerLane.get v k := by cases l <;> cases k <;> first | rfl | exact absurd rfl h

@[simp] theorem PerLane.get_all {α : Type} (x : α) (l : Lane) : PerLane.get (PerLane.all x) l = x := by cases l <;> rfl

/-! Ports. -/

@[simp] theorem getPort_link1 (s : State) : getPort s .link1 = s.link1 := rfl

@[simp] theorem getPort_link2 (s : State) : getPort s .link2 = s.link2 := rfl

@[simp] theorem getPort_setPort_self (s : State) (p : PortId) (v : LinkPort) : getPort (setPort s p v) p = v := by
  cases p <;> rfl

theorem getPort_setPort_of_ne (s : State) {p q : PortId} (v : LinkPort) (h : q ≠ p) :
    getPort (setPort s p v) q = getPort s q := by cases p <;> cases q <;> first | rfl | exact absurd rfl h

@[simp] theorem setPort_getPort (s : State) (p : PortId) : setPort s p (getPort s p) = s := by cases p <;> rfl

/-! Ages of the store-port requests. -/

@[simp] theorem ageOf_setAge_self (p : StorePort) (b : Background) (a : Option Nat) : ageOf (setAge p b a) b = a := by
  cases b <;> rfl

theorem ageOf_setAge_of_ne (p : StorePort) {b c : Background} (a : Option Nat) (h : c ≠ b) :
    ageOf (setAge p b a) c = ageOf p c := by cases b <;> cases c <;> first | rfl | exact absurd rfl h

@[simp] theorem setAge_burst (p : StorePort) (b : Background) (a : Option Nat) : (setAge p b a).burst = p.burst := by
  cases b <;> rfl

@[simp] theorem setAge_procWaiting (p : StorePort) (b : Background) (a : Option Nat) :
    (setAge p b a).procWaiting = p.procWaiting := by cases b <;> rfl

@[simp] theorem setAge_drain (p : StorePort) (b : Background) (a : Option Nat) : (setAge p b a).drain = p.drain := by
  cases b <;> rfl

@[simp] theorem setAge_afterDrain (p : StorePort) (b : Background) (a : Option Nat) :
    (setAge p b a).afterDrain = p.afterDrain := by cases b <;> rfl

/-! What depends on the loaded image, the straps, the view and the lane state alone. -/

theorem settings_congr {s t : State} (h : t.map.image = s.map.image) : settings t = settings s := by
  simp only [settings, h]

theorem locate_congr {s t : State} (h : t.map.image = s.map.image) (b : Nat) : locate t b = locate s b := by
  simp only [locate, h]

theorem linesInUse_congr {s t : State} (h : t.map.image = s.map.image) : linesInUse t = linesInUse s := by
  simp only [linesInUse, h]

theorem laneCount_congr {s t : State} (h : t.map.image = s.map.image) : laneCount t = laneCount s := by
  simp only [laneCount, h]

theorem ownLane_congr {s t : State} (h : t.lines.straps = s.lines.straps) : ownLane t = ownLane s := by
  simp only [ownLane, h]

theorem peers_congr {s t : State} (h : t.map.image = s.map.image) (g : t.lines.straps = s.lines.straps) :
    peers t = peers s := by simp only [peers, ownLane_congr g, laneCount_congr h]

theorem standing_congr {s t : State} (h : t.vote.view = s.vote.view) (l : Lane) : standing t l = standing s l := by
  simp only [standing, viewOf, h]

theorem running_congr {s t : State} (h : t.lane.state = s.lane.state) : running t = running s := by
  simp only [running, h]

theorem permitDue_congr {s t : State} (h : t.lane.state = s.lane.state) (g : t.vote.view = s.vote.view) :
    permitDue t = permitDue s := by unfold permitDue viewOf; rw [h, g]

end Sys2Proof.Machine
end

