-- ==== Sys2Proof/Laws/Results.lean ====
section
/-! SUPPORT. What the shared operations do: the result of each, said once, beside its frame (Frames.lean). -/

namespace Sys2Proof.Machine

/-! Store-port requests (R43, R44). -/

@[simp] theorem place_waits (b : Background) (s : State) : waits (place b s).port b = true := by
  unfold place; split
  · assumption
  · simp [waits]

theorem place_of_ne {b c : Background} (s : State) (h : c ≠ b) : ageOf (place b s).port c = ageOf s.port c := by
  unfold place; split
  · rfl
  · exact ageOf_setAge_of_ne _ _ h

@[simp] theorem place_burst (b : Background) (s : State) : (place b s).port.burst = s.port.burst := by
  unfold place; split <;> simp

@[simp] theorem place_procWaiting (b : Background) (s : State) : (place b s).port.procWaiting = s.port.procWaiting := by
  unfold place; split <;> simp

@[simp] theorem leaveDrain_burst (p : StorePort) (b : Background) : (leaveDrain p b).burst = p.burst := by
  unfold leaveDrain; (repeat' split) <;> rfl

@[simp] theorem leaveDrain_ageOf (p : StorePort) (b c : Background) : ageOf (leaveDrain p b) c = ageOf p c := by
  unfold leaveDrain; (repeat' split) <;> cases c <;> rfl

@[simp] theorem withdraw_ageOf (b : Background) (s : State) : ageOf (withdraw b s).port b = none := by
  simp [withdraw]

theorem withdraw_of_ne {b c : Background} (s : State) (h : c ≠ b) :
    ageOf (withdraw b s).port c = ageOf s.port c := by simp [withdraw, ageOf_setAge_of_ne _ _ h]

@[simp] theorem withdraw_burst (b : Background) (s : State) : (withdraw b s).port.burst = s.port.burst := by
  simp [withdraw]

/-! Reports (R163). -/

theorem offer_queue (r : Report) (s : State) :
    (offer r s).log.queue = s.log.queue ∨ ∃ n, (offer r s).log.queue = s.log.queue ++ [(n, r)] := by
  unfold offer; (repeat' split) <;> simp

/-- With nothing queued since, `carryEnables` changes nothing. -/
@[simp] theorem carryEnables_self (x : Access) (s : State) : carryEnables x s s = s := by
  simp [carryEnables]

@[simp] theorem carryEnables_queue_length (x : Access) (b s : State) :
    (carryEnables x b s).log.queue.length = s.log.queue.length := by
  simp [carryEnables]; omega

theorem carryEnables_append (x : Access) {b s : State} (n : Nat) (r : Report) (next : Option Nat)
    (h : b.log.queue.length ≤ s.log.queue.length) :
    carryEnables x b { s with log := { s.log with next := next, queue := s.log.queue ++ [(n, r)] } } =
      { carryEnables x b s with log := { (carryEnables x b s).log with
          next := next, queue := (carryEnables x b s).log.queue ++ [(n, { r with enables := readEnables x })] } } := by
  simp [carryEnables, List.take_append_of_le_length h, List.drop_append_of_le_length h]

theorem carryEnables_placeLog (x : Access) (b s : State) :
    carryEnables x b (placeLog s) = placeLog (carryEnables x b s) := by
  have hq : (carryEnables x b s).log.queue.isEmpty = s.log.queue.isEmpty := by
    rw [Bool.eq_iff_iff, List.isEmpty_iff_length_eq_zero, List.isEmpty_iff_length_eq_zero, carryEnables_queue_length]
  unfold placeLog
  rw [hq]
  simp only [carryEnables_frame]
  split
  · rfl
  · unfold place; simp only [carryEnables_frame]; split <;> rfl

/-- A report offered within a read is the report with the read's byte enables offered. -/
theorem carryEnables_offer (x : Access) {b s : State} (r : Report) (h : b.log.queue.length ≤ s.log.queue.length) :
    carryEnables x b (offer r s) = offer { r with enables := readEnables x } (carryEnables x b s) := by
  have hl : logRegion (carryEnables x b s) = logRegion s := rfl
  unfold offer
  simp only [carryEnables_frame, carryEnables_queue_length, hl]
  split
  · split
    · rfl
    · split
      · rw [carryEnables_placeLog, carryEnables_append x _ _ _ h]; rfl
      · rfl
  · rfl

theorem offer_reportLaw {s : State} (r : Report) (h : ReportLaw s) : ReportLaw (offer r s) := by
  unfold ReportLaw at *
  unfold offer; (repeat' split) <;> simp_all

@[simp] theorem offer_burst (r : Report) (s : State) : (offer r s).port.burst = s.port.burst := by
  unfold offer placeLog; (repeat' split) <;> simp

@[simp] theorem offer_procWaiting (r : Report) (s : State) : (offer r s).port.procWaiting = s.port.procWaiting := by
  unfold offer placeLog; (repeat' split) <;> simp

@[simp] theorem report_burst (k : RecordKind) (n : Option Nat) (w d e : Word) (s : State) :
    (report k n w d e s).port.burst = s.port.burst ∧
      (report k n w d e s).port.procWaiting = s.port.procWaiting := by simp [report]

/-! Link ports. -/

@[simp] theorem startNext_peer (n d : Nat) (v : LinkPort) :
    (startNext n d v).peer = v.peer ∧ (startNext n d v).running = v.running := by
  unfold startNext; (repeat' split) <;> simp

@[simp] theorem startPort_peer (p : PortId) (s : State) :
    (startPort p s).link1.peer = s.link1.peer ∧ (startPort p s).link2.peer = s.link2.peer := by
  cases p <;> simp [startPort, setPort]

@[simp] theorem linkError_peer (p : PortId) (k : LinkErrorKind) (r : Option FormReason) (x y : Nat × Bool) (s : State) :
    (linkError p k r x y s).link1.peer = s.link1.peer ∧ (linkError p k r x y s).link2.peer = s.link2.peer := by
  cases p <;> simp [linkError, setPort]

@[simp] theorem txFull_peer (p : PortId) (f : Frame) (s : State) :
    (txFull p f s).link1.peer = s.link1.peer ∧ (txFull p f s).link2.peer = s.link2.peer := by simp [txFull]

@[simp] theorem offerControl_peer (p : PortId) (f : Frame) (s : State) :
    (offerControl p f s).link1.peer = s.link1.peer ∧ (offerControl p f s).link2.peer = s.link2.peer := by
  unfold offerControl; (repeat' split) <;> cases p <;> simp [setPort]

@[simp] theorem offerBulk_peer (p : PortId) (f : Frame) (s : State) :
    (offerBulk p f s).link1.peer = s.link1.peer ∧ (offerBulk p f s).link2.peer = s.link2.peer := by
  unfold offerBulk; (repeat' split) <;> cases p <;> simp [setPort]

@[simp] theorem offerTo_peer (l : Lane) (f : Frame) (s : State) :
    (offerTo l f s).link1.peer = s.link1.peer ∧ (offerTo l f s).link2.peer = s.link2.peer := by
  unfold offerTo; split <;> simp

@[simp] theorem offerBoth_peer (f : Frame) (s : State) :
    (offerBoth f s).link1.peer = s.link1.peer ∧ (offerBoth f s).link2.peer = s.link2.peer := by simp [offerBoth]

@[simp] theorem offerState_peer (s : State) :
    (offerState s).link1.peer = s.link1.peer ∧ (offerState s).link2.peer = s.link2.peer := by simp [offerState]

/-! HOLD, PERMIT, standings and the lane state (R111, R118, R119). -/

@[simp] theorem assertHold_hold (s : State) : (assertHold s).lines.hold = true := by
  unfold assertHold; split <;> simp_all

@[simp] theorem releaseHold_hold (s : State) : (releaseHold s).lines.hold = false := rfl

@[simp] theorem permitTest_permitLaw (s : State) : PermitLaw (permitTest s) := by
  unfold PermitLaw
  rw [permitDue_congr (s := s) (by simp) (by simp)]
  unfold permitTest
  (repeat' split) <;> simp_all

@[simp] theorem setStanding_permitLaw (l : Lane) (x : Standing) (s : State) : PermitLaw (setStanding l x s) :=
  permitTest_permitLaw _

@[simp] theorem setStanding_view (l : Lane) (x : Standing) (s : State) :
    (setStanding l x s).vote.view = some (PerLane.set (viewOf s) l x) := by simp [setStanding]

@[simp] theorem setLaneState_permitLaw (x : LaneState) (s : State) : PermitLaw (setLaneState x s) :=
  permitTest_permitLaw _

@[simp] theorem setLaneState_state (x : LaneState) (s : State) : (setLaneState x s).lane.state = x := by
  simp [setLaneState]

theorem excludePeer_permitLaw (l : Lane) (s : State) : PermitLaw (excludePeer l s) := by
  unfold excludePeer; split <;> simp

theorem memberByFrame_permitLaw (l : Lane) (w : Word) (s : State) : PermitLaw (memberByFrame l w s) :=
  permitTest_permitLaw _

/-! Lane control (R114, R123, R127, R128, R137, R161). -/

@[simp] theorem isolate_state (c : Cause) (n : Option Nat) (s : State) :
    (isolate c n s).lane.state = .isolated ∧ (isolate c n s).lines.hold = true := by
  simp only [isolate]; split <;> simp

@[simp] theorem enterJoining_state (g : Trigger) (s : State) :
    (enterJoining g s).lane.state = .joining ∧ (enterJoining g s).lines.hold = true := by
  simp [enterJoining]

@[simp] theorem enterMember_state (s : State) :
    (enterMember s).lane.state = .member ∧ (enterMember s).lines.hold = false ∧ (enterMember s).lane.attempts = 0 := by
  simp [enterMember]

@[simp] theorem admission_state (x : Snapshot) (s : State) :
    (admission x s).lane.state = .member ∧ (admission x s).lines.hold = false ∧ (admission x s).map.lock = true := by
  simp [admission]

@[simp] theorem enterForming_state (s : State) :
    (enterForming s).lane.state = .forming ∧ (enterForming s).lines.hold = false := by
  simp [enterForming]

theorem failAttempt_state (c : Cause) (b : Bool) (d : Option Cause) (s : State) :
    (failAttempt c b d s).lane.state = if s.lane.state = .joining then .isolated else s.lane.state := by
  unfold failAttempt; split <;> simp_all

theorem leave_of_running {c : Cause} {n : Option Nat} {s : State} (h : running s = true) :
    leave c n s = isolate c n s := by simp [leave, h]

theorem leave_of_not_running {c : Cause} {n : Option Nat} {s : State} (h : running s = false) : leave c n s = s := by
  simp [leave, h]

/-! The arbiter (R46). -/

theorem settle_of_burst {s : State} (h : s.port.burst.isSome = true) : settle s = s := by
  cases hb : s.port.burst <;> simp_all [settle, arbitrate]

theorem settle_of_no_request {s : State} (h : someRequest s.port = false) : settle s = s := by
  simp [settle, arbitrate, h]

@[simp] theorem settle_running (s : State) : running (settle s) = running s := running_congr (by simp)

@[simp] theorem settle_permitDue (s : State) : permitDue (settle s) = permitDue s := permitDue_congr (by simp) (by simp)

end Sys2Proof.Machine
end

