-- ==== Sys2Proof/Laws/Sram.lean ====
section
/-! SUPPORT. The laws of the SRAM: a read after a write, other cells left alone, the canonical form kept. -/

namespace Sys2Proof.Machine

theorem sramRead_of_lt {low a : Nat} {m : List (Nat × SramCell)} (h : sramCanonicalFrom low m = true) (ha : a < low) :
    sramRead m a = unwrittenCell := by
  induction m generalizing low with
  | nil => rfl
  | cons e rest ih =>
    obtain ⟨k, c⟩ := e
    simp only [sramCanonicalFrom, Bool.and_eq_true, decide_eq_true_eq] at h
    obtain ⟨⟨hk, _⟩, hr⟩ := h
    rw [sramRead, if_neg (by omega)]
    exact ih hr (by omega)

theorem sramCanonicalFrom_mono {low low' : Nat} {m : List (Nat × SramCell)} (h : sramCanonicalFrom low m = true)
    (hl : low' ≤ low) : sramCanonicalFrom low' m = true := by
  cases m with
  | nil => rfl
  | cons e rest =>
    obtain ⟨k, c⟩ := e
    simp only [sramCanonicalFrom, Bool.and_eq_true, decide_eq_true_eq] at h ⊢
    exact ⟨⟨by omega, h.1.2⟩, h.2⟩

/-- A write keeps the canonical form. -/
theorem sramWrite_canonicalFrom {low a : Nat} {m : List (Nat × SramCell)} (c : SramCell)
    (h : sramCanonicalFrom low m = true) (ha : low ≤ a) : sramCanonicalFrom low (sramWrite m a c) = true := by
  induction m generalizing low with
  | nil =>
    simp only [sramWrite]
    split <;> simp_all [sramCanonicalFrom]
  | cons e rest ih =>
    obtain ⟨k, d⟩ := e
    have h' := h
    simp only [sramCanonicalFrom, Bool.and_eq_true, decide_eq_true_eq] at h
    obtain ⟨⟨hk, hd⟩, hr⟩ := h
    simp only [sramWrite]
    split
    · split
      · exact h'
      · rename_i hlt hc
        simp only [sramCanonicalFrom, Bool.and_eq_true, decide_eq_true_eq]
        exact ⟨⟨ha, hc⟩, ⟨by omega, hd⟩, hr⟩
    · split
      · rename_i hlt he
        split
        · exact sramCanonicalFrom_mono hr (by omega)
        · rename_i hc
          simp only [sramCanonicalFrom, Bool.and_eq_true, decide_eq_true_eq]
          exact ⟨⟨ha, hc⟩, he ▸ hr⟩
      · simp only [sramCanonicalFrom, Bool.and_eq_true, decide_eq_true_eq]
        exact ⟨⟨hk, hd⟩, ih hr (by omega)⟩

/-- A write keeps the canonical form. -/
theorem sramWrite_canonical {m : List (Nat × SramCell)} (a : Nat) (c : SramCell) (h : sramCanonical m = true) :
    sramCanonical (sramWrite m a c) = true := sramWrite_canonicalFrom c h (Nat.zero_le a)

/-- Writes undone keep the canonical form. -/
theorem sramUndo_canonical {m : List (Nat × SramCell)} (log : List (Nat × SramCell)) (h : sramCanonical m = true) :
    sramCanonical (sramUndo m log) = true := by
  simp only [sramUndo]
  induction log.reverse generalizing m with
  | nil => exact h
  | cons w rest ih => exact ih (sramWrite_canonical w.1 w.2 h)

/-- A read after a write of the same cell gives the cell written. -/
theorem sramRead_sramWrite_self {low : Nat} {m : List (Nat × SramCell)} (a : Nat) (c : SramCell)
    (h : sramCanonicalFrom low m = true) : sramRead (sramWrite m a c) a = c := by
  induction m generalizing low with
  | nil =>
    simp only [sramWrite]
    split <;> simp_all [sramRead]
  | cons e rest ih =>
    obtain ⟨k, d⟩ := e
    have h' := h
    simp only [sramCanonicalFrom, Bool.and_eq_true, decide_eq_true_eq] at h
    simp only [sramWrite]
    split
    · rename_i hlt
      split
      · rename_i hc
        rw [hc]
        exact sramRead_of_lt (low := k) (by simp [sramCanonicalFrom, h.1.2, h.2]) hlt
      · simp [sramRead]
    · split
      · rename_i hlt he
        split
        · rename_i hc
          rw [hc]
          exact sramRead_of_lt h.2 (by omega)
        · simp [sramRead]
      · rename_i hlt hne
        rw [sramRead, if_neg hne]
        exact ih h.2

/-- A write leaves every other cell as it was. -/
theorem sramRead_sramWrite_of_ne {m : List (Nat × SramCell)} {a b : Nat} (c : SramCell) (h : b ≠ a) :
    sramRead (sramWrite m a c) b = sramRead m b := by
  induction m with
  | nil =>
    simp only [sramWrite]
    split <;> simp [sramRead, h]
  | cons e rest ih =>
    obtain ⟨k, d⟩ := e
    simp only [sramWrite]
    split
    · split <;> simp [sramRead, h]
    · split
      · rename_i hlt he
        subst he
        split <;> simp [sramRead, h]
      · simp only [sramRead, ih]

/-- A written word is stored with its check code, the rest of the SRAM left alone, where it is not substituted. -/
theorem writeWord_sramRead {s : State} {a b : Nat} (v : Word) (h : sramCanonical s.sram = true)
    (hs : substOf s a = none) :
    sramRead (writeWord a v s).sram b = if b = a then encodeCell (linesInUse s) a v else sramRead s.sram b := by
  simp only [writeWord, hs, writeCell]
  split
  · subst_vars
    exact sramRead_sramWrite_self _ _ h
  · exact sramRead_sramWrite_of_ne _ ‹_›

/-- A written word keeps the canonical form of the SRAM. -/
theorem writeWord_canonical {s : State} (a : Nat) (v : Word) (h : sramCanonical s.sram = true) :
    sramCanonical (writeWord a v s).sram = true := by
  simp only [writeWord, writeCell]
  split
  · exact h
  · exact sramWrite_canonical _ _ h

/-- The SRAM after a reset keeps its form. -/
theorem reset_sramCanonical : sramCanonical State.reset.sram = true := rfl

end Sys2Proof.Machine
end

