-- ==== Sys2Proof/Tests/Slice0.lean ====
section
/-! SUPPORT. Tests: ill-formed commands refused, the manual's worked values, one step of each kind of command, and a state
that meets the hypotheses of each statement of Certificates/Slice0/Obligations.lean. -/

namespace Sys2Proof.Machine

-- One test after the other: many kernel evaluations at once run out of threads.
set_option Elab.async false

/-! Well-formedness: each check refuses an ill-formed command. -/

theorem test_wf_cut_burst : Instr.wellFormed (.pinReset 0 65) = false ∧ Instr.wellFormed (.pinReset 0 64) = true := by
  decide

theorem test_wf_image : Instr.wellFormed (.imageReadComplete (List.replicate 94 0)) = false ∧
    Instr.wellFormed (.imageReadComplete (List.replicate 93 0)) = true := by decide +kernel

theorem test_wf_frame_short : Instr.wellFormed (.frameReceived .link1 (List.replicate 6 0)) = false ∧
    Instr.wellFormed (.frameReceived .link1 (List.replicate 7 0)) = true := by decide +kernel

theorem test_wf_frame_long : Instr.wellFormed (.frameReceived .link1 (List.replicate 267 0)) = false ∧
    Instr.wellFormed (.frameReceived .link1 (List.replicate 266 0)) = true := by decide +kernel

theorem test_wf_envelope : Instr.wellFormed (.frameEnvelopeError .link1 []) = false ∧
    Instr.wellFormed (.frameEnvelopeError .link1 [0, 0, 0, 0, 0, 0]) = false ∧
    Instr.wellFormed (.frameEnvelopeError .link1 [0]) = true := by decide

/-- No word spells a command: the table gives its rows no bits. -/
theorem test_no_word_spells_a_command : decodeTableWord 8 0 = none ∧ decodeTableWord 32 7 = none := by decide

/-! The manual's worked values. -/

/-- R171: the check code of 0x00000001 at word address 3 is 0x01. -/
theorem test_check_code : checkCode 19 3 0x00000001#32 = 0x01#8 := by decide

/-- R88: the frame check of the bytes 0x31 to 0x39 is 0x29B1. -/
theorem test_frame_check : frameCheck [0x31, 0x32, 0x33, 0x34, 0x35, 0x36, 0x37, 0x38, 0x39] = 0x29B1 := by
  decide +kernel

/-- Section 4.8, Case 1: clear-state with fill 0, then 1000 and 7 written at position 5 in turn. -/
theorem test_signature_case_1 : clearPair 3 64 0 = ⟨3, 0⟩ ∧ pairAdd ⟨3, 0⟩ 5 (delta 0 1000) = ⟨1003, 6000⟩ ∧
    pairAdd ⟨1003, 6000⟩ 5 (delta 1000 7) = ⟨10, 42⟩ := by decide +kernel

/-- Section 4.8, Cases 2 and 3: fill 0xA5A5A5A5, then 0 written at position 63. -/
theorem test_signature_case_2 : clearPair 3 64 0xA5A5A5A5#32 = ⟨1768515292, 3789655505⟩ ∧
    pairAdd ⟨1768515292, 3789655505⟩ 63 (delta 0xA5A5A5A5#32 0) = ⟨3284386118, 2021140216⟩ := by decide +kernel

/-- Section 4.8, Case 4: the largest region, fill 1. -/
theorem test_signature_case_4 : clearPair 1 2097152 1 = ⟨2097153, 1040896⟩ := by decide +kernel

/-- Section 4.8, Case 6: the digest of four words, and of two of them swapped. -/
theorem test_digest : digestOf [7, 0, 256, 5] = ⟨268, 795⟩ ∧ digestOf [7, 256, 0, 5] = ⟨268, 539⟩ := by decide +kernel

/-- Section 2.9, Event 1: bytes 0 and 1 of 0x12345678 replaced by 0xBEEF, and the delta on the live pair. -/
theorem test_merge : mergeBytes 0x12345678#32 0x0000BEEF#32 0b0011#4 = 0x1234BEEF#32 ∧
    pairAdd ⟨1000000, 2000000⟩ 4 (delta 0x12345678#32 0x1234BEEF#32) = ⟨1026743, 2133715⟩ := by decide +kernel

/-! A small machine: a MEMBER lane 0 of three, one block each of class VOTED, CONSTANT, PLAIN and LOG. -/

/-- Its image as loaded. -/
def demoImage : Image :=
  { lines := 18, laneCount := 3, fill := 0xA5A5A5A5#32
    settings := { waitLimit := 8, patrolInterval := 100, linkDivisor := 10, voteWindow := 5, cycleLimit := 100,
                  lateThreshold := 3, attemptLimit := 2, retryDelay := 10, formationWindow := 100, progressLimit := 20,
                  catchUpThreshold := 4, holdLimit := 10, tryLimit := 3 }
    policies := [⟨.constant, true, false, .every⟩, ⟨.voted, true, false, .every⟩, ⟨.plain, false, true, .every⟩,
                 ⟨.log, false, false, .every⟩, ⟨.plain, false, false, .none⟩, ⟨.plain, false, false, .none⟩,
                 ⟨.plain, false, false, .none⟩, ⟨.plain, false, false, .none⟩]
    regions := [⟨1, 1, 1⟩, ⟨0, 1, 0⟩, ⟨2, 1, 2⟩, ⟨3, 1, 3⟩]
    digest := ⟨268, 795⟩, clamped := [] }

/-- A block whose words all hold `v`. -/
def goodBlock (block : Nat) (v : Word) : List (Nat × SramCell) :=
  (List.range 64).map (fun j => (64 * block + j, encodeCell 18 (64 * block + j) v))

/-- Its SRAM: two good blocks, and in the PLAIN block a word with one wrong bit and one with two. -/
def demoSram : List (Nat × SramCell) :=
  goodBlock 0 7 ++ goodBlock 1 7 ++ [(128, encodeCell 18 128 9 ^^^ 4#40), (129, encodeCell 18 129 9 ^^^ 0x8001#40)]

/-- A port that runs with a frame's gap on its line. -/
def demoPort (l : Lane) : LinkPort := { LinkPort.afterReset with running := true, peer := some l, transmitter := .gap 40 }

/-- The lane in MEMBER with both peers MEMBER, its log and its patrol running. -/
def demo : State :=
  let s := State.reset
  { s with
    lines := { s.lines with hold := false }
    loader := { s.loader with reading := false }
    map := { image := some demoImage, lock := true, status := List.replicate 4 ⟨0, 0, false, false⟩ }
    sram := demoSram
    sig := { s.sig with live := [⟨1, 0⟩, ⟨2, 0⟩] }
    patrol := { s.patrol with running := true, cursor := some (0, 0), accumulator := some ⟨1, 0⟩, pace := some 5 }
    link1 := demoPort .one
    link2 := demoPort .two
    vote := { s.vote with view := some ⟨.member, .member, .member⟩, supervision := some 9 }
    lane := { s.lane with state := .member, permitTimer := some 3 }
    log := { s.log with running := true } }

/-- Lane 0 of two, serving lane 1 and with an entry of its own mark: lane 2 ABSENT. -/
def demoTwo : State :=
  { demo with
    map := { demo.map with image := some { demoImage with laneCount := 2 } }
    link2 := LinkPort.afterReset
    vote := { demo.vote with
      view := some ⟨.member, .member, .absent⟩
      table := [{ earlyEntry 0 with own := some demo.sig.live, voters := some ⟨true, true, false⟩, window := true }] }
    copy := { demo.copy with serving := some (.one, 5) } }

/-- The lane in another lane state, HOLD as that state has it. -/
def demoIn (st : LaneState) : State :=
  { demo with lane := { demo.lane with state := st, permitTimer := none },
              lines := { demo.lines with hold := !(decide (st = .forming) || decide (st = .member)) } }

/-- The lane serving lane 1 with attempt 5, its bulk pass over and the catch-up phase as given. -/
def demoServing (phase : CatchUp) : State :=
  { demo with copy := { demo.copy with
      serving := some (.one, 5), cursor := some .complete, catchUp := phase,
      kept := some { cycle := 4, view := ⟨.member, .joining, .member⟩, pairs := [⟨1, 0⟩, ⟨2, 0⟩] },
      progress := some 3, holdTimer := some 4 } }

/-- The lane JOINING in a phase, lane 1 asked with attempt 5. -/
def demoJoining (phase : JoinPhase) : State :=
  { demoIn .joining with copy := { demo.copy with attempt := 5, phase := phase, asked := some .one, progress := some 3 } }

/-- A state with a frame at the head of the receive queue of LINK-1. -/
def withFrame (f : Frame) (s : State) : State := { s with link1 := { s.link1 with received := [f] } }

/-- A state whose store port is held by a burst. -/
def withBurst (owner : Client) (answer : Option Answer) (e : AtEnd) (s : State) : State :=
  { s with port := { s.port with burst := some ⟨owner, answer, e, []⟩ } }

/-- The words of a configuration image but for the digest: the demo's regions and policies. -/
def demoWords : List Word :=
  [0xC05A0430#32, 93, BitVec.ofNat 32 (1 + 3 * 2 ^ 8 + 4 * 2 ^ 16), 0xA5A5A5A5#32] ++
    [8, 100, 10, 5, 100, 3, 2, 10, 100, 20, 4, 10, 3] ++
    [0x1111#32, 0x1112#32, 0x1223#32, 0x1124#32, 0x1111#32, 0x1111#32, 0x1111#32, 0x1111#32] ++
    [1, 0x01000001#32, 0, 1, 2, 0x02000001#32, 3, 0x03000001#32] ++ List.replicate 56 0

/-- The whole image, its digest behind. -/
def demoImageWords : List Word :=
  demoWords ++ [BitVec.ofNat 32 (digestOf demoWords).a, BitVec.ofNat 32 ((digestOf demoWords).a / 2 ^ 32),
    BitVec.ofNat 32 (digestOf demoWords).b, BitVec.ofNat 32 ((digestOf demoWords).b / 2 ^ 32)]

/-! One step of each kind of command. Expected values are the rules', worked by hand. -/

/-- The state a command leads to; the state itself if it leads to none. -/
def after (c : Instr) (s : State) : State :=
  match exec c s with
  | .next t => t
  | _ => s

/-- R23: a read of a good word owes its data without ERROR. -/
theorem test_read : (after (.accessTaken 256 false 0 0) demo).port.burst =
    some ⟨.proc, some ⟨some 7, false⟩, .nothing, []⟩ := by decide +kernel

/-- R24, R15: a read of a word with one wrong bit returns it corrected and counts it. -/
theorem test_read_corrected :
    ((after (.accessTaken 512 false 0 0) demo).port.burst.map (·.answer)) = some (some ⟨some 9, false⟩) ∧
    (statusOf (after (.accessTaken 512 false 0 0) demo) 2).corrected = 1 := by decide +kernel

/-- R10: a read of an unmapped word is answered at once with zero and ERROR. -/
theorem test_read_unmapped : (after (.accessTaken 0x400 false 0 0) demo).lines.answer = some ⟨some 0, true⟩ ∧
    (after (.accessTaken 0x400 false 0 0) demo).log.queue.length = 0 := by decide +kernel

/-- R57: a write of 9 over 7 at position 5 of slot 0 adds 2 to A and 12 to B. -/
theorem test_write : (after (.accessTaken 276 true 15 9) demo).sig.live = [⟨3, 12⟩, ⟨2, 0⟩] := by decide +kernel

/-- R11: with the lock flag set a write to a CONSTANT word is refused with ERROR. -/
theorem test_write_locked : (after (.accessTaken 0 true 15 9) demo).lines.answer = some ⟨none, true⟩ := by decide +kernel

/-- R21, R123: the answer to a bad VOTED read is given, then the lane isolates. -/
theorem test_burst_end :
    (after .burstEnd (withBurst .proc (some ⟨some 1, true⟩) (.leave .memory (some 0)) demo)).lane.state = .isolated ∧
    (after .burstEnd (withBurst .proc (some ⟨some 1, true⟩) (.leave .memory (some 0)) demo)).lines.answer =
      some ⟨some 1, true⟩ := by decide +kernel

/-- R100: an own mark raises the counter and opens a window. -/
theorem test_own_mark : (after .ownMark demo).vote.counter = 1 ∧ (after .ownMark demo).vote.window = some 5000 := by
  decide +kernel

/-- R99: CYCLE is ignored in ISOLATED. -/
theorem test_own_mark_ignored : (after .ownMark (demoIn .isolated)).vote.counter = 0 := by decide +kernel

/-- R102, R105: with both peers' equal pairs in, the vote is taken and the entry gone; R108: nobody is late. -/
theorem test_vote_agrees :
    (after (.signatureDelivery .link2) { after (.signatureDelivery .link1)
        (withFrame (.signature 1 .member ⟨.member, .member, .member⟩ [⟨1, 0⟩, ⟨2, 0⟩]) (after .ownMark demo)) with
      link2 := { demoPort .two with received := [.signature 1 .member ⟨.member, .member, .member⟩ [⟨1, 0⟩, ⟨2, 0⟩]] } }
      ).vote.table = [] := by decide +kernel

/-- R107: a window that runs out with nobody else present leaves the lone lane a member and its peers late once. -/
theorem test_vote_window : (after .voteWindowExpiry (after .ownMark demo)).lane.state = .member ∧
    (after .voteWindowExpiry (after .ownMark demo)).vote.lateCount = ⟨0, 1, 1⟩ := by decide +kernel

/-- R119: PERMIT changes level and the timer starts again. -/
theorem test_permit : (after .permitTimerExpiry demo).lines.permit = true ∧
    (after .permitTimerExpiry demo).lane.permitTimer = some 500 := by decide +kernel

/-- R112: a STATE frame that carries ISOLATED excludes its sender. -/
theorem test_state_excludes :
    (after (.stateDelivery .link1) (withFrame (.state .isolated 0) demo)).vote.view =
      some ⟨.member, .excluded, .member⟩ := by decide +kernel

/-- R125, R131: RESTORE begins attempt 1 with the joiner's clear. -/
theorem test_restore : (after .restoreEdge (demoIn .isolated)).lane.state = .joining ∧
    (after .restoreEdge (demoIn .isolated)).copy.attempt = 1 := by decide +kernel

/-- R126: RESTORE is ignored while SUPPLY-LOW is active. -/
theorem test_restore_supply :
    (after .restoreEdge { demoIn .isolated with lines := { demo.lines with supplyLow := true } }).lane.state = .isolated := by
  decide +kernel

/-- R128: SUPPLY-LOW fails the attempt of a joiner and leaves the count. -/
theorem test_supply_low : (after .supplyLowActive (demoJoining .copy)).lane.state = .isolated ∧
    (after .supplyLowActive (demoJoining .copy)).lane.attempts = 0 := by decide +kernel

/-- R112: a NOTICE makes a lane that ADMIT's view showed as ABSENT a MEMBER; R111: not lane 2 of two lanes. -/
theorem test_notice_absent :
    standing (noticeArrives .two 9 { demo with vote := { demo.vote with view := some ⟨.member, .member, .absent⟩ } }) .two =
      .member ∧ standing (noticeArrives .two 9 demoTwo) .two = .absent := by decide +kernel

/-- R111, R115: the view at admission is ADMIT's with self MEMBER, and lane 2 of two lanes stays ABSENT. -/
theorem test_admitted_view :
    admittedView ⟨9, ⟨.joining, .member, .excluded⟩, []⟩ demo = ⟨.member, .member, .excluded⟩ ∧
    admittedView ⟨9, ⟨.joining, .member, .excluded⟩, []⟩ demoTwo = ⟨.member, .member, .absent⟩ := by decide +kernel

/-- R137: a joiner whose pairs are equal is admitted and takes ADMIT's cycle. -/
theorem test_admitted :
    (after .admitVerify { demoJoining .verify with copy := { (demoJoining .verify).copy with
      verifying := some ⟨4, ⟨.joining, .member, .member⟩, [⟨1, 0⟩, ⟨2, 0⟩]⟩ } }).vote.counter = 4 ∧
    (after .admitVerify { demoJoining .verify with copy := { (demoJoining .verify).copy with
      verifying := some ⟨4, ⟨.joining, .member, .member⟩, [⟨1, 0⟩, ⟨2, 0⟩]⟩ } }).lane.state = .member := by decide +kernel

/-- R140: a JOIN with the same digest is accepted by a MEMBER lane that serves nobody. -/
theorem test_join : (after (.joinDelivery .link1) (withFrame (.join 5 ⟨268, 795⟩) demo)).copy.serving = some (.one, 5) := by
  decide +kernel

/-- R149: a FETCH of a block outside CONSTANT regions is refused with IMAGE. -/
theorem test_fetch_refused : (after (.fetchDelivery .link1) (withFrame (.fetch 1) demo)).link1.control =
    [.refuse (.fetch 1) .image] := by decide +kernel

/-- R164, R165: the record of a report, its check word last. -/
theorem test_record : recordWords 1 ⟨.started, .starting, none, 0, 0, 1, 0, 0, none⟩ =
    [1, 0x00FF0001#32, 0, 0, 1, 0, 0, 0x00FF0004#32] := by decide +kernel

/-- R22, R40: the CORRECTED report of a processor read carries the read's byte enables; the record's words do not. -/
theorem test_read_report_enables :
    ((after (.accessTaken 512 false 6 0) demo).log.queue.map (fun x => (x.2.kind, x.2.enables, x.2.detail1))) =
      [(.corrected, some 6#4, 0x021301#32)] := by decide +kernel

/-- R89, R90: a frame with an empty body is gathered whole: a FORM error where its check agrees (0x5E98 over the bytes 2, 1,
0, 0, by R88), else a CHECK error. -/
theorem test_empty_body :
    let s := { demo with link1 := { demo.link1 with gathering := true } }
    let e := fun bytes => (after (.frameReceived .link1 bytes) s).link1.errors
    (e [0x5A, 2, 1, 0, 0, 0x5E, 0x98]).form = 1 ∧ (e [0x5A, 2, 1, 0, 0, 0x5E, 0x98]).check = 0 ∧
      (e [0x5A, 2, 1, 0, 0, 0, 0]).check = 1 := by decide +kernel

/-! A state that meets the hypotheses of each statement, by the statement's name. -/

theorem demo_pairs : PairLaw demo := by
  refine ⟨?_, ?_, ?_, ?_⟩
  · intro p hp
    have h : p ∈ [(⟨1, 0⟩ : Pair), ⟨2, 0⟩] := hp
    simp only [List.mem_cons, List.not_mem_nil, or_false] at h
    rcases h with rfl | rfl <;> unfold Pair.inRange <;> decide
  · intro p hp; cases hp
  · rintro p ⟨⟩; unfold Pair.inRange; decide
  · rintro im ⟨⟩; decide

theorem witness_StepRunsTheFrontCommand : ({ demo with pending := [.ownMark] } : State).pending = .ownMark :: [] ∧
    demo.pending = [] ∧ ownSteps demo = [] ∧
    ownSteps (withFrame (.state .member 0) demo) = [.stateDelivery .link1] ∧ demo.link1.transmitter = .gap 40 ∧
    (after .ownMark demo).vote.window = some 5000 := by decide +kernel

theorem witness_ArbiterDecides :
    (withBurst .proc none .nothing demo).port.burst.isSome = true ∧ someRequest demo.port = false ∧ demo.port.burst = none ∧
    someRequest (place .log demo).port = true ∧
    overdueClients 8 { demo.port with patrolAge := some 8, logAge := some 7 } = [.patrol] ∧
    waitingClients (place .log demo).port = [.log] ∧
    procGrantable { demo with port := { demo.port with procWaiting := true, afterDrain := true } } = true ∧
    procGrantable { demoServing .hold with port := { demo.port with procWaiting := true } } = false := by decide +kernel

/-- A burst that has written two words of block 1. -/
def demoCut : State :=
  { demo with
    sram := writeCells demoSram [(64, 5), (65, 6)]
    port := { demo.port with burst := some ⟨.proc, none, .nothing, cellsBefore demoSram [(64, 5), (65, 6)]⟩ } }

theorem witness_PinResetCutsABurst :
    CutLaw demoCut ∧ sramCanonical demoSram = true ∧
    cellsBefore demoSram [(64, 5), (65, 6)] = [(64, encodeCell 18 64 7), (65, encodeCell 18 65 7)] ∧
    writeCells demoSram [(64, 5), (65, 6)] ≠ writeCells demoSram [(64, 5)] := by
  refine ⟨?_, by decide +kernel, by decide +kernel, by decide +kernel⟩
  rintro b ⟨⟩
  exact ⟨demoSram, [(64, 5), (65, 6)], by decide +kernel, rfl, rfl⟩

theorem witness_ImageReadIsJudged :
    (loadImage? (1#2).toNat demoImageWords).isSome = true ∧ loadImage? (3#2).toNat demoImageWords = none := by
  decide +kernel

/-- The demo's words pass every check of R155 on lane 2. -/
theorem witness_AcceptedImageKeepsTheRules :
    (loadImage? 2 demoImageWords).map (fun im => (im.lines, im.laneCount, im.regions.length)) = some (18, 3, 4) ∧
    ImageIsValid 2 demoImageWords := by
  have regions : regionsRead demoImageWords = [⟨1, 1, 1⟩, ⟨0, 1, 0⟩, ⟨2, 1, 2⟩, ⟨3, 1, 3⟩] := by decide +kernel
  have at4 : ∀ (i : Nat) (r : Region), ([⟨1, 1, 1⟩, ⟨0, 1, 0⟩, ⟨2, 1, 2⟩, ⟨3, 1, 3⟩] : List Region)[i]? = some r →
      i = 0 ∧ r = ⟨1, 1, 1⟩ ∨ i = 1 ∧ r = ⟨0, 1, 0⟩ ∨ i = 2 ∧ r = ⟨2, 1, 2⟩ ∨ i = 3 ∧ r = ⟨3, 1, 3⟩ := by
    intro i r h
    match i, h with
    | 0, h => exact .inl ⟨rfl, by simpa using h.symm⟩
    | 1, h => exact .inr (.inl ⟨rfl, by simpa using h.symm⟩)
    | 2, h => exact .inr (.inr (.inl ⟨rfl, by simpa using h.symm⟩))
    | 3, h => exact .inr (.inr (.inr ⟨rfl, by simpa using h.symm⟩))
    | _ + 4, h => simp at h
  refine ⟨by decide +kernel, by decide +kernel, by decide +kernel, by decide +kernel, by decide +kernel,
    by decide +kernel, ?_, by decide +kernel, by decide +kernel, ?_, by decide +kernel⟩
  · intro i j r q hi hj hne b
    rw [regions] at hi hj
    rcases at4 i r hi with ⟨rfl, rfl⟩ | ⟨rfl, rfl⟩ | ⟨rfl, rfl⟩ | ⟨rfl, rfl⟩ <;>
      rcases at4 j q hj with ⟨rfl, rfl⟩ | ⟨rfl, rfl⟩ | ⟨rfl, rfl⟩ | ⟨rfl, rfl⟩ <;>
      simp [Region.covers] at hne ⊢ <;> omega
  · intro i j r q hi hj hr hq
    rw [regions] at hi hj
    have log : ∀ k, k < 3 → classCode demoImageWords k ≠ 4 := by decide +kernel
    rcases at4 i r hi with ⟨rfl, rfl⟩ | ⟨rfl, rfl⟩ | ⟨rfl, rfl⟩ | ⟨rfl, rfl⟩ <;>
      rcases at4 j q hj with ⟨rfl, rfl⟩ | ⟨rfl, rfl⟩ | ⟨rfl, rfl⟩ | ⟨rfl, rfl⟩ <;>
      first
        | exact absurd hr (log _ (by decide))
        | exact absurd hq (log _ (by decide))
        | exact ⟨rfl, by decide⟩

theorem witness_WrongBitsAreClassified : (0 : Nat) < 39 ∧ 39 < 40 ∧ 17 < 18 ∧ 2 ^ 18 - 1 < 2 ^ 18 ∧
    dataColumns[31]? = some 0x52#8 ∧ checkColumns[0]? = some 0x01#8 ∧ addressValues[18]? = some 0x18#8 ∧
    (0x18#8 ∉ addressValues.take 18) ∧ (0x18#8 ∉ dataColumns) ∧ (0x18#8 ∉ checkColumns) := by decide

theorem witness_WrongAddressLineIsSeen : 17 < 18 ∧ 18 ≤ 21 ∧ 20 < 21 ∧ 21 ≤ 21 ∧ 2 ^ 18 - 1 < 2 ^ 18 := by decide

theorem witness_SignatureIsTheWeightedSum : 32 < Config.M := by decide

theorem witness_DeltaKeepsTheSignature : 3 < Config.M ∧ ([7, 0, 9] : List Word)[2]? = some 9 ∧
    Pair.inRange ⟨Config.M - 1, 0⟩ ∧ Config.M - 1 < Config.M ∧ PairLaw demo ∧
    (locate demo 1).map (·.slot) = some (some 0) := by
  unfold Pair.inRange; exact ⟨by decide, by decide, by decide, by decide, demo_pairs, by decide +kernel⟩

theorem witness_PatrolFoldsTheSignature :
    3 < Config.M ∧ ([7, 0, 9] : List Word)[2]? = some 9 ∧ 2 / 64 < 1 ∧ 1 ≤ 64 / 64 ∧ (3 : Nat) ≠ 2 := by decide

theorem witness_AccessIsRefusedOrRequested :
    takesAccess demo = true ∧ refusalAtTaking demo (accessOf 256 false 0 0) = none ∧
    refusalAtTaking demo (accessOf 0x400 true 15 0) = some .unmapped ∧
    refusalAtTaking demo (accessOf 768 true 15 0) = some .logWrite ∧
    refusalAtTaking demo (accessOf 0 true 15 0) = some .locked ∧
    refusalAtTaking demo (accessOf 256 true 6 0) = some .byteEnables := by decide +kernel

theorem demo_quiet : QuietPort demo := ⟨rfl, by decide +kernel, rfl, rfl⟩

/-- The lane with the given correction reporting on its PLAIN region, and its correction-reported flag. -/
def demoReport (r : Reporting) (reported : Bool) : State :=
  { demo with map := { demo.map with
      image := some { demoImage with policies := demoImage.policies.set 2 ⟨.plain, false, true, r⟩ }
      status := List.replicate 4 ⟨0, 0, reported, false⟩ } }

theorem witness_ReadReturnsAGoodWord :
    takesAccess demo = true ∧ QuietPort demo ∧ sramCanonical demo.sram = true ∧ (locate demo 1).isSome = true ∧
    (locate demo 2).map (·.policy.reporting) = some .every ∧ readWord demo 64 = .clean 7 ∧
    (∃ syn, readWord demo 128 = .corrected 9 syn 2) ∧
    (locate (demoReport .firstPerPass true) 2).map (·.policy.reporting) = some .firstPerPass ∧
    (statusOf (demoReport .firstPerPass true) 2).reported = true ∧
    (statusOf (demoReport .firstPerPass false) 2).reported = false ∧
    (locate (demoReport .none false) 2).map (·.policy.reporting) = some .none ∧
    ([⟨1, 2, true⟩] : List RepeatEntry) = [] ++ ⟨1, 2, true⟩ :: [] ∧ (2 : Nat) < 3 ∧ (7 : Nat) < 8 ∧
    (List.replicate 15 (⟨1, 0, .correction⟩ : SubstEntry)).length < 16 ∧
    16 ≤ (List.replicate 16 (⟨1, 0, .correction⟩ : SubstEntry)).length :=
  ⟨by decide +kernel, demo_quiet, by decide +kernel, by decide +kernel, by decide +kernel, by decide +kernel,
    ⟨0x13, by decide +kernel⟩, by decide +kernel, by decide +kernel, by decide +kernel, by decide +kernel, rfl,
    by decide, by decide, by decide, by decide⟩

/-- The lane with a bad word in its CONSTANT region and its repair list full. -/
def demoDeferring : State :=
  { demo with sram := sramWrite demo.sram 1 (encodeCell 18 1 9 ^^^ 0x8001#40),
              copy := { demo.copy with repairs := [4, 5, 6, 7] } }

theorem witness_ReadOfABadWordIsAnError :
    takesAccess demo = true ∧ QuietPort demo ∧ (locate demo 2).map (·.policy.isolates) = some true ∧
    (∃ raw syn, readWord demo 129 = .uncorrectable raw syn) ∧ takesAccess demoDeferring = true ∧
    QuietPort demoDeferring ∧ (locate demoDeferring 0).map (·.policy.cls) = some .constant ∧
    (∃ raw syn, readWord demoDeferring 1 = .uncorrectable raw syn) ∧ 0 ∉ demoDeferring.copy.repairs ∧
    4 ≤ demoDeferring.copy.repairs.length :=
  ⟨by decide +kernel, demo_quiet, by decide +kernel, ⟨0x8008#32, 0x36#8, by decide +kernel⟩, by decide +kernel,
    ⟨rfl, by decide +kernel, rfl, rfl⟩, by decide +kernel, ⟨0x8008#32, 0x36#8, by decide +kernel⟩, by decide, by decide⟩

theorem witness_FullWriteStoresItsData :
    takesAccess demo = true ∧ QuietPort demo ∧ sramCanonical demo.sram = true ∧
    (locate demo 1).map (·.slot) = some (some 0) ∧ (locate demo 2).map (·.slot) = some none ∧
    refusalAtTaking demo (accessOf 256 true 15 9) = none ∧ refusalAtTaking demo (accessOf 512 true 15 9) = none ∧
    readWord demo 64 = .clean 7 :=
  ⟨by decide +kernel, demo_quiet, by decide +kernel, by decide +kernel, by decide +kernel, by decide +kernel,
    by decide +kernel, by decide +kernel⟩

theorem witness_PartialWriteMergesOrIsRefused :
    takesAccess demo = true ∧ QuietPort demo ∧ (3#4 ≠ 15#4) ∧ refusalAtTaking demo (accessOf 256 true 3 9) = none ∧
    refusalAtTaking demo (accessOf 516 true 3 9) = none ∧ readWord demo 64 = .clean 7 ∧
    (∃ raw syn, readWord demo 129 = .uncorrectable raw syn) :=
  ⟨by decide +kernel, demo_quiet, by decide, by decide +kernel, by decide +kernel, by decide +kernel,
    ⟨0x8008#32, 0x36#8, by decide +kernel⟩⟩

theorem witness_LockedConstantWordsStayAsTheyAre :
    ({ demo with through := { access := some (accessOf 0 true 15 9), merge := none } } : State).through.access =
      some (accessOf 0 true 15 9) ∧ demo.port.burst = none ∧ demo.map.lock = true ∧
    (accessOf 0 true 15 9).isWrite = true ∧ (locate demo ((accessOf 0 true 15 9).word / 64)).map (·.policy.cls) =
      some .constant := by decide +kernel

/-- The lane with a report waiting. -/
def demoReporting : State :=
  { demo with log := { demo.log with queue := [(1, ⟨.started, .member, none, 0, 0, 1, 0, 0, none⟩)] } }

theorem witness_LogBurstWritesTheRecord :
    demoReporting.log.queue ≠ [] ∧ (logRegion demoReporting).isSome = true ∧ sramCanonical demoReporting.sram = true ∧
    demoReporting.log.phase = .idle := by decide +kernel

/-- The lane with a clear pass at block 1. -/
def demoClearing (joiner : Bool) : State :=
  { demoIn (if joiner then .joining else .starting) with
    clear := { demo.clear with pass := some { next := some 1, joiner := joiner } } }

/-- The clear pass after PIN at the LOG block, which holds a record of sequence 5 in slot 1 and one wrong bit in slot 0. -/
def demoScan : State :=
  { demoClearing false with
    loader := { reset := .pin, reading := false }
    clear := { pass := some { next := some 3, joiner := false }, best := some (5, 0), valid := 1 }
    sram := demoSram ++ [(192, encodeCell 18 192 9 ^^^ 4#40)] ++
      (List.range 8).map (fun j => (200 + j, encodeCell 18 (200 + j) ([5, 1, 0, 0, 0, 0, 0, 7].getD j 0))) }

theorem witness_FillBurstWritesItsBlock :
    (demoClearing true).clear.pass = some { next := some 1, joiner := true } ∧
    (locate (demoClearing true) 1).map (·.policy.cls) = some .voted ∧
    (locate (demoClearing false) 3).map (·.policy.cls) = some .log ∧ (demoClearing false).loader.reset = .power ∧
    sramCanonical (demoClearing true).sram = true ∧
    demoScan.clear.pass = some { next := some 3, joiner := false } ∧ demoScan.loader.reset = .pin ∧
    (locate demoScan 3).map (·.policy.cls) = some .log ∧ sramCanonical demoScan.sram = true ∧ RecordAt demoScan 3 1 5 ∧
    wasCorrected (readWord demoScan 192) = true :=
  ⟨by decide +kernel, by decide +kernel, by decide +kernel, by decide +kernel, by decide +kernel, by decide +kernel,
    by decide +kernel, by decide +kernel, by decide +kernel,
    ⟨fun j => [5, 1, 0, 0, 0, 0, 0, 7].getD j 0, by decide +kernel, by decide, by decide, by decide⟩, by decide +kernel⟩

/-- The lane with a received block. -/
def demoReceived (r : Received) : State := { demoJoining .copy with copy := { (demoJoining .copy).copy with received := some r } }

theorem witness_RecvBurstWritesTheBlock :
    (demoReceived (.block 1 (List.replicate 64 9))).copy.received = some (.block 1 (List.replicate 64 9)) ∧
    (List.replicate 64 (9 : Word)).length = 64 ∧ (locate demo 1).map (·.slot) = some (some 0) ∧
    (locate demo 2).map (·.slot) = some none ∧ (∀ j < 64, readWord demo (64 * 1 + j) = .clean 7) := by decide +kernel

theorem witness_RepairBurstWritesTheBadWords :
    (demoReceived (.fetched 0 (List.replicate 64 7))).copy.received = some (.fetched 0 (List.replicate 64 7)) ∧
    (locate demo 0).isSome = true ∧ (∀ j < 64, readWord demo (64 * 0 + j) = .clean 7) ∧
    (List.replicate 64 (8 : Word))[0]? ≠ some 7 := by decide +kernel

theorem witness_PatrolBurstWalksABlock :
    demo.patrol.cursor = some (0, 0) ∧ (locateRegion demo 0).map (·.slot) = some (some 0) ∧
    (∀ j < 64, readWord demo (64 * (1 + 0) + j) = .clean 7) ∧ demo.patrol.accumulator = some ⟨1, 0⟩ ∧
    demo.sig.live[0]? = some ⟨1, 0⟩ ∧ 0 + 1 = 1 ∧ regionCount demo = 4 ∧
    foldRead ⟨1, 0⟩ 0 ((List.replicate 64 7).map some) ≠ ⟨1, 0⟩ ∧
    (locateRegion demo 2).map (fun l => (l.slot, l.region.first, l.policy.isolates)) = some (none, 2, true) ∧
    sramCanonical demo.sram = true ∧ wasCorrected (readWord demo 128) = true ∧ none ∈ blockRead demo (64 * (2 + 0)) ∧
    none ∉ blockRead demo (64 * (1 + 0)) := by decide +kernel

theorem witness_CopyBurstReadsTheBlock :
    ({ demoServing .none with copy := { (demoServing .none).copy with job := some (.restore .link1), cursor := some (.at 1) } } :
      State).copy.job = some (.restore .link1) ∧ (demoServing .none).copy.serving = some (.one, 5) ∧
    (locate demo 1).isSome = true ∧ (∀ j < 64, readWord demo (64 * 1 + j) = .clean 7) ∧
    none ∈ blockRead demo (64 * 2) ∧ blockRead demo (64 * 1) = (List.replicate 64 (7 : Word)).map some ∧
    ([(.link2, 1), (.link1, 0)] : List (PortId × Nat)) = [(.link2, 1)] ++ (.link1, 0) :: [] ∧
    (∀ x ∈ ([(.link2, 1)] : List (PortId × Nat)) ++ [], x.1 ≠ .link1) ∧ (locate demo 0).isSome = true ∧
    sramCanonical demo.sram = true := by decide +kernel

theorem witness_BurstEndAnswersThenLeaves :
    (withBurst .proc (some ⟨none, false⟩) .nothing demo).port.burst = some ⟨.proc, some ⟨none, false⟩, .nothing, []⟩ ∧
    NoVoteDue demo ∧ running demo = true ∧ demo.lines.hold = false ∧ LinkPort.active demo.link1 = true ∧
    demo.link1.transmitter ≠ .resting ∧ demo.link1.control.length < 8 ∧
    1 ≤ (getPort { demo with link1 := { demo.link1 with reserved := 1 } } .link1).reserved ∧
    NoVoteDue (demoJoining .copy) ∧ (demoJoining .copy).lane.state = .joining ∧
    (demoServing .none).copy.serving = some (.one, 5) ∧ (demoServing .none).copy.job = none ∧
    (demoServing .none).lane.state = .member ∧ Lane.one ≠ ownLane demo ∧ portTo demo .one = some .link1 ∧
    (locate demo 1).map (·.policy.cls) = some .voted ∧ (locate demo 0).map (·.policy.cls) = some .constant ∧
    (Client.background .copy ≠ .background .fill) := by
  unfold NoVoteDue; decide +kernel

theorem witness_FillBurstEndGoesOn :
    NoVoteDue (demoClearing true) ∧ NoVoteDue (demoClearing false) ∧ memberHeard (demoClearing false) = false ∧
    memberHeard { demoClearing false with vote := { demo.vote with lastHeard := ⟨none, some .member, none⟩ } } = true ∧
    (demoJoining .clear).copy.phase = .clear ∧ (demoJoining .clear).lane.state = .joining ∧
    chooseSource (demoJoining .clear) = some .one ∧ (logRegion (demoClearing false)).isSome = true := by
  unfold NoVoteDue; decide +kernel

theorem witness_RequestsArePlaced :
    ageOf (place .log demo).port .log = some 0 ∧ demo.patrol.running = true ∧ demo.patrol.pace.isSome = true ∧
    (demoServing .none).copy.answers = [] ∧ portTo (demoServing .none) .one = some .link1 ∧
    (demoServing .none).port.copyAge = none ∧ holdsPort (demoServing .none).port (.background .copy) = false ∧
    (blockToSend { (demoServing .none).copy with dirty := [1] }).isSome = true := by decide +kernel

theorem witness_AlertPulsesOncePerRecord :
    ({ demo with log := { demo.log with phase := .high, owed := 2 } } : State).log.phase = .high ∧
    ({ demo with log := { demo.log with phase := .low, owed := 2 } } : State).log.phase = .low ∧
    demo.log.phase ≠ .high := by decide +kernel

theorem witness_ReportsAreNumberedAndQueued :
    State.reset.log.running = false ∧ demo.log.running = true ∧ demo.log.next = some 1 ∧ (logRegion demo).isSome = true ∧
    demo.log.queue.length < 8 ∧ holdsPort demo.port (.background .log) = false := by decide +kernel

theorem witness_OwnMarkOpensItsEntry :
    running demo = true ∧ running (demoIn .isolated) = false ∧ foundCause demo = none ∧ windowEntry demo = none ∧
    PerLane.get (votersAtMark demo) .one = true ∧ Lane.one ≠ ownLane demo ∧ demo.vote.table = [] ∧
    (foundCause (withBurst .proc none (.leave .memory none) demo)).isSome = true ∧
    (foundCause (withBurst (.background .copy) none (.damaged .link1 1 true) demo)).isSome = true ∧
    (windowEntry (after .ownMark demo)).isSome = true ∧ running (after .ownMark demo) = true ∧
    running (after .ownMark (after .ownMark demo)) = true ∧
    votersAtMark { demo with vote := { demo.vote with view := some ⟨.member, .excluded, .excluded⟩ } } =
      ⟨true, false, false⟩ ∧
    (after .ownMark { demo with vote := { demo.vote with view := some ⟨.member, .excluded, .excluded⟩ } }).vote.table =
      [] := by decide +kernel

/-- An entry with all three lanes present: lanes 0 and 1 equal in the one slot, lane 2 with another slot count. -/
def demoEntry : VoteEntry :=
  { cycle := 1, own := some [⟨1, 0⟩], voters := some ⟨true, true, true⟩,
    peers := ⟨none, some ⟨[⟨1, 0⟩], .member, ⟨.excluded, .member, .member⟩⟩, some ⟨[], .member, ⟨.member, .member, .member⟩⟩⟩,
    window := true, forming := false }

theorem witness_WindowExpiryVotesTheEntry :
    running (after .ownMark demo) = true ∧ (after .ownMark demo).vote.window.isSome = true ∧
    (windowEntry (after .ownMark demo)).map (fun e => lacksMajority (slotResults .zero e)) = some false ∧
    (windowEntry (after .ownMark demo)).map (fun e => notSeen .zero none e) = some false ∧
    (windowEntry (after .ownMark demo)).map (lateVoters .zero) = some [.one, .two] ∧
    (settings demo).lateThreshold = 3 ∧ demo.copy.serving = none ∧
    presentVoters .zero demoEntry = [.zero, .one, .two] ∧ slotResults .zero demoEntry = [.minority .two] ∧
    EqualInSlot .zero demoEntry 0 .zero .one ∧ ¬ EqualInSlot .zero demoEntry 0 .one .two ∧
    minorityLanes (slotResults .zero demoEntry) = [.two] ∧ notSeen .zero none demoEntry = true ∧
    notSeen .zero (some 3) demoEntry = false ∧ notSeen .zero (some (0 - 3)) demoEntry = true := by
  refine ⟨by decide +kernel, by decide +kernel, by decide +kernel, by decide +kernel, by decide +kernel, by decide +kernel,
    by decide +kernel, by decide, by decide, ⟨[⟨1, 0⟩], [⟨1, 0⟩], rfl, rfl, rfl, rfl, rfl⟩, ?_, by decide, by decide,
    by decide, by decide⟩
  rintro ⟨ps, qs, hp, hq, -, hl, -⟩
  have : qs = [] := by simpa [lanePairs, demoEntry, PerLane.get] using hq.symm
  simp [this, demoEntry] at hl

theorem witness_StallIsolatesTheLane : demo.vote.supervision.isSome = true ∧ running demo = true ∧
    (demoServing .hold).copy.serving.isSome = true := by decide +kernel

theorem witness_PermitTimerTogglesPermit : demo.lane.permitTimer.isSome = true ∧ (demoIn .forming).lane.permitTimer = none :=
  by decide +kernel

/-- The lane in its formation window. -/
def demoWindow : State := { demoIn .starting with lane := { (demoIn .starting).lane with formation := some 1 } }

theorem witness_FormationWindowStartsForming :
    demoWindow.lane.formation.isSome = true ∧ demoWindow.lane.state = .starting ∧ LinkPort.active demoWindow.link1 = true ∧
    demoWindow.link1.control.length < 8 ∧ demoWindow.link1.transmitter ≠ .resting := by decide +kernel

theorem witness_RetryAndRestoreStartAnAttempt :
    (demoIn .isolated).map.image.isSome = true ∧ (demoIn .isolated).lane.state = .isolated ∧
    (demoIn .isolated).lines.hold = true ∧ (demoIn .isolated).lines.supplyLow = false ∧
    nextToClear (demoIn .isolated) true 0 = some 0 ∧ demo.lane.state ≠ .isolated := by decide +kernel

theorem witness_SupplyLowHoldsAttemptsBack :
    demo.lines.supplyLow = false ∧ demo.lane.state ≠ .joining ∧ (demoJoining .copy).lane.state = .joining ∧
    ({ demoIn .isolated with lines := { demo.lines with supplyLow := true }, lane := { (demoIn .isolated).lane with
      retryDue := true } } : State).lane.retryDue = true := by decide +kernel

theorem witness_CopyEngineTimersEndTheirWaits :
    (demoJoining .copy).copy.progress.isSome = true ∧ (demoJoining .request).copy.secondAsked = false ∧
    (peers (demoJoining .request)).find? (fun k => decide (some k ≠ (demoJoining .request).copy.asked)) = some .two ∧
    ({ (demoJoining .request).copy with secondAsked := true } : CopyEngine).secondAsked = true ∧
    (demoServing .hold).copy.serving = some (.one, 5) ∧ (demoServing .hold).copy.holdTimer.isSome = true ∧
    (demoServing .hold).copy.tries + 1 < (settings demo).tryLimit ∧
    (settings demo).tryLimit ≤ ({ (demoServing .hold).copy with tries := 2 } : CopyEngine).tries + 1 ∧
    (demoServing .answer).copy.catchUp = .answer ∧
    (demoServing .answer).copy.progress.isSome = true ∧ (demoServing .answer).copy.phase = .none ∧
    portTo demo .one = some .link1 ∧ LinkPort.active demo.link1 = true ∧ demo.link1.control.length < 8 ∧
    demo.link1.transmitter ≠ .resting := by decide +kernel

theorem witness_AdmitIsOfferedAndVerified :
    (demoServing .hold).copy.catchUp = .hold ∧ (demoServing .hold).copy.dirty = [] ∧ (demoServing .hold).copy.job = none ∧
    portTo (demoServing .hold) .one = some .link1 ∧ LinkPort.active (demoServing .hold).link1 = true ∧
    (demoServing .hold).link1.transmitter ≠ .resting ∧ (demoServing .hold).copy.kept.isSome = true ∧
    (demoJoining .verify).copy.phase = .verify ∧ (demoJoining .verify).copy.received = none ∧
    failureFound (demoJoining .verify) = false ∧ laneCount (demoJoining .verify) = 3 ∧ laneCount demoTwo = 2 ∧
    (demoJoining .verify).sig.live = [⟨1, 0⟩, ⟨2, 0⟩] := by decide +kernel

/-- The lane with block 0 to repair, lane 1 asked for it. -/
def demoRepair : State :=
  { demo with copy := { demo.copy with repairs := [0], repair := some ⟨0, .one, false, false⟩, repairTimer := some 3 } }

theorem witness_RepairAsksPeersInTurn :
    running demo = true ∧ demo.map.lock = true ∧ demo.copy.repair = none ∧ foundCause demo = none ∧
    (foundCause (withBurst (.background .recv) none (.leave .repairDisagree none) demo)).isSome = true ∧
    ({ demo.copy with repairs := [0] } : CopyEngine).repairs.head? = some 0 ∧ repairPeers demo = [.one, .two] ∧
    repairPeers { demo with vote := { demo.vote with view := some ⟨.member, .excluded, .excluded⟩ } } = [] ∧
    demoRepair.copy.repairTimer.isSome = true ∧
    (repairPeers demoRepair).find? (fun k => decide (k ≠ Lane.one)) = some .two := by decide +kernel

theorem witness_TransmitterSendsControlBeforeBulk :
    LinkPort.active demo.link1 = true ∧ demo.link1.transmitter = .gap 40 ∧
    ({ demo.link1 with transmitter := .sending [0x5A] 5 } : LinkPort).transmitter = .sending [0x5A] 5 ∧
    ({ demo.link1 with transmitter := .resting } : LinkPort).control = [] ∧ demo.link1.bulk = [] ∧
    demo.link1.bulk.length + demo.link1.reserved < 4 ∧
    ¬ (List.replicate 8 (Frame.accept 1)).length < 8 ∧ LinkPort.active State.reset.link1 = false := by decide +kernel

theorem witness_ReceiverGathersAndHunts :
    (getPort demo .link1).running = true ∧ (getPort demo .link1).peer = some .one ∧
    (getPort demo .link1).gathering = false ∧ (0x00#8 ≠ 0x5A#8) ∧ FrameKind.ofCode? (0x77#8).toNat = none ∧
    FrameKind.ofCode? (0x01#8).toNat = some .signature ∧ (0x02#8).toNat ≠ Lane.number .one := by decide +kernel

theorem witness_SentFramesAreReceived :
    Frame.wellFormed (.nak 255 65535) = true ∧ (getPort demo .link1).running = true ∧
    (frameBytes 1 (.nak 255 65535)).getLast? ≠ some 0 ∧ demo.link1.received.length < 4 ∧
    ¬ (List.replicate 4 (Frame.accept 1)).length < 4 := by decide +kernel

theorem witness_SignatureIsStoredOrReported :
    running demo = true ∧ standing (demoIn .forming) .one = .member ∧ demo.lane.state = .member ∧
    (3#32 - demo.vote.counter).toNat ≤ 3 ∧ 3 < (4#32 - demo.vote.counter).toNat ∧ NoVoteDue demo ∧
    (4#32 - demo.vote.counter).toNat ≤ 2147483647 ∧ 2147483647 < (2147483648#32 - demo.vote.counter).toNat ∧
    ownEntry demo = none ∧ PerLane.get ({ demo.vote with lastLate := ⟨none, some 0, none⟩ } : VoteUnit).lastLate .one =
      some demo.vote.counter ∧ LaneState.isolated ≠ .member ∧ Lane.one ≠ ownLane demo ∧
    (ownEntry (after .ownMark demo)).map (·.window) = some true ∧ (demoIn .forming).lane.state = .forming ∧
    (demoIn .forming).vote.table = [] ∧ foundCause (demoIn .forming) = none ∧ running (demoIn .isolated) = false ∧
    demoWindow.lane.state = .starting ∧ demoWindow.lane.formation.isSome = true ∧ foundCause demoWindow = none := by
  unfold NoVoteDue; decide +kernel

theorem witness_StandingsFollowStateAndNotice :
    (getPort demo .link1).peer = some .one ∧ Lane.one ≠ ownLane demo ∧ standing demo .one = .member ∧ NoVoteDue demo ∧
    (demoIn .forming).lane.state = .forming ∧ (demoIn .forming).vote.table = [] ∧ foundCause (demoIn .forming) = none ∧
    standing { demo with vote := { demo.vote with view := some ⟨.member, .member, .joining⟩ } } .two = .joining ∧
    standing { demo with vote := { demo.vote with view := some ⟨.member, .member, .absent⟩ } } .two = .absent ∧
    laneCount demo = 3 ∧ laneCount demoTwo = 2 ∧ standing demoTwo .two = .absent ∧
    demo.lane.state ≠ .starting ∧ demo.lane.state ≠ .joining ∧ demoWindow.lane.state = .starting := by
  unfold NoVoteDue; decide +kernel

theorem witness_JoinIsRefusedOrServed :
    LinkPort.active demo.link1 = true ∧ demo.link1.control.length < 8 ∧ demo.link1.transmitter ≠ .resting ∧
    (demoIn .isolated).lane.state ≠ .member ∧ demo.map.image.map (·.digest) ≠ some ⟨0, 0⟩ ∧
    demo.map.image.map (·.digest) = some ⟨268, 795⟩ ∧ (demoServing .none).copy.serving = some (.one, 5) ∧
    Lane.one ≠ Lane.two ∧ demo.copy.serving = none ∧ portTo (demoServing .none) .one = some .link1 ∧
    (demoServing .none).lane.state = .member := by decide +kernel

theorem witness_AcceptAndRefuseAnswerTheJoin :
    currentAttempt .request .one 5 (demoJoining .request) = true ∧ (demoJoining .request).copy.phase ≠ .copy ∧
    currentAttempt .request .two 5 (demoJoining .request) = false ∧ demo.copy.phase ≠ .verify ∧
    demoRepair.copy.repair = some ⟨0, .one, false, false⟩ := by decide +kernel

theorem witness_BlocksAreTakenAndNaksQueued :
    currentAttempt .copy .one 5 (demoJoining .copy) = true ∧ isCopyable (demoJoining .copy) 1 = true ∧
    (demoJoining .copy).copy.received = none ∧ failureFound (demoJoining .copy) = false ∧
    failureFound (withBurst (.background .recv) none (.failAttempt .signatureBroken) (demoJoining .copy)) = true ∧
    ({ demo.copy with received := some (.block 1 []) } : CopyEngine).received ≠ none ∧ (demoServing .none).copy.serving = some (.one, 5) ∧
    behindCursor (demoServing .none) 1 = true ∧ (demoServing .none).lane.state ≠ .joining ∧ (0 : Nat) < 1 ∧
    (List.range 1).filter (fun x => decide (0 ≤ x) && isCopyable (demoJoining .copy) x) = [0] ∧
    LinkPort.active (demoJoining .copy).link1 = true ∧ (demoJoining .copy).link1.transmitter ≠ .resting := by
  decide +kernel

theorem witness_AdmitAndItsVerdicts :
    currentAttempt .copy .one 5 (demoJoining .copy) = true ∧ (demoServing .answer).lane.state = .member ∧
    verdictCounts .one 5 (demoServing .answer) = true ∧ verdictCounts .one 5 (demoServing .hold) = false := by
  decide +kernel

theorem witness_AbandonEndsTheAttempt :
    (demoJoining .copy).copy.asked = some .one ∧ (demoJoining .copy).copy.attempt = 5 ∧ demo.lane.state = .member ∧
    ({ demo.copy with admittedBy := some (.one, 5) } : CopyEngine).admittedBy = some (.one, 5) ∧
    (demoServing .none).copy.admittedBy ≠ some (.one, 5) ∧ (demoServing .none).copy.serving = some (.one, 5) ∧
    demo.copy.serving ≠ some (.one, 5) := by decide +kernel

theorem witness_FetchIsKeptAndFetchedTaken :
    demo.lane.state = .member ∧ (locate demo 0).map (·.policy.cls) = some .constant ∧ isConstantBlock demo 1 = false ∧
    (demoIn .isolated).lane.state ≠ .member ∧ LinkPort.active demo.link1 = true ∧ demoRepair.copy.received = none ∧
    failureFound demoRepair = false ∧ demoRepair.copy.repair = some ⟨0, .one, false, false⟩ ∧ demo.copy.repair = none ∧
    ({ demo.copy with received := some (.fetched 0 []) } : CopyEngine).received ≠ none := by decide +kernel

/-- The demo meets every law: the premises of the statements EveryStepKeeps…, whatever the law. -/
theorem witness_EveryStepKeepsItsLaw : SramLaw demo ∧ CutLaw demoCut ∧ SramLaw demoCut ∧ HoldLaw demo ∧ PermitLaw demo ∧
    TableLaw demo ∧ ReportLaw demo ∧ LinkLaw demo ∧ VoteTableLaw demo ∧ MirrorLaw demo ∧ ServingLaw demo ∧ RepairLaw demo ∧
    MapLaw demo ∧ PairLaw demo ∧ StartLaw demo := by
  refine ⟨by unfold SramLaw; decide +kernel, witness_PinResetCutsABurst.1, by unfold SramLaw; decide +kernel,
    by unfold HoldLaw; decide +kernel, by unfold PermitLaw; decide +kernel,
    by unfold TableLaw; decide +kernel, by unfold ReportLaw; decide +kernel,
    by unfold LinkLaw PortLaw; decide +kernel, ⟨by decide +kernel, by simp [demo, State.reset,
      State.afterReset], by decide +kernel⟩, ⟨by decide +kernel, by intro p; cases p <;> decide +kernel, by simp [demo,
      State.reset, State.afterReset]⟩, ⟨by decide +kernel, by simp [demo, State.reset, State.afterReset],
      by decide +kernel, by decide +kernel⟩, ⟨by decide +kernel, by decide +kernel, by simp [demo, State.reset,
      State.afterReset], by decide +kernel, by simp [demo, State.reset, State.afterReset]⟩, ?_, demo_pairs,
      ⟨by decide +kernel, by simp [demo, State.reset, State.afterReset], by decide +kernel⟩⟩
  rintro im ⟨⟩
  refine ⟨by decide, ?_, by rintro i k ⟨⟩; exact ⟨⟨1, 1, 1⟩, by decide⟩⟩
  intro i r h
  match i, h with
  | 0, h => obtain rfl : (⟨1, 1, 1⟩ : Region) = r := by simpa [demoImage] using h
            exact ⟨by decide, by intro b hb; obtain rfl : b = 1 := by simp [Region.covers] at hb; omega
                                 decide⟩
  | 1, h => obtain rfl : (⟨0, 1, 0⟩ : Region) = r := by simpa [demoImage] using h
            exact ⟨by decide, by intro b hb; obtain rfl : b = 0 := by simp [Region.covers] at hb; omega
                                 decide⟩
  | 2, h => obtain rfl : (⟨2, 1, 2⟩ : Region) = r := by simpa [demoImage] using h
            exact ⟨by decide, by intro b hb; obtain rfl : b = 2 := by simp [Region.covers] at hb; omega
                                 decide⟩
  | 3, h => obtain rfl : (⟨3, 1, 3⟩ : Region) = r := by simpa [demoImage] using h
            exact ⟨by decide, by intro b hb; obtain rfl : b = 3 := by simp [Region.covers] at hb; omega
                                 decide⟩
  | _ + 4, h => simp [demoImage] at h

/-- The two-lane demo meets the law of its absent lane, with an entry and a serving there, and the law beside it. -/
theorem witness_EveryStepKeepsTheVoteTable : AbsentLaw demoTwo ∧ StartLaw demoTwo ∧ laneCount demoTwo = 2 ∧
    demoTwo.vote.table ≠ [] ∧ demoTwo.copy.serving = some (.one, 5) ∧ (∃ t, step demoTwo = .next t) := by
  refine ⟨⟨by decide +kernel, fun _ => ⟨by decide +kernel, by decide +kernel, by intro p; cases p <;> decide +kernel, ?_, ?_⟩⟩,
    ⟨by decide +kernel, by simp [demoTwo, demo, State.reset, State.afterReset], by decide +kernel⟩, by decide +kernel,
    by decide +kernel, by decide +kernel, ⟨_, rfl⟩⟩
  · simp [demoTwo, PerLane.get]
  · simp [demoTwo]

/-- And it steps: the other premise of the statements EveryStepKeeps…. -/
theorem witness_EveryStepKeepsItsLaw_steps : ∃ t, step demo = .next t := ⟨_, rfl⟩

theorem witness_OnlyResetsClearTheLockAndTheMap : demo.map.lock = true ∧ isReset .ownMark = false ∧
    (∃ t, exec .ownMark demo = .next t) := ⟨by decide +kernel, rfl, ⟨_, rfl⟩⟩

end Sys2Proof.Machine
end

section
/-! SUPPORT. What the image loader reads out of its words, table by table, and when it accepts them (R155, R168). -/

namespace Sys2Proof.Machine

/-! The digest (R68). -/

theorem sigAdd_eq_mod {x d : Nat} (hx : x < Config.M) (hd : d < Config.M) : sigAdd x d = (x + d) % Config.M := by
  unfold sigAdd
  split
  · rw [Nat.mod_eq_sub_mod ‹_›, Nat.mod_eq_of_lt (by omega)]
  · rw [Nat.mod_eq_of_lt (by omega)]

theorem sigAdd_lt {x d : Nat} (hx : x < Config.M) (hd : d < Config.M) : sigAdd x d < Config.M := by
  rw [sigAdd_eq_mod hx hd]; exact Nat.mod_lt _ (by decide)

theorem word_toNat_lt_M (w : Word) : w.toNat < Config.M :=
  lt_trans w.isLt (by decide)

/-- Words weighted by their positions counted from `p + 1` (R55). -/
def weightedSum : Nat → List Word → Nat
  | _, [] => 0
  | p, w :: ws => (p + 1) * w.toNat + weightedSum (p + 1) ws

/-- A signature is the two sums of R55, each modulo M. -/
theorem foldWords_eq {pr : Pair} (ha : pr.a < Config.M) (hb : pr.b < Config.M) (p : Nat) (ws : List Word) :
    foldWords pr p ws = { a := (pr.a + (ws.map BitVec.toNat).sum) % Config.M
                          b := (pr.b + weightedSum p ws) % Config.M } := by
  induction ws generalizing pr p with
  | nil => simp [foldWords, weightedSum, Nat.mod_eq_of_lt ha, Nat.mod_eq_of_lt hb]
  | cons w ws ih =>
    have hw := word_toNat_lt_M w
    have hm : (p + 1) * w.toNat % Config.M < Config.M := Nat.mod_lt _ (by decide)
    rw [foldWords, ih (sigAdd_lt ha hw) (sigAdd_lt hb hm)]
    simp only [pairAdd, sigMul, weightedSum, sigAdd_eq_mod ha hw, sigAdd_eq_mod hb hm, List.map_cons, List.sum_cons,
      Nat.add_mod_mod, Nat.mod_add_mod, ← Nat.add_assoc]

theorem weightedSum_append (p : Nat) (ws : List Word) (w : Word) :
    weightedSum p (ws ++ [w]) = weightedSum p ws + (p + ws.length + 1) * w.toNat := by
  induction ws generalizing p with
  | nil => simp [weightedSum]
  | cons v vs ih => simp only [List.cons_append, weightedSum, ih, List.length_cons]; ring

theorem weightedSum_map_range (f : Nat → Word) (n : Nat) :
    weightedSum 0 ((List.range n).map f) = ((List.range n).map (fun i => (i + 1) * (f i).toNat)).sum := by
  induction n with
  | zero => rfl
  | succ n ih => simp [List.range_succ, weightedSum_append, ih]

theorem digestOf_map_range (words : List Word) :
    digestOf ((List.range 89).map (imageWord words)) = digestRead words := by
  unfold digestOf signatureOf digestRead
  rw [foldWords_eq (by decide) (by decide), weightedSum_map_range, List.map_map]
  simp only [Nat.zero_add]
  rfl

/-! Runs of words (R168). -/

theorem run_eq_map_imageWord {words : List Word} (h : 93 ≤ words.length) {a n : Nat} (ha : a + n ≤ 93) :
    ((words.take 93).drop a).take n = (List.range n).map (fun k => imageWord words (a + k)) := by
  refine List.ext_getElem (by simp; omega) fun i h₁ h₂ => ?_
  have hi : i < n := by simpa using h₂
  simp [imageWord, List.getD_eq_getElem?_getD, List.getElem?_eq_getElem (show a + i < words.length by omega)]

theorem take_getD_eq_imageWord (words : List Word) {i : Nat} (h : i < 93) :
    (words.take 93).getD i 0 = imageWord words i := by
  simp [imageWord, List.getD_eq_getElem?_getD, h]

/-! The memory size (R1, R17). -/

theorem linesOfSize?_eq_some {c lines : Nat} : linesOfSize? c = some lines ↔ 1 ≤ c ∧ c ≤ 4 ∧ lines = 17 + c := by
  match c with
  | 0 => simp [linesOfSize?]
  | 1 | 2 | 3 | 4 => simp [linesOfSize?, eq_comm]
  | n + 5 => simp only [linesOfSize?, reduceCtorEq, false_iff]; omega

theorem blocksOfLines_eq {c : Nat} (h₁ : 1 ≤ c) (h₄ : c ≤ 4) : blocksOfLines (17 + c) = 4096 * 2 ^ (c - 1) := by
  interval_cases c <;> decide

/-! Policies (R5). -/

/-- The class of a class code (R168). -/
def classOfCode? : Nat → Option RegionClass
  | 1 => some .constant
  | 2 => some .voted
  | 3 => some .plain
  | 4 => some .log
  | _ => none

/-- The reporting field of its code (R168). -/
def reportingOfCode? : Nat → Option Reporting
  | 1 => some .every
  | 2 => some .firstPerPass
  | 3 => some .none
  | _ => none

/-- A field of code 1 or 2 that says yes by the code `yes` (R168). -/
def flagOfCode? (yes : Nat) : Nat → Option Bool
  | 1 => some (decide (yes = 1))
  | 2 => some (decide (yes = 2))
  | _ => none

theorem flagOfCode?_eq_some {yes c : Nat} {b : Bool} :
    flagOfCode? yes c = some b ↔ (c = 1 ∨ c = 2) ∧ b = decide (c = yes) := by
  unfold flagOfCode?
  split <;> simp_all [eq_comm]

/-- The copy field as effective: the class's where the class fixes it (R5). -/
def effectiveCopy (cls : RegionClass) (copy : Bool) : Bool :=
  match cls with
  | .constant => true
  | .voted => true
  | .plain => copy
  | .log => false

theorem policyOfWord?_eq_some {w : Word} {p : Policy} :
    policyOfWord? w = some p ↔
      classOfCode? (bitField w 0 3) = some p.cls ∧ reportingOfCode? (bitField w 12 2) = some p.reporting ∧
      (bitField w 4 2 = 1 ∨ bitField w 4 2 = 2) ∧ (bitField w 8 2 = 1 ∨ bitField w 8 2 = 2) ∧
      p.copy = effectiveCopy p.cls (decide (bitField w 4 2 = 1)) ∧
      p.isolates = (decide (bitField w 8 2 = 2) && decide (p.cls = .plain)) := by
  have hw : policyOfWord? w =
      match classOfCode? (bitField w 0 3), flagOfCode? 1 (bitField w 4 2), flagOfCode? 2 (bitField w 8 2),
        reportingOfCode? (bitField w 12 2) with
      | some cls, some copy, some act, some rep =>
        some { cls := cls, copy := effectiveCopy cls copy, isolates := act && decide (cls = .plain), reporting := rep }
      | _, _, _, _ => none := rfl
  rw [hw]
  constructor
  · intro h
    split at h
    case h_1 cls copy act rep hc hy hx hr =>
      obtain ⟨hy', rfl⟩ := flagOfCode?_eq_some.1 hy
      obtain ⟨hx', rfl⟩ := flagOfCode?_eq_some.1 hx
      obtain rfl := Option.some.inj h
      exact ⟨hc, hr, hy', hx', rfl, rfl⟩
    case h_2 => cases h
  · obtain ⟨cls, copy, isolates, reporting⟩ := p
    rintro ⟨hc, hr, hy, hx, hcopy, hiso⟩
    rw [hc, hr, flagOfCode?_eq_some.2 ⟨hy, rfl⟩, flagOfCode?_eq_some.2 ⟨hx, rfl⟩]
    obtain rfl : copy = effectiveCopy cls (decide (bitField w 4 2 = 1)) := hcopy
    obtain rfl : isolates = (decide (bitField w 8 2 = 2) && decide (cls = .plain)) := hiso
    rfl

theorem policyOfWord?_isSome {w : Word} :
    (policyOfWord? w).isSome = true ↔
      bitField w 0 3 ∈ [1, 2, 3, 4] ∧ bitField w 4 2 ∈ [1, 2] ∧ bitField w 8 2 ∈ [1, 2] ∧
        bitField w 12 2 ∈ [1, 2, 3] := by
  have hc : (∃ cls, classOfCode? (bitField w 0 3) = some cls) ↔ bitField w 0 3 ∈ [1, 2, 3, 4] := by
    unfold classOfCode?; split <;> simp_all
  have hr : (∃ rep, reportingOfCode? (bitField w 12 2) = some rep) ↔ bitField w 12 2 ∈ [1, 2, 3] := by
    unfold reportingOfCode?; split <;> simp_all
  rw [Option.isSome_iff_exists, ← hc, ← hr]
  simp only [policyOfWord?_eq_some, List.mem_cons, List.not_mem_nil, or_false]
  constructor
  · rintro ⟨p, hc, hr, hy, hx, -, -⟩
    exact ⟨⟨_, hc⟩, hy, hx, _, hr⟩
  · rintro ⟨⟨cls, hc⟩, hy, hx, rep, hr⟩
    exact ⟨⟨cls, effectiveCopy cls (decide (bitField w 4 2 = 1)), decide (bitField w 8 2 = 2) && decide (cls = .plain), rep⟩, hc, hr, hy, hx, rfl, rfl⟩

theorem policiesOfWords?_eq_some {ws : List Word} {ps : List Policy} :
    policiesOfWords? ws = some ps ↔ ws.map policyOfWord? = ps.map some := by
  induction ws generalizing ps with
  | nil => cases ps <;> simp [policiesOfWords?]
  | cons w ws ih =>
    simp only [policiesOfWords?, List.map_cons]
    cases hw : policyOfWord? w <;> cases hs : policiesOfWords? ws <;> cases ps <;> simp_all

/-! Regions (R2). -/

theorem regionsOfWords_map_range (f : Nat → Word) (n : Nat) :
    regionsOfWords ((List.range (2 * n)).map f) = (List.range n).map (fun i =>
      { first := bitField (f (2 * i)) 0 16, count := bitField (f (2 * i + 1)) 0 17
        policy := bitField (f (2 * i + 1)) 24 4 }) := by
  induction n generalizing f with
  | zero => rfl
  | succ n ih =>
    have := ih (fun i => f (i + 2))
    rw [show 2 * (n + 1) = 2 * n + 1 + 1 by ring, List.range_succ_eq_map, List.range_succ_eq_map,
      List.range_succ_eq_map]
    simpa [regionsOfWords, Function.comp_def, Nat.mul_add] using this

theorem regionsRead_length (words : List Word) : (regionsRead words).length = bitField (imageWord words 2) 16 6 := by
  simp [regionsRead]

theorem regionsOfWords_eq_regionsRead {words : List Word} (h : 93 ≤ words.length)
    (hn : bitField (imageWord words 2) 16 6 ≤ 32) :
    regionsOfWords (((words.take 93).drop 25).take (2 * bitField (imageWord words 2) 16 6)) = regionsRead words := by
  rw [run_eq_map_imageWord h (by omega), regionsOfWords_map_range]
  simp only [regionsRead, show ∀ i, 25 + (2 * i + 1) = 26 + 2 * i by intro i; omega]

theorem apart_iff {r q : Region} (hr : 1 ≤ r.count) (hq : 1 ≤ q.count) :
    Region.apart r q = true ↔ ∀ b, ¬ (Region.covers r b = true ∧ Region.covers q b = true) := by
  simp only [Region.apart, Region.covers, Bool.or_eq_true, Bool.and_eq_true, decide_eq_true_eq]
  constructor
  · omega
  · intro h
    have h₁ := h r.first
    have h₂ := h q.first
    omega

theorem regionsApart_iff (rs : List Region) :
    regionsApart rs = true ↔ rs.Pairwise (fun r q => Region.apart r q = true) := by
  induction rs with
  | nil => simp [regionsApart]
  | cons r rs ih => simp [regionsApart, ih]

theorem apart_comm (r q : Region) : Region.apart r q = Region.apart q r := by
  simp [Region.apart, Bool.or_comm]

/-- The regions share no block exactly if no two of them both cover one (R2). -/
theorem regionsApart_iff_covers {rs : List Region} (hc : ∀ r ∈ rs, 1 ≤ r.count) :
    regionsApart rs = true ↔ ∀ (i j : Nat) (r q : Region), rs[i]? = some r → rs[j]? = some q → i ≠ j →
      ∀ b, ¬ (Region.covers r b = true ∧ Region.covers q b = true) := by
  rw [regionsApart_iff, List.pairwise_iff_getElem]
  constructor
  · intro h i j r q hi hj hij
    obtain ⟨hi', rfl⟩ := List.getElem?_eq_some_iff.1 hi
    obtain ⟨hj', rfl⟩ := List.getElem?_eq_some_iff.1 hj
    refine (apart_iff (hc _ (List.getElem_mem hi')) (hc _ (List.getElem_mem hj'))).1 ?_
    rcases Nat.lt_or_gt_of_ne hij with hlt | hlt
    · exact h i j hi' hj' hlt
    · rw [apart_comm]; exact h j i hj' hi' hlt
  · intro h i j hi hj hij
    exact (apart_iff (hc _ (List.getElem_mem hi)) (hc _ (List.getElem_mem hj))).2
      (h i j _ _ (List.getElem?_eq_getElem hi) (List.getElem?_eq_getElem hj) (by omega))

/-! Classes (R3). -/

theorem countP_le_one_iff_pairwise {α : Type} (p : α → Bool) (l : List α) :
    l.countP p ≤ 1 ↔ l.Pairwise (fun x y => ¬ (p x = true ∧ p y = true)) := by
  induction l with
  | nil => simp
  | cons a l ih =>
    rw [List.pairwise_cons, ← ih]
    by_cases ha : p a = true
    · have h0 : (∀ y ∈ l, ¬ p y = true) ↔ l.countP p = 0 := List.countP_eq_zero.symm
      simp only [List.countP_cons_of_pos ha, ha, true_and, h0]
      omega
    · simp [List.countP_cons_of_neg ha, ha]

theorem countP_le_one_iff {α : Type} (p : α → Bool) (l : List α) :
    l.countP p ≤ 1 ↔ ∀ (i j : Nat) (x y : α), l[i]? = some x → l[j]? = some y → p x = true → p y = true → i = j := by
  rw [countP_le_one_iff_pairwise, List.pairwise_iff_getElem]
  constructor
  · intro h i j x y hi hj hx hy
    obtain ⟨hi', rfl⟩ := List.getElem?_eq_some_iff.1 hi
    obtain ⟨hj', rfl⟩ := List.getElem?_eq_some_iff.1 hj
    rcases Nat.lt_trichotomy i j with hlt | he | hlt
    · exact absurd ⟨hx, hy⟩ (h i j hi' hj' hlt)
    · exact he
    · exact absurd ⟨hy, hx⟩ (h j i hj' hi' hlt)
  · rintro h i j hi hj hij ⟨hx, hy⟩
    have := h i j _ _ (List.getElem?_eq_getElem hi) (List.getElem?_eq_getElem hj) hx hy
    omega

/-! Settings (R156). -/

theorem clamp_eq {lo hi : Nat} (h : lo ≤ hi) (v : Nat) : clamp (lo, hi) v = max lo (min v hi) := by
  simp only [clamp]; split <;> [skip; split] <;> omega

/-- The thirteen settings as their words give them, clamped (R156, R168). -/
def settingsRead (words : List Word) : Settings :=
  { waitLimit := max 1 (min (imageWord words 4).toNat 255)
    patrolInterval := max 10 (min (imageWord words 5).toNat 65535)
    linkDivisor := max 4 (min (imageWord words 6).toNat 255)
    voteWindow := max 1 (min (imageWord words 7).toNat 255)
    cycleLimit := max 10 (min (imageWord words 8).toNat 2550)
    lateThreshold := max 1 (min (imageWord words 9).toNat 7)
    attemptLimit := min (imageWord words 10).toNat 15
    retryDelay := max 1 (min (imageWord words 11).toNat 255)
    formationWindow := max 10 (min (imageWord words 12).toNat 2550)
    progressLimit := max 1 (min (imageWord words 13).toNat 255)
    catchUpThreshold := min (imageWord words 14).toNat 64
    holdLimit := max 1 (min (imageWord words 15).toNat 255)
    tryLimit := max 1 (min (imageWord words 16).toNat 15) }

/-- The settings in the order of R156. -/
def Settings.toList (x : Settings) : List Nat :=
  [x.waitLimit, x.patrolInterval, x.linkDivisor, x.voteWindow, x.cycleLimit, x.lateThreshold, x.attemptLimit,
    x.retryDelay, x.formationWindow, x.progressLimit, x.catchUpThreshold, x.holdLimit, x.tryLimit]

/-- The thirteen setting words (R168). -/
def rawSettings (words : List Word) : List Nat := (List.range 13).map (fun k => (imageWord words (4 + k)).toNat)

theorem zipWith_clamp_rawSettings (words : List Word) :
    List.zipWith clamp Config.settingRanges (rawSettings words) = (settingsRead words).toList := by
  simp [rawSettings, List.range_succ, Config.settingRanges, clamp_eq, Settings.toList, settingsRead]

theorem settingsOf_toList (x : Settings) : settingsOf x.toList = some x := rfl

/-! The loader (R155). -/

/-- What the loader has checked of the words of an image it accepts, and what it has put into the image (R155, R168). -/
structure ReadsAs (straps : Nat) (words : List Word) (im : Image) : Prop where
  long : 93 ≤ words.length
  mark : imageWord words 0 = Config.formatMark
  count : (imageWord words 1).toNat = 93
  sumA : (imageWord words 89).toNat + 2 ^ 32 * (imageWord words 90).toNat = (digestRead words).a
  sumB : (imageWord words 91).toNat + 2 ^ 32 * (imageWord words 92).toNat = (digestRead words).b
  some_region : 1 ≤ (regionsRead words).length
  regions_le : (regionsRead words).length ≤ 32
  inRange : im.regions.all (Region.inRange (blocksOfLines im.lines)) = true
  apart : regionsApart im.regions = true
  classes : classesInRange im.policies im.regions = true
  lanes : im.laneCount = 2 ∨ im.laneCount = 3
  straps_lt : straps < im.laneCount
  lines : linesOfSize? (bitField (imageWord words 2) 0 3) = some im.lines
  policies : (List.range 8).map (fun k => policyOfWord? (imageWord words (17 + k))) = im.policies.map some
  regions : im.regions = regionsRead words
  settings : im.settings = settingsRead words
  laneCount : im.laneCount = bitField (imageWord words 2) 8 4
  fill : im.fill = imageWord words 3
  digest : im.digest = digestRead words
  clamped : im.clamped = List.zipWith (fun c r => decide (c ≠ r)) (settingsRead words).toList (rawSettings words)

theorem loadImage?_of_short {straps : Nat} {words : List Word} (h : words.length < 93) :
    loadImage? straps words = none := by
  have hw : ¬ (words.take Config.imageWords).length = Config.imageWords := by
    simp only [List.length_take, Config.imageWords]; omega
  simp only [loadImage?, hw, false_and, if_false]
  split <;> rfl

theorem loadImage?_eq_some {straps : Nat} {words : List Word} {im : Image} :
    loadImage? straps words = some im ↔ ReadsAs straps words im := by
  rcases Nat.lt_or_ge words.length 93 with hs | hl
  · rw [loadImage?_of_short hs]
    exact ⟨nofun, fun h => absurd h.long (by omega)⟩
  have hraw : (((words.take 93).drop 4).take 13).map BitVec.toNat = rawSettings words := by
    rw [run_eq_map_imageWord hl (by decide), List.map_map]; rfl
  have hdig : digestOf ((words.take 93).take 89) = digestRead words := by
    have := run_eq_map_imageWord (a := 0) hl (show 0 + 89 ≤ 93 by decide)
    simp only [List.drop_zero, Nat.zero_add] at this
    rw [this]; exact digestOf_map_range words
  have hpol : ((words.take 93).drop 17).take 8 = (List.range 8).map (fun k => imageWord words (17 + k)) :=
    run_eq_map_imageWord hl (by decide)
  have hlen : (words.take 93).length = 93 := by simp; omega
  have hat : ∀ i < 93, (words.take 93).getD i 0 = imageWord words i := fun i hi => take_getD_eq_imageWord words hi
  have hread : loadImage? straps words =
      match linesOfSize? (bitField (imageWord words 2) 0 3),
        policiesOfWords? ((List.range 8).map (fun k => imageWord words (17 + k))) with
      | some lines, some policies =>
        let n := bitField (imageWord words 2) 16 6
        let regions := regionsOfWords (((words.take 93).drop 25).take (2 * n))
        let lanes := bitField (imageWord words 2) 8 4
        if imageWord words 0 = Config.formatMark ∧ (imageWord words 1).toNat = 93 ∧
            (imageWord words 89).toNat + 2 ^ 32 * (imageWord words 90).toNat = (digestRead words).a ∧
            (imageWord words 91).toNat + 2 ^ 32 * (imageWord words 92).toNat = (digestRead words).b ∧
            1 ≤ n ∧ n ≤ 32 ∧ regions.all (Region.inRange (blocksOfLines lines)) = true ∧ regionsApart regions = true ∧
            classesInRange policies regions = true ∧ (lanes = 2 ∨ lanes = 3) ∧ straps < lanes then
          some { lines := lines, laneCount := lanes, fill := imageWord words 3, settings := settingsRead words
                 policies := policies, regions := regions, digest := digestRead words
                 clamped := List.zipWith (fun c r => decide (c ≠ r)) (settingsRead words).toList (rawSettings words) }
        else none
      | _, _ => none := by
    simp only [loadImage?, Config.imageWords, hraw, hdig, hpol, hlen, zipWith_clamp_rawSettings, settingsOf_toList,
      hat _ (show 0 < 93 by decide), hat _ (show 1 < 93 by decide), hat _ (show 2 < 93 by decide),
      hat _ (show 3 < 93 by decide), hat _ (show 89 < 93 by decide), hat _ (show 90 < 93 by decide),
      hat _ (show 91 < 93 by decide), hat _ (show 92 < 93 by decide), true_and]
    generalize linesOfSize? _ = x, policiesOfWords? _ = y
    cases x <;> cases y <;> rfl
  rw [hread]
  constructor
  · intro h
    split at h
    case h_2 => cases h
    case h_1 lines policies hli hpo =>
      dsimp only at h
      split at h
      case isFalse => cases h
      case isTrue hv =>
        obtain ⟨hm, hc, ha, hb, h1, h32, hin, hap, hcl, hla, hst⟩ := hv
        rw [regionsOfWords_eq_regionsRead hl h32] at h hin hap hcl
        rw [← regionsRead_length] at h1 h32
        obtain rfl := Option.some.inj h
        exact ⟨hl, hm, hc, ha, hb, h1, h32, hin, hap, hcl, hla, hst, hli,
          by rw [← policiesOfWords?_eq_some.1 hpo, List.map_map]; rfl, rfl, rfl, rfl, rfl, rfl, rfl⟩
  · intro h
    have hpo : policiesOfWords? ((List.range 8).map (fun k => imageWord words (17 + k))) = some im.policies :=
      policiesOfWords?_eq_some.2 (by rw [List.map_map]; exact h.policies)
    have h1 := h.some_region
    have h32 := h.regions_le
    rw [regionsRead_length] at h1 h32
    simp only [h.lines, hpo, regionsOfWords_eq_regionsRead hl h32, ← h.regions, ← h.laneCount]
    rw [if_pos ⟨h.mark, h.count, h.sumA, h.sumB, h1, h32, h.inRange, h.apart, h.classes, h.lanes, h.straps_lt⟩]
    rw [← h.clamped, ← h.settings, ← h.fill, ← h.digest]

/-! What the tables of an accepted image answer. -/

theorem ReadsAs.policy {straps : Nat} {words : List Word} {im : Image} (h : ReadsAs straps words im) {k : Nat}
    (hk : k < 8) : ∃ p, im.policies[k]? = some p ∧ policyOfWord? (imageWord words (17 + k)) = some p := by
  have hget := congrArg (fun l => l[k]?) h.policies
  simp only [List.getElem?_map, List.getElem?_range hk, Option.map_some] at hget
  cases hp : im.policies[k]? with
  | none => simp [hp] at hget
  | some p => exact ⟨p, rfl, by simpa [hp] using hget⟩

theorem ReadsAs.policies_length {straps : Nat} {words : List Word} {im : Image} (h : ReadsAs straps words im) :
    im.policies.length = 8 := by
  simpa using (congrArg List.length h.policies).symm

theorem classOfCode?_code {c : Nat} {cls : RegionClass} (h : classOfCode? c = some cls) :
    (cls = .constant ↔ c = 1) ∧ (cls = .voted ↔ c = 2) ∧ (cls = .plain ↔ c = 3) ∧ (cls = .log ↔ c = 4) := by
  unfold classOfCode? at h
  split at h <;> simp_all <;> subst h <;> simp

theorem reportingOfCode?_code {c : Nat} {rep : Reporting} (h : reportingOfCode? c = some rep) :
    (rep = .every ↔ c = 1) ∧ (rep = .firstPerPass ↔ c = 2) ∧ (rep = .none ↔ c = 3) := by
  unfold reportingOfCode? at h
  split at h <;> simp_all <;> subst h <;> simp

/-- The class that a region's policy number gives, by the code of its policy word (R5, R168). -/
theorem ReadsAs.class {straps : Nat} {words : List Word} {im : Image} (h : ReadsAs straps words im) {r : Region}
    (hr : r.policy ≤ 7) : ∃ cls, classOf im.policies r = some cls ∧ (Image.policyOf im r).cls = cls ∧
      classOfCode? (classCode words r.policy) = some cls := by
  obtain ⟨p, hp, hw⟩ := h.policy (k := r.policy) (by omega)
  exact ⟨p.cls, by simp [classOf, hp], by simp [Image.policyOf, List.getD_eq_getElem?_getD, hp],
    (policyOfWord?_eq_some.1 hw).1⟩

theorem inRange_iff {blocks : Nat} {r : Region} :
    Region.inRange blocks r = true ↔ 1 ≤ r.count ∧ r.count ≤ 32768 ∧ r.first + r.count ≤ blocks ∧ r.policy ≤ 7 := by
  simp [Region.inRange, and_assoc]

theorem ReadsAs.region {straps : Nat} {words : List Word} {im : Image} (h : ReadsAs straps words im) {r : Region}
    (hr : r ∈ im.regions) : 1 ≤ r.count ∧ r.count ≤ 32768 ∧ r.first + r.count ≤ blocksOfLines im.lines ∧ r.policy ≤ 7 :=
  inRange_iff.1 (List.all_eq_true.1 h.inRange r hr)

/-- A block that a region covers is located in that region: no other covers it (R2, R9). -/
theorem ReadsAs.locate_of_covers {straps : Nat} {words : List Word} {im : Image} (h : ReadsAs straps words im) {i : Nat}
    {r : Region} (hr : im.regions[i]? = some r) {b : Nat} (hb : Region.covers r b = true) :
    Image.locate im b = Image.locateRegion im i := by
  have hap := (regionsApart_iff_covers fun r hr => (h.region hr).1).1 h.apart
  obtain ⟨hi, hri⟩ := List.getElem?_eq_some_iff.1 hr
  have hfind : im.regions.findIdx? (fun r => Region.covers r b) = some i := by
    rw [List.findIdx?_eq_some_iff_getElem]
    refine ⟨hi, by rw [hri]; exact hb, fun j hj hc => ?_⟩
    exact hap j i _ _ (List.getElem?_eq_getElem (by omega)) hr (by omega) b ⟨hc, hb⟩
  simp only [Image.locate, hfind]

theorem countP_zipIdx {α : Type} (p : α → Bool) (l : List α) (n : Nat) :
    (l.zipIdx n).countP (fun x => p x.1) = l.countP p := by
  induction l generalizing n with
  | nil => rfl
  | cons a l ih => simp [List.zipIdx_cons, List.countP_cons, ih]

theorem slotRegions_length (im : Image) : (Image.slotRegions im).length = im.regions.countP (Image.isSignature im) := by
  rw [← countP_zipIdx (Image.isSignature im) im.regions 0, Image.slotRegions, ← List.countP_eq_length_filter,
    List.countP_map]
  rfl

/-- The class limits of R3, read off the class codes of the policy words. -/
theorem classesInRange_iff {words : List Word} {policies : List Policy} {rs : List Region}
    (h : ∀ r ∈ rs, classOf policies r = classOfCode? (classCode words r.policy)) :
    classesInRange policies rs = true ↔
      rs.countP (fun r => decide (classCode words r.policy ∈ [1, 2])) ≤ 16 ∧
      ∀ (i j : Nat) (r q : Region), rs[i]? = some r → rs[j]? = some q → classCode words r.policy = 4 →
        classCode words q.policy = 4 → i = j ∧ r.count ≤ 64 := by
  have hsig : rs.countP (fun r => classOf policies r == some .constant || classOf policies r == some .voted) =
      rs.countP (fun r => decide (classCode words r.policy ∈ [1, 2])) := by
    refine List.countP_congr fun r hr => ?_
    rw [h r hr]
    unfold classOfCode?; split <;> simp_all
  have hlog : ∀ r ∈ rs, (classOf policies r == some .log) = true ↔ classCode words r.policy = 4 := by
    intro r hr
    rw [h r hr]
    unfold classOfCode?; split <;> simp_all
  simp only [classesInRange, Bool.and_eq_true, decide_eq_true_eq, hsig, List.all_eq_true, Bool.or_eq_true,
    Bool.not_eq_true', countP_le_one_iff, and_assoc]
  refine and_congr_right fun _ => ⟨?_, ?_⟩
  · rintro ⟨hone, hlen⟩ i j r q hi hj hr hq
    have hri := List.mem_of_getElem? hi
    have hrl := (hlog r hri).2 hr
    refine ⟨hone i j r q hi hj hrl ((hlog q (List.mem_of_getElem? hj)).2 hq), ?_⟩
    rcases hlen r hri with hn | hle
    · rw [hrl] at hn; cases hn
    · exact hle
  · refine fun hall => ⟨fun i j r q hi hj hr hq => ?_, fun r hr => ?_⟩
    · exact (hall i j r q hi hj ((hlog r (List.mem_of_getElem? hi)).1 hr) ((hlog q (List.mem_of_getElem? hj)).1 hq)).1
    · obtain ⟨i, hi⟩ := List.mem_iff_getElem?.1 hr
      cases hl : classOf policies r == some .log with
      | false => exact .inl rfl
      | true => exact .inr (hall i i r r hi hi ((hlog r hr).1 hl) ((hlog r hr).1 hl)).2

theorem ReadsAs.classOf_eq {straps : Nat} {words : List Word} {im : Image} (h : ReadsAs straps words im) :
    ∀ r ∈ regionsRead words, classOf im.policies r = classOfCode? (classCode words r.policy) := by
  rw [← h.regions]
  intro r hr
  obtain ⟨cls, hc, -, hcode⟩ := h.class (h.region hr).2.2.2
  rw [hc, hcode]

/-! The accepted words are exactly those of R155. -/

theorem ReadsAs.isValid {straps : Nat} {words : List Word} {im : Image} (h : ReadsAs straps words im) :
    ImageIsValid straps words := by
  obtain ⟨hsize, hsize', hlines⟩ := linesOfSize?_eq_some.1 h.lines
  have hclasses := (classesInRange_iff h.classOf_eq).1 (h.regions ▸ h.classes)
  have hreg := @ReadsAs.region _ _ _ h
  rw [h.regions, hlines, blocksOfLines_eq hsize hsize'] at hreg
  refine ⟨⟨h.long, h.mark, BitVec.eq_of_toNat_eq h.count⟩, ⟨h.sumA, h.sumB⟩, ⟨hsize, hsize'⟩,
    ⟨h.some_region, h.regions_le⟩, fun r hr => ?_, ?_, fun k hk => ?_, hclasses.1, hclasses.2, ?_⟩
  · obtain ⟨h1, h2, h3, h4⟩ := hreg hr
    exact ⟨h1, h2, h4, h3⟩
  · exact (regionsApart_iff_covers fun r hr => (hreg hr).1).1 (h.regions ▸ h.apart)
  · obtain ⟨p, -, hp⟩ := h.policy hk
    exact policyOfWord?_isSome.1 (by simp [hp])
  · exact h.laneCount ▸ ⟨h.lanes, h.straps_lt⟩

theorem ImageIsValid.readsAs {straps : Nat} {words : List Word} (h : ImageIsValid straps words) :
    ∃ im, ReadsAs straps words im := by
  have hsome : ∀ k < 8, ∃ p, policyOfWord? (imageWord words (17 + k)) = some p := fun k hk =>
    Option.isSome_iff_exists.1 (policyOfWord?_isSome.2 (h.policies k hk))
  have hget : ∀ k < 8, policyOfWord? (imageWord words (17 + k)) =
      some ((policyOfWord? (imageWord words (17 + k))).getD noPolicy) := by
    intro k hk
    obtain ⟨p, hp⟩ := hsome k hk
    simp [hp]
  have hclass : ∀ r ∈ regionsRead words,
      classOf ((List.range 8).map fun k => (policyOfWord? (imageWord words (17 + k))).getD noPolicy) r =
        classOfCode? (classCode words r.policy) := by
    intro r hr
    have hk : r.policy < 8 := by have := (h.regions r hr).2.2.1; omega
    obtain ⟨p, hp⟩ := hsome _ hk
    simp [classOf, hk, hp, classCode, (policyOfWord?_eq_some.1 hp).1]
  refine ⟨{ lines := 17 + bitField (imageWord words 2) 0 3, laneCount := bitField (imageWord words 2) 8 4
            fill := imageWord words 3, settings := settingsRead words, regions := regionsRead words
            policies := (List.range 8).map fun k => (policyOfWord? (imageWord words (17 + k))).getD noPolicy
            digest := digestRead words
            clamped := List.zipWith (fun c r => decide (c ≠ r)) (settingsRead words).toList (rawSettings words) }, ?_⟩
  refine ⟨h.format.1, h.format.2.1, by rw [h.format.2.2]; rfl, h.digest.1, h.digest.2, h.regionCount.1, h.regionCount.2,
    List.all_eq_true.2 fun r hr => inRange_iff.2 ?_,
    (regionsApart_iff_covers fun r hr => (h.regions r hr).1).2 h.apart,
    (classesInRange_iff hclass).2 ⟨h.slots, h.log⟩, h.lanes.1, h.lanes.2,
    linesOfSize?_eq_some.2 ⟨h.size.1, h.size.2, rfl⟩, ?_, rfl, rfl, rfl, rfl, rfl, rfl⟩
  · obtain ⟨h1, h2, h3, h4⟩ := h.regions r hr
    exact ⟨h1, h2, by rw [blocksOfLines_eq h.size.1 h.size.2]; exact h4, h3⟩
  · rw [List.map_map]
    exact List.map_congr_left fun k hk => hget k (List.mem_range.1 hk)

/-! What an accepted image holds. -/

theorem ReadsAs.slots_le {straps : Nat} {words : List Word} {im : Image} (h : ReadsAs straps words im) :
    (Image.slotRegions im).length ≤ 16 := by
  rw [slotRegions_length, h.regions]
  refine le_trans (le_of_eq (List.countP_congr fun r hr => ?_)) h.isValid.slots
  obtain ⟨cls, -, hcls, hcode⟩ := h.class (h.region (h.regions ▸ hr)).2.2.2
  obtain ⟨hc, hv, -⟩ := classOfCode?_code hcode
  simp only [Image.isSignature, hcls, List.mem_cons, List.not_mem_nil, or_false, decide_eq_true_eq, ← hc, ← hv]
  cases cls <;> simp [RegionClass.isSignature]

theorem ReadsAs.log_once {straps : Nat} {words : List Word} {im : Image} (h : ReadsAs straps words im) (i j : Nat)
    (r q : Region) (hi : im.regions[i]? = some r) (hj : im.regions[j]? = some q) (hr : Image.isLog im r = true)
    (hq : Image.isLog im q = true) : i = j ∧ r.count ≤ 64 := by
  have hcode : ∀ r ∈ im.regions, Image.isLog im r = true → classCode words r.policy = 4 := by
    intro r hr hlog
    obtain ⟨cls, -, hcls, hcode⟩ := h.class (h.region hr).2.2.2
    rw [Image.isLog, hcls, decide_eq_true_eq] at hlog
    exact (classOfCode?_code hcode).2.2.2.1 hlog
  exact h.isValid.log i j r q (h.regions ▸ hi) (h.regions ▸ hj) (hcode r (List.mem_of_getElem? hi) hr)
    (hcode q (List.mem_of_getElem? hj) hq)

theorem ReadsAs.copy_of_class {straps : Nat} {words : List Word} {im : Image} (h : ReadsAs straps words im) :
    ∀ p ∈ im.policies, (p.cls = .constant ∨ p.cls = .voted → p.copy = true) ∧ (p.cls = .log → p.copy = false) := by
  intro p hp
  obtain ⟨k, hk⟩ := List.mem_iff_getElem?.1 hp
  have hk8 : k < 8 := h.policies_length ▸ (List.getElem?_eq_some_iff.1 hk).1
  obtain ⟨q, hq, hw⟩ := h.policy hk8
  obtain rfl : p = q := Option.some.inj (hk.symm.trans hq)
  obtain ⟨-, -, -, -, hcopy, -⟩ := policyOfWord?_eq_some.1 hw
  rw [hcopy]
  cases p.cls <;> simp [effectiveCopy]

theorem ReadsAs.policy_codes {straps : Nat} {words : List Word} {im : Image} (h : ReadsAs straps words im) {k : Nat}
    (hk : k < 8) : ∃ p : Policy, im.policies[k]? = some p ∧
      (p.cls = .constant ↔ classCode words k = 1) ∧ (p.cls = .voted ↔ classCode words k = 2) ∧
      (p.cls = .plain ↔ classCode words k = 3) ∧ (p.cls = .log ↔ classCode words k = 4) ∧
      (p.cls = .plain → p.copy = decide (bitField (imageWord words (17 + k)) 4 2 = 1) ∧
        p.isolates = decide (bitField (imageWord words (17 + k)) 8 2 = 2)) ∧
      (p.reporting = .every ↔ bitField (imageWord words (17 + k)) 12 2 = 1) ∧
      (p.reporting = .firstPerPass ↔ bitField (imageWord words (17 + k)) 12 2 = 2) ∧
      (p.reporting = .none ↔ bitField (imageWord words (17 + k)) 12 2 = 3) := by
  obtain ⟨p, hp, hw⟩ := h.policy hk
  obtain ⟨hcls, hrep, -, -, hcopy, hiso⟩ := policyOfWord?_eq_some.1 hw
  obtain ⟨c1, c2, c3, c4⟩ := classOfCode?_code hcls
  exact ⟨p, hp, c1, c2, c3, c4, fun hpl => ⟨by rw [hcopy, hpl]; rfl, by simp [hiso, hpl]⟩, reportingOfCode?_code hrep⟩

end Sys2Proof.Machine
end

section
/-! The statement about accepted images. -/

namespace Sys2Proof.Machine

/-- Settles O6: the loader's reading of each table, and the equivalence of its checks with those of R155. -/
theorem acceptedImageKeepsTheRules : Obligations.AcceptedImageKeepsTheRules := by
  unfold Obligations.AcceptedImageKeepsTheRules
  refine fun straps words => ⟨⟨fun h => ?_, fun h => ?_⟩, fun im him => ?_⟩
  · obtain ⟨im, him⟩ := Option.isSome_iff_exists.1 h
    exact (loadImage?_eq_some.1 him).isValid
  · obtain ⟨im, him⟩ := h.readsAs
    exact Option.isSome_iff_exists.2 ⟨im, loadImage?_eq_some.2 him⟩
  have h := loadImage?_eq_some.1 him
  obtain ⟨hsize, hsize', hlines⟩ := linesOfSize?_eq_some.1 h.lines
  refine ⟨h.long, h.regions ▸ h.some_region, h.regions ▸ h.regions_le, h.policies_length, h.lanes, h.straps_lt,
    by omega, by omega, fun r hr => h.region hr, fun i r hr b hb => h.locate_of_covers hr hb, h.slots_le,
    h.log_once, h.copy_of_class, hlines, h.laneCount, h.fill, h.regions, h.digest, fun k hk => ?_, h.settings, ?_⟩
  · exact h.policy_codes hk
  · rw [h.clamped, h.settings]; simp [rawSettings, List.range_succ, Settings.toList]

end Sys2Proof.Machine
end

section
/-! SUPPORT. What a command can do, said once: it leaves the state as it is, or its effect takes place and the arbiter
decides. Each invariant of every step is a case analysis of `Effect`. -/

namespace Sys2Proof.Machine

/-- The effect `u` of a command other than a reset in a state `s` in which its event can occur, before the arbiter
decides. -/
inductive Effect : Instr → State → State → Prop
  | imageAccepted {s words im} (hr : readsImage s = true) (hi : loadImage? s.lines.straps.toNat words = some im) :
      Effect (.imageReadComplete words) s (acceptImage im s)
  | imageRefused {s words} (hr : readsImage s = true) (hi : loadImage? s.lines.straps.toNat words = none) :
      Effect (.imageReadComplete words) s (enterFailed s)
  | accessTaken {s address isWrite enables data} (h : takesAccess s = true) :
      Effect (.accessTaken address isWrite enables data) s (takeAccess (accessOf address isWrite enables data) s)
  | burstEnd {s b} (hb : s.port.burst = some b) : Effect .burstEnd s (endBurst b s)
  | requestOverdue {s client n} (h : ageOf s.port client = some n) : Effect (.requestOverdue client) s
      { s with port := setAge s.port client (some (max n (settings s).waitLimit)) }
  | paceTimerExpiry {s} (h : (s.patrol.running && s.patrol.pace.isSome) = true) : Effect .paceTimerExpiry s
      (place .patrol { s with patrol := { s.patrol with pace := some (settings s).patrolInterval } })
  | copyRequest {s job} (h : copyDue s = some job) : Effect .copyRequest s
      (place .copy (reserveSlot (CopyJob.port job) { s with copy := { s.copy with job := some job } }))
  | alertPulseNext {s} (h : s.log.phase = .low) (ho : 1 < s.log.owed) : Effect .alertPulseEnd s
      { s with lines := { s.lines with alert := true }
               log := { s.log with owed := s.log.owed - 1, phase := .high, pulseTick := some 1 } }
  | alertPulseLast {s} (h : s.log.phase = .low) (ho : ¬ 1 < s.log.owed) : Effect .alertPulseEnd s
      { s with log := { s.log with owed := s.log.owed - 1, phase := .idle, pulseTick := none } }
  | ownMark {s} (h : marksCycle s = true) : Effect .ownMark s (takeMark s)
  | voteWindowExpiry {s n e} (hw : s.vote.window = some n) (he : windowEntry s = some e) :
      Effect .voteWindowExpiry s (castVote e s)
  | cycleSupervisionExpiry {s} (h : (s.vote.supervision.isSome && running s) = true) :
      Effect .cycleSupervisionExpiry s (leave .stall none s)
  | permitTimerExpiry {s} (h : s.lane.permitTimer.isSome = true) : Effect .permitTimerExpiry s
      { s with lines := { s.lines with permit := !s.lines.permit }
               lane := { s.lane with permitTimer := some Config.permitHalfPeriod } }
  | formationWindowExpiry {s} (h : (decide (s.lane.state = .starting) && s.lane.formation.isSome) = true) :
      Effect .formationWindowExpiry s (enterForming s)
  | retryTimerExpiry {s} (h : (decide (s.lane.state = .isolated) && s.lane.retry.isSome) = true) :
      Effect .retryTimerExpiry s (retryExpires s)
  | restoreEdge {s} (h : (decide (s.lane.state = .isolated) && !s.lines.supplyLow) = true) : Effect .restoreEdge s
      (enterJoining .restore { s with lane := { s.lane with attempts := 0, retry := none, retryDue := false } })
  | supplyLowActive {s} (h : ¬ s.lines.supplyLow = true) : Effect .supplyLowActive s
      (failAttempt .supply false none { s with lines := { s.lines with supplyLow := true } })
  | supplyLowRetry {s} (hl : s.lines.supplyLow = true)
      (h : (decide (s.lane.state = .isolated) && s.lane.retryDue) = true) : Effect .supplyLowInactive s
      (enterJoining .retry { s with lines := { s.lines with supplyLow := false }
                                    lane := { s.lane with retryDue := false } })
  | supplyLowInactive {s} (hl : s.lines.supplyLow = true)
      (h : ¬ (decide (s.lane.state = .isolated) && s.lane.retryDue) = true) : Effect .supplyLowInactive s
      { s with lines := { s.lines with supplyLow := false } }
  | progressTimerExpiry {s} (h : s.copy.progress.isSome = true) : Effect .progressTimerExpiry s
      (progressExpires { s with copy := { s.copy with progress := none } })
  | holdTimerExpiry {s} (h : s.copy.holdTimer.isSome = true) : Effect .holdTimerExpiry s
      (holdExpires { s with copy := { s.copy with holdTimer := none } })
  | repairTimerExpiry {s n r} (ht : s.copy.repairTimer = some n) (hr : s.copy.repair = some r) :
      Effect .repairTimerExpiry s (repairNext r .silent s)
  | admitOffer {s p n x} (h : admitDue s = some (p, n, x)) : Effect .admitOffer s (offerAdmit p n x s)
  | admitVerify {s x} (h : verifyDue s = some x) : Effect .admitVerify s (verifyAdmit x s)
  | repairStart {s b} (h : repairDue s = some b) : Effect .repairStart s (startRepair b s)
  | frameReceived {s p bytes kind sender covered body check}
      (h : gathered s p bytes = .whole kind sender covered body check) :
      Effect (.frameReceived p bytes) s (frameWhole p kind sender covered body check (hunt p s))
  | frameEnvelopeError {s p bytes reason kind sender} (h : gathered s p bytes = .formError reason kind sender) :
      Effect (.frameEnvelopeError p bytes) s
        (linkError p .form (some reason) (reachedByte kind) (reachedByte sender) (hunt p s))
  | transmitFrameEnd {s p bytes clocks} (h : (getPort s p).transmitter = .sending bytes clocks) :
      Effect (.transmitFrameEnd p) s (setPort s p { getPort s p with transmitter := .gap (16 * (settings s).linkDivisor) })
  | gapEnd {s p clocks} (h : (getPort s p).transmitter = .gap clocks) :
      Effect (.gapEnd p) s (startPort p (setPort s p { getPort s p with transmitter := .resting }))
  | signatureDelivery {s p c st view pairs rest l} (h : (getPort s p).received = .signature c st view pairs :: rest)
      (hl : (getPort s p).peer = some l) : Effect (.signatureDelivery p) s
      (signatureArrives l c { pairs := pairs, state := st, view := view } (arrive p rest l s))
  | stateDelivery {s p st counter rest l} (h : (getPort s p).received = .state st counter :: rest)
      (hl : (getPort s p).peer = some l) : Effect (.stateDelivery p) s (stateArrives l st counter (arrive p rest l s))
  | noticeDelivery {s p joiner cycle rest l} (h : (getPort s p).received = .notice joiner cycle :: rest)
      (hl : (getPort s p).peer = some l) : Effect (.noticeDelivery p) s (noticeArrives joiner cycle (arrive p rest l s))
  | joinDelivery {s p attempt digest rest l} (h : (getPort s p).received = .join attempt digest :: rest)
      (hl : (getPort s p).peer = some l) : Effect (.joinDelivery p) s (joinArrives p l attempt digest (arrive p rest l s))
  | acceptDelivery {s p attempt rest l} (h : (getPort s p).received = .accept attempt :: rest)
      (hl : (getPort s p).peer = some l) : Effect (.acceptDelivery p) s (acceptArrives l attempt (arrive p rest l s))
  | refuseDelivery {s p subject reason rest l} (h : (getPort s p).received = .refuse subject reason :: rest)
      (hl : (getPort s p).peer = some l) :
      Effect (.refuseDelivery p) s (refuseArrives l subject reason (arrive p rest l s))
  | blockDelivery {s p attempt b words rest l} (h : (getPort s p).received = .block attempt b words :: rest)
      (hl : (getPort s p).peer = some l) (hc : canTakeBlock s = true) :
      Effect (.blockDelivery p) s (blockArrives p l attempt b words (arrive p rest l s))
  | nakDelivery {s p attempt b rest l} (h : (getPort s p).received = .nak attempt b :: rest)
      (hl : (getPort s p).peer = some l) : Effect (.nakDelivery p) s (nakArrives l attempt b (arrive p rest l s))
  | admitDelivery {s p attempt cycle view pairs rest l}
      (h : (getPort s p).received = .admitSnapshot attempt cycle view pairs :: rest)
      (hl : (getPort s p).peer = some l) : Effect (.admitDelivery p) s
      (admitArrives l attempt { cycle := cycle, view := view, pairs := pairs } (arrive p rest l s))
  | admittedDelivery {s p attempt cycle rest l} (h : (getPort s p).received = .admitted attempt cycle :: rest)
      (hl : (getPort s p).peer = some l) :
      Effect (.admittedDelivery p) s (admittedArrives l attempt cycle (arrive p rest l s))
  | mismatchDelivery {s p attempt slot rest l} (h : (getPort s p).received = .mismatch attempt slot :: rest)
      (hl : (getPort s p).peer = some l) :
      Effect (.mismatchDelivery p) s (mismatchArrives l attempt slot (arrive p rest l s))
  | abandonDelivery {s p attempt cause rest l} (h : (getPort s p).received = .abandon attempt cause :: rest)
      (hl : (getPort s p).peer = some l) :
      Effect (.abandonDelivery p) s (abandonArrives l attempt cause (arrive p rest l s))
  | fetchDelivery {s p b rest l} (h : (getPort s p).received = .fetch b :: rest) (hl : (getPort s p).peer = some l) :
      Effect (.fetchDelivery p) s (fetchArrives p b (arrive p rest l s))
  | fetchedDelivery {s p b words rest l} (h : (getPort s p).received = .fetched b words :: rest)
      (hl : (getPort s p).peer = some l) (hc : canTakeBlock s = true) :
      Effect (.fetchedDelivery p) s (fetchedArrives l b words (arrive p rest l s))
  | frameStart {s p} (h : (LinkPort.active (getPort s p) && !(getPort s p).gathering) = true) :
      Effect (.frameStart p) s (setPort s p { getPort s p with gathering := true })
  | alertHighTickEnd {s} (h : s.log.phase = .high) : Effect .alertHighTickEnd s
      { s with lines := { s.lines with alert := false }, log := { s.log with phase := .low, pulseTick := some 1 } }

theorem done_eq_next {s t : State} (h : done s = .next t) : t = settle s := by cases h; rfl

/-- A command with one guard does nothing where the guard fails. -/
theorem guarded_cases {c : Instr} {g : Prop} [Decidable g] {s t u : State}
    (h : (if g then done u else .next s : Host.Outcome State Fault Refusal) = .next t) (he : g → Effect c s u) :
    t = s ∨ ∃ u, t = settle u ∧ Effect c s u := by
  split at h
  · exact .inr ⟨u, done_eq_next h, he ‹_›⟩
  · cases h; exact .inl rfl

/-- A command other than a reset changes nothing, or has its effect and the arbiter decides (R46). -/
theorem exec_cases {c : Instr} {s t : State} (h : exec c s = .next t) (hc : isReset c = false) :
    t = s ∨ ∃ u, t = settle u ∧ Effect c s u := by
  cases c with
  | powerReset straps => cases hc
  | pinReset straps written => cases hc
  | imageReadComplete words =>
    simp only [exec, execImageReadComplete] at h
    split at h
    · split at h
      · exact .inr ⟨_, done_eq_next h, .imageAccepted ‹_› ‹_›⟩
      · exact .inr ⟨_, done_eq_next h, .imageRefused ‹_› ‹_›⟩
    · cases h; exact .inl rfl
  | supplyLowActive =>
    simp only [exec, execSupplyLowActive] at h
    split at h
    · cases h; exact .inl rfl
    · exact .inr ⟨_, done_eq_next h, .supplyLowActive ‹_›⟩
  | supplyLowInactive =>
    simp only [exec, execSupplyLowInactive] at h
    split at h
    · split at h
      · exact .inr ⟨_, done_eq_next h, .supplyLowRetry ‹_› ‹_›⟩
      · exact .inr ⟨_, done_eq_next h, .supplyLowInactive ‹_› ‹_›⟩
    · cases h; exact .inl rfl
  | alertPulseEnd =>
    simp only [exec, execAlertPulseEnd] at h
    split at h
    · split at h
      · exact .inr ⟨_, done_eq_next h, .alertPulseNext ‹_› ‹_›⟩
      · exact .inr ⟨_, done_eq_next h, .alertPulseLast ‹_› ‹_›⟩
    · cases h; exact .inl rfl
  | accessTaken address isWrite enables data => exact guarded_cases h .accessTaken
  | paceTimerExpiry => exact guarded_cases h .paceTimerExpiry
  | ownMark => exact guarded_cases h .ownMark
  | cycleSupervisionExpiry => exact guarded_cases h .cycleSupervisionExpiry
  | permitTimerExpiry => exact guarded_cases h .permitTimerExpiry
  | formationWindowExpiry => exact guarded_cases h .formationWindowExpiry
  | retryTimerExpiry => exact guarded_cases h .retryTimerExpiry
  | restoreEdge => exact guarded_cases h .restoreEdge
  | progressTimerExpiry => exact guarded_cases h .progressTimerExpiry
  | holdTimerExpiry => exact guarded_cases h .holdTimerExpiry
  | frameStart p => exact guarded_cases h .frameStart
  | alertHighTickEnd => exact guarded_cases h .alertHighTickEnd
  | burstEnd =>
    simp only [exec, execBurstEnd] at h
    split at h
    · exact .inr ⟨_, done_eq_next h, .burstEnd ‹_›⟩
    · cases h; exact .inl rfl
  | requestOverdue client =>
    simp only [exec, execRequestOverdue] at h
    split at h
    · exact .inr ⟨_, done_eq_next h, .requestOverdue ‹_›⟩
    · cases h; exact .inl rfl
  | copyRequest =>
    simp only [exec, execCopyRequest] at h
    split at h
    · exact .inr ⟨_, done_eq_next h, .copyRequest ‹_›⟩
    · cases h; exact .inl rfl
  | voteWindowExpiry =>
    simp only [exec, execVoteWindowExpiry] at h
    split at h
    · exact .inr ⟨_, done_eq_next h, .voteWindowExpiry ‹_› ‹_›⟩
    · cases h; exact .inl rfl
  | repairTimerExpiry =>
    simp only [exec, execRepairTimerExpiry] at h
    split at h
    · exact .inr ⟨_, done_eq_next h, .repairTimerExpiry ‹_› ‹_›⟩
    · cases h; exact .inl rfl
  | admitOffer =>
    simp only [exec, execAdmitOffer] at h
    split at h
    · exact .inr ⟨_, done_eq_next h, .admitOffer ‹_›⟩
    · cases h; exact .inl rfl
  | admitVerify =>
    simp only [exec, execAdmitVerify] at h
    split at h
    · exact .inr ⟨_, done_eq_next h, .admitVerify ‹_›⟩
    · cases h; exact .inl rfl
  | repairStart =>
    simp only [exec, execRepairStart] at h
    split at h
    · exact .inr ⟨_, done_eq_next h, .repairStart ‹_›⟩
    · cases h; exact .inl rfl
  | frameReceived p bytes =>
    simp only [exec, execFrameReceived] at h
    split at h
    · exact .inr ⟨_, done_eq_next h, .frameReceived ‹_›⟩
    · cases h; exact .inl rfl
  | frameEnvelopeError p bytes =>
    simp only [exec, execFrameEnvelopeError] at h
    split at h
    · exact .inr ⟨_, done_eq_next h, .frameEnvelopeError ‹_›⟩
    · cases h; exact .inl rfl
  | transmitFrameEnd p =>
    simp only [exec, execTransmitFrameEnd] at h
    split at h
    · exact .inr ⟨_, done_eq_next h, .transmitFrameEnd ‹_›⟩
    · cases h; exact .inl rfl
  | gapEnd p =>
    simp only [exec, execGapEnd] at h
    split at h
    · exact .inr ⟨_, done_eq_next h, .gapEnd ‹_›⟩
    · cases h; exact .inl rfl
  | signatureDelivery p =>
    simp only [exec, execSignatureDelivery] at h
    split at h
    · exact .inr ⟨_, done_eq_next h, .signatureDelivery ‹_› ‹_›⟩
    · cases h; exact .inl rfl
  | stateDelivery p =>
    simp only [exec, execStateDelivery] at h
    split at h
    · exact .inr ⟨_, done_eq_next h, .stateDelivery ‹_› ‹_›⟩
    · cases h; exact .inl rfl
  | noticeDelivery p =>
    simp only [exec, execNoticeDelivery] at h
    split at h
    · exact .inr ⟨_, done_eq_next h, .noticeDelivery ‹_› ‹_›⟩
    · cases h; exact .inl rfl
  | joinDelivery p =>
    simp only [exec, execJoinDelivery] at h
    split at h
    · exact .inr ⟨_, done_eq_next h, .joinDelivery ‹_› ‹_›⟩
    · cases h; exact .inl rfl
  | acceptDelivery p =>
    simp only [exec, execAcceptDelivery] at h
    split at h
    · exact .inr ⟨_, done_eq_next h, .acceptDelivery ‹_› ‹_›⟩
    · cases h; exact .inl rfl
  | refuseDelivery p =>
    simp only [exec, execRefuseDelivery] at h
    split at h
    · exact .inr ⟨_, done_eq_next h, .refuseDelivery ‹_› ‹_›⟩
    · cases h; exact .inl rfl
  | blockDelivery p =>
    simp only [exec, execBlockDelivery] at h
    split at h
    · exact .inr ⟨_, done_eq_next h, .blockDelivery ‹_› ‹_› ‹_›⟩
    · cases h; exact .inl rfl
  | nakDelivery p =>
    simp only [exec, execNakDelivery] at h
    split at h
    · exact .inr ⟨_, done_eq_next h, .nakDelivery ‹_› ‹_›⟩
    · cases h; exact .inl rfl
  | admitDelivery p =>
    simp only [exec, execAdmitDelivery] at h
    split at h
    · exact .inr ⟨_, done_eq_next h, .admitDelivery ‹_› ‹_›⟩
    · cases h; exact .inl rfl
  | admittedDelivery p =>
    simp only [exec, execAdmittedDelivery] at h
    split at h
    · exact .inr ⟨_, done_eq_next h, .admittedDelivery ‹_› ‹_›⟩
    · cases h; exact .inl rfl
  | mismatchDelivery p =>
    simp only [exec, execMismatchDelivery] at h
    split at h
    · exact .inr ⟨_, done_eq_next h, .mismatchDelivery ‹_› ‹_›⟩
    · cases h; exact .inl rfl
  | abandonDelivery p =>
    simp only [exec, execAbandonDelivery] at h
    split at h
    · exact .inr ⟨_, done_eq_next h, .abandonDelivery ‹_› ‹_›⟩
    · cases h; exact .inl rfl
  | fetchDelivery p =>
    simp only [exec, execFetchDelivery] at h
    split at h
    · exact .inr ⟨_, done_eq_next h, .fetchDelivery ‹_› ‹_›⟩
    · cases h; exact .inl rfl
  | fetchedDelivery p =>
    simp only [exec, execFetchedDelivery] at h
    split at h
    · exact .inr ⟨_, done_eq_next h, .fetchedDelivery ‹_› ‹_› ‹_›⟩
    · cases h; exact .inl rfl

end Sys2Proof.Machine
end

section
/-! The lock flag and the loaded image (R8, R13). -/

namespace Sys2Proof.Machine

/-- A vote leaves the lane state, or isolates the lane, or ends a formation in MEMBER (R107, R109, R114). -/
theorem handOnVote_state (own : Lane) (grace : Option Word) (e : VoteEntry) (rs : List SlotResult) (s : State) :
    (handOnVote own grace e rs s).lane.state = s.lane.state ∨ (handOnVote own grace e rs s).lane.state = .isolated ∨
      s.lane.state = .forming ∧ (handOnVote own grace e rs s).lane.state = .member := by
  unfold handOnVote leave endFormation
  (repeat' split) <;> simp_all

theorem castVote_state (e : VoteEntry) (s : State) :
    (castVote e s).lane.state = s.lane.state ∨ (castVote e s).lane.state = .isolated ∨
      s.lane.state = .forming ∧ (castVote e s).lane.state = .member := by
  unfold castVote
  refine (handOnVote_state ..).imp (fun h => ?_) (Or.imp id fun h => ?_)
  · rw [h]; split <;> simp
  · refine ⟨?_, h.2⟩
    rw [← h.1]; split <;> simp

theorem closeEarlier_forming {s : State} (h : (closeEarlier s).lane.state = .forming) : s.lane.state = .forming := by
  unfold closeEarlier at h
  split at h
  case h_1 e _ => rcases castVote_state e s with he | he | he <;> simp_all
  case h_2 => exact h

/-- An own mark sets the lock flag if its lane is in FORMING once an earlier entry has been voted (R13, R100). -/
theorem takeMark_lock (s : State) : (takeMark s).map.lock =
    (s.map.lock || decide ((closeEarlier (raiseCounter s)).lane.state = .forming)) := by
  simp only [takeMark, completeMark]
  split
  · simp [markEntry]
  · have hf : (closeEarlier (raiseCounter s)).lane.state ≠ .forming := by
      intro he; simp_all [running]
    simp [hf]

/-- The lock flag changes in FORMING by an own mark and in JOINING by a verified ADMIT (R13). -/
theorem verifyAdmit_lock (x : Snapshot) (s : State) :
    (verifyAdmit x s).map.lock = true ∨ (verifyAdmit x s).map.lock = s.map.lock := by
  unfold verifyAdmit
  split
  · simp
  · simp

theorem verifyDue_joining {s : State} {x : Snapshot} (h : verifyDue s = some x) : s.lane.state = .joining := by
  unfold verifyDue at h
  split at h
  · simp_all
  · cases h

/-- No effect but the end of the image read changes the image. -/
theorem effect_image {c : Instr} {s u : State} (h : Effect c s u) (hc : ∀ words, c ≠ .imageReadComplete words) :
    u.map.image = s.map.image := by
  cases h with
  | imageAccepted | imageRefused => exact absurd rfl (hc _)
  | _ => simp

/-- No effect but an own mark and a verified ADMIT changes the lock flag. -/
theorem effect_lock {c : Instr} {s u : State} (h : Effect c s u) (hm : c ≠ .ownMark) (hv : c ≠ .admitVerify) :
    u.map.lock = s.map.lock := by
  cases h with
  | ownMark => exact absurd rfl hm
  | admitVerify => exact absurd rfl hv
  | _ => simp

/-- Settles O60: by the effect of each command. -/
theorem onlyResetsClearTheLockAndTheMap : Obligations.OnlyResetsClearTheLockAndTheMap := by
  intro c s t h hc
  obtain rfl | ⟨u, rfl, hu⟩ := exec_cases h hc
  · exact ⟨id, fun _ => rfl, fun hn => absurd rfl hn⟩
  have him := effect_image hu
  have hlk := effect_lock hu
  simp only [settle_frame]
  refine ⟨fun hl => ?_, him, fun hn => ?_⟩
  · cases hu with
    | ownMark => rw [takeMark_lock, hl]; rfl
    | @admitVerify _ x hx =>
      rcases verifyAdmit_lock x s with h | h
      · exact h
      · rw [h, hl]
    | _ => rw [hlk nofun nofun, hl]
  · cases hu with
    | ownMark =>
      refine .inl ⟨rfl, ?_⟩
      by_contra hs
      have hf : (closeEarlier (raiseCounter s)).lane.state ≠ .forming := fun h =>
        hs (closeEarlier_forming (s := raiseCounter s) h)
      exact hn (by rw [takeMark_lock]; simp [hf])
    | admitVerify hx => exact .inr ⟨rfl, verifyDue_joining hx⟩
    | _ => exact absurd (hlk nofun nofun) hn

end Sys2Proof.Machine
end

section
/-! The repair list and the region map (R2, R74, R150): every step keeps both laws. -/

namespace Sys2Proof.Machine

/-- A change that keeps the law of the map and, under it, the law of the repair list. -/
structure KeepsRepairs (s t : State) : Prop where
  map : MapLaw s → MapLaw t
  repairs : MapLaw s → RepairLaw s → RepairLaw t

theorem KeepsRepairs.refl (s : State) : KeepsRepairs s s := ⟨id, fun _ => id⟩

theorem KeepsRepairs.trans {s t u : State} (h : KeepsRepairs s t) (g : KeepsRepairs t u) : KeepsRepairs s u :=
  ⟨fun hm => g.map (h.map hm), fun hm hr => g.repairs (h.map hm) (h.repairs hm hr)⟩

/-- The law of the map reads the image and the patrol's cursor. -/
theorem MapLaw.congr {s t : State} (h : MapLaw s) (hi : t.map.image = s.map.image)
    (hc : t.patrol.cursor = s.patrol.cursor) : MapLaw t := by
  unfold MapLaw at *
  rw [hi, hc]; exact h

theorem isConstantBlock_congr {s t : State} (h : t.map.image = s.map.image) (b : Nat) :
    isConstantBlock t b = isConstantBlock s b := by
  simp only [isConstantBlock, locate_congr h]

/-- The law of the repair list reads the image, the lane state, the list and the repair in progress; an empty list keeps it
in every lane state. -/
theorem RepairLaw.mono {s t : State} (h : RepairLaw s) (hi : t.map.image = s.map.image)
    (hrun : running s = true → running t = true) (hl : t.copy.repairs = s.copy.repairs)
    (hr : t.copy.repair = s.copy.repair) : RepairLaw t := by
  obtain ⟨hlen, hnd, hcon, hemp, hrep⟩ := h
  unfold RepairLaw
  rw [hl, hr]
  refine ⟨hlen, hnd, fun b hb => by rw [isConstantBlock_congr hi]; exact hcon b hb, fun hn => hemp ?_, hrep⟩
  by_contra hs
  exact absurd (hrun (by simpa using hs)) (by simp [hn])

/-- The law of the map may be used. -/
theorem KeepsRepairs.of_map {s t : State} (h : MapLaw s → KeepsRepairs s t) : KeepsRepairs s t :=
  ⟨fun hm => (h hm).map hm, fun hm => (h hm).repairs hm⟩

/-- With no block listed and no repair in progress the law holds. -/
theorem repairLaw_of_empty {t : State} (hl : t.copy.repairs = []) (hr : t.copy.repair = none) : RepairLaw t := by
  simp [RepairLaw, hl, hr]

/-- A change of other fields. -/
theorem KeepsRepairs.of_frame {s t : State} (h : t.map.image = s.map.image ∧ t.patrol.cursor = s.patrol.cursor ∧
    t.lane.state = s.lane.state ∧ t.copy.repairs = s.copy.repairs ∧ t.copy.repair = s.copy.repair) : KeepsRepairs s t :=
  have ⟨hi, hc, hst, hl, hr⟩ := h
  ⟨fun h => h.congr hi hc, fun _ g => g.mono hi (by rw [running_congr hst]; exact id) hl hr⟩

/-- A change that leaves no repair work. -/
theorem KeepsRepairs.of_empty {s t : State} (hm : MapLaw s → MapLaw t) (hl : t.copy.repairs = [])
    (hr : t.copy.repair = none) : KeepsRepairs s t := ⟨hm, fun _ _ => repairLaw_of_empty hl hr⟩

/-! The repair list changed (R150, R151, R152). -/

theorem offerRepair_keeps {s : State} {region b : Nat} (hrun : running s = true) (hb : isConstantBlock s b = true) :
    KeepsRepairs s (offerRepair region b s) := by
  refine ⟨fun h => h.congr (by simp) (by simp), fun _ ⟨hlen, hnd, hcon, hemp, hrep⟩ => ?_⟩
  unfold offerRepair
  split
  case isTrue => exact ⟨hlen, hnd, hcon, hemp, hrep⟩
  case isFalse hn =>
    split
    case isTrue hlt =>
      refine ⟨by simp; omega, ?_, ?_, fun hr => absurd hrun (by rw [show running s = false from hr]; decide), ?_⟩
      · simpa [List.nodup_append, hnd] using fun x hx hxb => hn (by simpa [hxb] using hx)
      · intro x hx
        rcases List.mem_append.1 hx with hx | hx
        · exact hcon x hx
        · exact List.mem_singleton.1 hx ▸ hb
      · exact fun r hr => List.mem_append_left _ (hrep r hr)
    case isFalse => exact RepairLaw.mono ⟨hlen, hnd, hcon, hemp, hrep⟩ (by simp) (by simp [running]) (by simp) (by simp)

theorem classRepair_keeps {s : State} {loc : Located} {b : Nat} (h : loc.policy.cls = .constant → isConstantBlock s b = true) :
    KeepsRepairs s (classRepair loc b s) := by
  unfold classRepair
  split
  case isTrue hc => exact offerRepair_keeps hc.2 (h hc.1)
  case isFalse => exact .refl s

theorem isConstantBlock_of_locate {s : State} {b : Nat} {loc : Located} (h : locate s b = some loc)
    (hc : loc.policy.cls = .constant) : isConstantBlock s b = true := by simp [isConstantBlock, h, hc]

theorem closeRepair_keeps (b : Nat) (s : State) : KeepsRepairs s (closeRepair b s) := by
  refine ⟨fun h => h.congr (by simp) (by simp), fun _ ⟨hlen, hnd, hcon, hemp, hrep⟩ => ⟨?_, ?_, ?_, ?_, ?_⟩⟩
  · exact le_trans (List.length_filter_le _ _) hlen
  · exact hnd.filter _
  · exact fun x hx => hcon x (List.mem_filter.1 hx).1
  · intro hn; simp [closeRepair, hemp hn]
  · intro r hr; cases hr

/-! The patrol's cursor (R70, R74). -/

theorem MapLaw.cursor_zero {s t : State} (h : MapLaw s) (hi : t.map.image = s.map.image)
    (hc : t.patrol.cursor = some (0, 0)) : MapLaw t := by
  unfold MapLaw at *
  rw [hi]
  intro im him
  obtain ⟨hne, hreg, -⟩ := h im him
  refine ⟨hne, hreg, fun i k hik => ?_⟩
  rw [hc] at hik
  cases hik
  obtain ⟨r, hr⟩ := List.exists_cons_of_ne_nil hne
  obtain ⟨rs, hrs⟩ := hr
  have h0 : im.regions[0]? = some r := by rw [hrs]; rfl
  exact ⟨r, h0, (hreg 0 r h0).1⟩

@[simp] theorem regionStart_cursor (i : Nat) (s : State) : (regionStart i s).patrol.cursor = s.patrol.cursor := rfl

@[simp] theorem restartPatrol_cursor (s : State) : (restartPatrol s).patrol.cursor = some (0, 0) := by
  simp [restartPatrol]

@[simp] theorem startPatrol_cursor (s : State) : (startPatrol s).patrol.cursor = s.patrol.cursor := rfl

@[simp] theorem isolate_cursor (c : Cause) (n : Option Nat) (s : State) :
    (isolate c n s).patrol.cursor = s.patrol.cursor := by
  unfold isolate; split <;> simp

theorem locateRegion_eq_some {s : State} {i : Nat} {loc : Located} (h : locateRegion s i = some loc) :
    ∃ im, s.map.image = some im ∧ im.regions[i]? = some loc.region ∧ Image.locateRegion im i = some loc ∧
      loc.index = i := by
  unfold locateRegion at h
  split at h
  case h_1 im him =>
    refine ⟨im, him, ?_, h, ?_⟩
    all_goals
      unfold Image.locateRegion at h
      obtain ⟨r, hr, rfl⟩ := Option.map_eq_some_iff.1 h
    · exact hr
    · rfl
  case h_2 => cases h

theorem locateRegion_congr {s t : State} (h : t.map.image = s.map.image) (i : Nat) :
    locateRegion t i = locateRegion s i := by simp only [locateRegion, h]

theorem regionCount_congr {s t : State} (h : t.map.image = s.map.image) : regionCount t = regionCount s := by
  simp only [regionCount, h]

/-- The block at the patrol's cursor is located in the region it walks. -/
theorem MapLaw.locate_cursor {s : State} (h : MapLaw s) {i k : Nat} {loc : Located}
    (hc : s.patrol.cursor = some (i, k)) (hl : locateRegion s i = some loc) :
    locate s (loc.region.first + k) = some loc := by
  obtain ⟨im, him, hr, hloc, -⟩ := locateRegion_eq_some hl
  obtain ⟨-, hreg, hcur⟩ := h im him
  obtain ⟨r, hr', hk⟩ := hcur i k hc
  obtain rfl : loc.region = r := Option.some.inj (hr.symm.trans hr')
  rw [locate, him]
  simp only
  rw [(hreg i _ hr).2 _ (by simp [Region.covers, hk]), hloc]

theorem advanceCursor_mapLaw {s : State} {i k : Nat} {loc : Located} (hl : locateRegion s i = some loc) (h : MapLaw s) :
    MapLaw (advanceCursor loc k s) := by
  obtain ⟨im, him, hr, -, hidx⟩ := locateRegion_eq_some hl
  obtain ⟨hne, hreg, -⟩ := h im him
  simp only [advanceCursor]
  split
  case isTrue hk =>
    intro im' him'
    obtain rfl : im = im' := Option.some.inj (him.symm.trans him')
    refine ⟨hne, hreg, fun i' k' hik => ?_⟩
    cases hik
    exact ⟨loc.region, hidx ▸ hr, hk⟩
  case isFalse =>
    split
    case isTrue hlt =>
      intro im' him'
      obtain rfl : im = im' := Option.some.inj (him.symm.trans (by simpa using him'))
      refine ⟨hne, hreg, fun i' k' hik => ?_⟩
      cases hik
      have hlt' : loc.index + 1 < im.regions.length := by
        rw [regionCount_congr (s := s) (by simp), regionCount, him] at hlt; exact hlt
      have hr' := List.getElem?_eq_getElem hlt'
      exact ⟨_, hr', (hreg _ _ hr').1⟩
    case isFalse => exact h.cursor_zero (by simp) rfl

/-! Lane control. -/

@[simp] theorem dropRepairWork_repairs (s : State) : (dropRepairWork s).copy.repairs = [] ∧
    (dropRepairWork s).copy.repair = none ∧ (dropRepairWork s).copy.answers = [] := ⟨rfl, rfl, rfl⟩

theorem isolate_keeps (c : Cause) (n : Option Nat) (s : State) : KeepsRepairs s (isolate c n s) := by
  refine .of_empty (fun h => h.congr (by simp) (by simp)) ?_ ?_
  all_goals unfold isolate; split <;> simp

theorem leave_keeps (c : Cause) (n : Option Nat) (s : State) : KeepsRepairs s (leave c n s) := by
  unfold leave; split
  · exact isolate_keeps c n s
  · exact .refl s

@[simp] theorem endJoinerClear_cursor (s : State) : (endJoinerClear s).patrol.cursor = s.patrol.cursor := by
  simp only [endJoinerClear]; split <;> simp

theorem enterJoining_repairs (g : Trigger) (s : State) : (enterJoining g s).copy.repairs = [] ∧
    (enterJoining g s).copy.repair = none ∧ (enterJoining g s).patrol.cursor = some (0, 0) := by
  simp only [enterJoining, startAttempt]
  split <;> simp [clearStart]

theorem enterJoining_keeps (g : Trigger) (s : State) : KeepsRepairs s (enterJoining g s) := by
  obtain ⟨hl, hr, hc⟩ := enterJoining_repairs g s
  exact .of_empty (fun h => h.cursor_zero (by simp) hc) hl hr

theorem hearMember_keeps (s : State) : KeepsRepairs s (hearMember s) := by
  unfold hearMember
  split
  · exact isolate_keeps ..
  · split
    · exact leave_keeps ..
    · exact enterJoining_keeps ..

/-- The failure of an attempt leaves JOINING, where no repair work stands. -/
theorem failAttempt_keeps (c : Cause) (b : Bool) (d : Option Cause) (s : State) :
    KeepsRepairs s (failAttempt c b d s) := by
  refine ⟨fun h => h.congr (by simp) (by simp), fun _ g => g.mono (by simp) (fun hrun => ?_) (by simp) (by simp)⟩
  have hj : s.lane.state ≠ .joining := by intro hs; simp [running, hs] at hrun
  rw [← hrun]
  exact running_congr (by rw [failAttempt_state, if_neg hj])

theorem askOther_keeps (b : Bool) (s : State) : KeepsRepairs s (askOther b s) := by
  unfold askOther
  split
  · exact .of_frame (by simp)
  · exact failAttempt_keeps ..

/-- A lane that becomes MEMBER keeps the repair work it has. -/
theorem KeepsRepairs.of_member {s t : State} (h : t.map.image = s.map.image ∧ t.patrol.cursor = s.patrol.cursor ∧
    t.lane.state = .member ∧ t.copy.repairs = s.copy.repairs ∧ t.copy.repair = s.copy.repair) : KeepsRepairs s t :=
  have ⟨hi, hc, hst, hl, hr⟩ := h
  ⟨fun h => h.congr hi hc, fun _ g => g.mono hi (fun _ => by simp [running, hst]) hl hr⟩

theorem admission_keeps (x : Snapshot) (s : State) : KeepsRepairs s (admission x s) :=
  .of_member (by simp)

/-! The vote. -/

theorem endFormation_keeps (own : Lane) (e : VoteEntry) (rs : List SlotResult) (s : State) :
    KeepsRepairs s (endFormation own e rs s) := by
  unfold endFormation
  split
  · exact .of_member (by simp)
  · exact .refl s

theorem handOnVote_keeps (own : Lane) (g : Option Word) (e : VoteEntry) (rs : List SlotResult) (s : State) :
    KeepsRepairs s (handOnVote own g e rs s) := by
  unfold handOnVote
  split
  · exact leave_keeps ..
  split
  · exact leave_keeps ..
  split
  · exact endFormation_keeps ..
  split
  · exact leave_keeps ..
  · exact .refl s

theorem castVote_keeps (e : VoteEntry) (s : State) : KeepsRepairs s (castVote e s) := by
  unfold castVote
  refine .trans ?_ (handOnVote_keeps ..)
  split <;> exact .of_frame (by simp)

theorem voteIfComplete_keeps (s : State) : KeepsRepairs s (voteIfComplete s) := by
  unfold voteIfComplete
  split
  · exact castVote_keeps ..
  · exact .refl s

/-- A change of other fields, and then a vote that is left complete. -/
theorem KeepsRepairs.vote {s t : State} (h : KeepsRepairs s t) : KeepsRepairs s (voteIfComplete t) :=
  h.trans (voteIfComplete_keeps t)

/-! The bursts. -/

theorem procClassAction_keeps {loc : Located} {b : Nat} {s : State} (h : locate s b = some loc) :
    KeepsRepairs s (procClassAction loc b s) := by
  unfold procClassAction
  refine .trans (t := setAtEnd (classCause s loc) s) (.of_frame (by simp)) (classRepair_keeps fun hc => ?_)
  exact isConstantBlock_of_locate (by rw [locate_congr (s := s) (by simp)]; exact h) hc

/-- A read, with the class action of a bad word (R25). -/
theorem procRead_keeps {loc : Located} {a : Nat} {s : State} (h : locate s (blockOf a) = some loc) :
    KeepsRepairs s (procRead loc a s) := by
  have hbad : ∀ {t : State} {x : Answer}, t.map.image = s.map.image → KeepsRepairs s t →
      KeepsRepairs s (setDueAnswer x (procClassAction loc (blockOf a) t)) := fun ht hk =>
    (hk.trans (procClassAction_keeps (by rw [locate_congr ht]; exact h))).trans (.of_frame (by simp))
  unfold procRead
  split
  · exact .of_frame (by simp)
  · exact .of_frame (by simp)
  · exact hbad (by simp) (.of_frame (by simp))
  · exact hbad (by simp) (.of_frame (by simp))

/-- The adjustment of R79 changes the accumulator alone. -/
theorem patrolAdjust_eq (region position d : Nat) (p : Patrol) :
    patrolAdjust region position d p = { p with accumulator := (patrolAdjust region position d p).accumulator } := by
  unfold patrolAdjust
  split
  · split <;> rfl
  · rfl

theorem applyDelta_patrol (loc : Located) (a : Nat) (v w : Word) (s : State) : (applyDelta loc a v w s).patrol =
    { s.patrol with accumulator := (applyDelta loc a v w s).patrol.accumulator } := by
  unfold applyDelta
  split
  · exact patrolAdjust_eq ..
  · rfl

@[simp] theorem applyDelta_cursor (loc : Located) (a : Nat) (v w : Word) (s : State) :
    (applyDelta loc a v w s).patrol.cursor = s.patrol.cursor := by rw [applyDelta_patrol]

@[simp] theorem storeWord_cursor (c : Client) (loc : Located) (a : Nat) (v : Word) (s : State) :
    (storeWord c loc a v s).2.patrol.cursor = s.patrol.cursor := by
  unfold storeWord; (repeat' split) <;> simp

@[simp] theorem storeWords_cursor (loc : Located) (a : Nat) (ws : List Word) (s : State) :
    (storeWords loc a ws s).2.patrol.cursor = s.patrol.cursor := by
  induction ws generalizing a s with
  | nil => rfl
  | cons w ws ih => simp [storeWords, ih]

theorem procFullWrite_keeps (loc : Located) (a : Nat) (v : Word) (s : State) :
    KeepsRepairs s (procFullWrite loc a v s) := by
  simp only [procFullWrite]
  split <;> exact .of_frame (by simp)

theorem procMerge_keeps (loc : Located) (x : Access) (v : Word) (s : State) : KeepsRepairs s (procMerge loc x v s) :=
  .of_frame (by simp [procMerge])

theorem procPartialWrite_keeps {loc : Located} {x : Access} {s : State} (h : locate s (blockOf x.word) = some loc) :
    KeepsRepairs s (procPartialWrite loc x s) := by
  have hbad : ∀ {t : State} {y : Answer}, t.map.image = s.map.image → KeepsRepairs s t →
      KeepsRepairs s (setDueAnswer y (procClassAction loc (blockOf x.word) t)) := fun ht hk =>
    (hk.trans (procClassAction_keeps (by rw [locate_congr ht]; exact h))).trans (.of_frame (by simp))
  unfold procPartialWrite
  split
  · exact procMerge_keeps ..
  · exact .trans (.of_frame (by simp)) (procMerge_keeps ..)
  · exact hbad (by simp) (.of_frame (by simp))
  · exact hbad (by simp) (.of_frame (by simp))

theorem grantProc_keeps (s : State) : KeepsRepairs s (grantProc s) := by
  unfold grantProc
  split
  case h_1 => exact .refl s
  case h_2 x _ =>
    split
    case h_1 => exact .refl s
    case h_2 loc hloc =>
      split
      case isTrue => exact .of_frame (by simp)
      case isFalse =>
        have hb : locate (beginBurst .proc s) (blockOf x.word) = some loc := hloc
        refine .trans (t := beginBurst .proc s) (.of_frame (by simp)) ?_
        unfold procBurst
        split
        · split
          · exact procFullWrite_keeps ..
          · exact procPartialWrite_keeps hb
        · exact (procRead_keeps hb).trans (.of_frame (by simp))

/-- The block that a patrol burst offers to the repair list is the one at the cursor, located in the region walked. -/
theorem dealWithBlock_keeps {loc : Located} {i k : Nat} {ws : List (Option Word)} {s : State}
    (hc : s.patrol.cursor = some (i, k)) (hl : locateRegion s i = some loc) :
    KeepsRepairs s (dealWithBlock loc k ws s) := by
  refine .of_map fun hm => ?_
  have hloc := hm.locate_cursor hc hl
  simp only [dealWithBlock]
  generalize hu : (if loc.slot.isSome = true then _ else s) = u
  have hsu : u.map.image = s.map.image ∧ u.patrol.cursor = s.patrol.cursor ∧ u.lane.state = s.lane.state ∧
      u.copy.repairs = s.copy.repairs ∧ u.copy.repair = s.copy.repair := by
    rw [← hu]; split <;> simp
  split
  · exact .of_frame hsu
  · refine .trans (t := setAtEnd (classCause u loc) u) (.of_frame (by simpa using hsu)) (classRepair_keeps fun hcl => ?_)
    exact isConstantBlock_of_locate (by rw [locate_congr (s := s) (by simpa using hsu.1)]; exact hloc) hcl

theorem grantPatrol_keeps (s : State) : KeepsRepairs s (grantPatrol s) := by
  simp only [grantPatrol]
  refine .trans (t := beginBurst (.background .patrol) s) (.of_frame (by simp)) ?_
  generalize beginBurst (.background .patrol) s = s
  split
  case h_1 => exact .refl s
  case h_2 i k hc =>
    split
    case h_1 => exact .refl s
    case h_2 loc hl =>
      generalize hr : scrubWords (.background .patrol) loc (blockWords (loc.region.first + k)) s = r
      have hi : r.2.map.image = s.map.image := by simp [← hr]
      have hsr : KeepsRepairs s r.2 := .of_frame (by simp [← hr])
      have hlr : locateRegion r.2 i = some loc := by rw [locateRegion_congr hi]; exact hl
      refine (hsr.trans (dealWithBlock_keeps (ws := r.1) (by rw [← hr]; simpa using hc) hlr)).trans ?_
      refine ⟨fun hm => advanceCursor_mapLaw (i := i) ?_ hm,
        fun _ g => g.mono (by simp) (by simp [running]) (by simp) (by simp)⟩
      rw [locateRegion_congr (s := r.2) (by simp)]; exact hlr

theorem recvRepair_keeps (b : Nat) (ws : List Word) (s : State) : KeepsRepairs s (recvRepair b ws s) := by
  simp only [recvRepair]
  split
  case h_1 loc _ =>
    split
    · refine .trans (t := (rereadWords loc (blockWords b) s).2) (.of_frame (by simp)) ?_
      exact (closeRepair_keeps b _).trans (.of_frame (by simp))
    · refine .trans (t := repairWords loc (64 * b) (rereadWords loc (blockWords b) s).1 ws
        (rereadWords loc (blockWords b) s).2) (.of_frame (by simp)) ?_
      exact (closeRepair_keeps b _).trans (.of_frame (by simp))
  case h_2 => exact .refl s

@[simp] theorem recvBlock_cursor (b : Nat) (ws : List Word) (s : State) :
    (recvBlock b ws s).patrol.cursor = s.patrol.cursor := by
  simp only [recvBlock]; (repeat' split) <;> simp

theorem grantRecv_keeps (s : State) : KeepsRepairs s (grantRecv s) := by
  unfold grantRecv
  simp only
  split
  · exact .of_frame (by simp)
  · exact .trans (.of_frame (by simp)) (recvRepair_keeps ..)
  · exact .of_frame (by simp)

theorem grantBackground_keeps (b : Background) (s : State) : KeepsRepairs s (grantBackground b s) := by
  cases b with
  | log => exact .of_frame (by simp [grantBackground])
  | recv => exact grantRecv_keeps s
  | fill => exact .of_frame (by simp [grantBackground])
  | copy => exact .of_frame (by simp [grantBackground])
  | patrol => exact grantPatrol_keeps s

theorem carryOut_keeps (c : Choice) (s : State) : KeepsRepairs s (carryOut c s) := by
  unfold carryOut
  split
  · exact .trans (.of_frame (by simp)) (grantProc_keeps _)
  · exact .trans (.of_frame (by simp)) (grantBackground_keeps ..)
  · exact .of_frame (by simp)

theorem settle_keeps (s : State) : KeepsRepairs s (settle s) := by
  have harb : ∀ s, KeepsRepairs s (arbitrate s) := fun s => by
    unfold arbitrate
    split
    · exact carryOut_keeps ..
    · exact .refl s
  exact (harb s).trans (harb _)

/-! The effects of the commands. -/

theorem copyClassAction_keeps (b : Nat) (s : State) : KeepsRepairs s (copyClassAction b s) := by
  unfold copyClassAction
  split
  · exact leave_keeps ..
  · split
    case h_1 loc hl => exact classRepair_keeps fun hc => isConstantBlock_of_locate hl hc
    case h_2 => exact .refl s

theorem endServing_keeps (c : Cause) (d : Option Cause) (n : Option Nat) (s : State) :
    KeepsRepairs s (endServing c d n s) := .of_frame (by simp)

theorem endWork_keeps (e : AtEnd) (s : State) : KeepsRepairs s (endWork e s) := by
  cases e with
  | nothing => exact .refl s
  | leave c n => exact leave_keeps ..
  | failAttempt c => exact failAttempt_keeps ..
  | sendBlock p attempt b words => exact .of_frame (by simp [endWork])
  | damaged p b live =>
    cases live with
    | true => exact .trans (.of_frame (by simp)) (copyClassAction_keeps b _)
    | false => exact copyClassAction_keeps b s
  | sendFetched p b words => exact .of_frame (by simp [endWork])
  | refuseFetched p b => exact .trans (.of_frame (by simp)) (copyClassAction_keeps b _)

theorem endStartingClear_keeps (s : State) : KeepsRepairs s (endStartingClear s) := by
  simp only [endStartingClear]
  split
  · exact .trans (.of_frame (by simp)) (hearMember_keeps _)
  · exact .of_frame (by simp)

theorem fillGoesOn_keeps (s : State) : KeepsRepairs s (fillGoesOn s) := by
  unfold fillGoesOn
  split
  · exact .of_frame (by simp)
  · exact .of_frame (by simp)
  · exact endStartingClear_keeps s
  · exact .refl s

theorem endBurst_keeps (b : Burst) (s : State) : KeepsRepairs s (endBurst b s) := by
  have hplace : ∀ u, KeepsRepairs s u → KeepsRepairs s (placeLog u) := fun u hu => hu.trans (.of_frame (by simp))
  have hend : ∀ u, KeepsRepairs s u → KeepsRepairs s (voteIfComplete (endWork b.atEnd u)) := fun u hu =>
    (hu.trans (endWork_keeps b.atEnd u)).vote
  have hgive : KeepsRepairs s (match b.answer with
      | some a => answerAccess a (releasePort s)
      | none => releasePort s) := by
    split <;> exact .of_frame (by simp)
  simp only [endBurst]
  refine hplace _ ?_
  split
  · exact (hend _ hgive).trans (fillGoesOn_keeps _)
  · exact hend _ hgive

theorem arrive_keeps (p : PortId) (rest : List Frame) (l : Lane) (s : State) : KeepsRepairs s (arrive p rest l s) :=
  .of_frame (by simp)

theorem discover_keeps (x : LaneState) (b : Bool) (s : State) : KeepsRepairs s (discover x b s) := by
  unfold discover
  split
  · exact hearMember_keeps s
  · exact .refl s

theorem signatureArrives_keeps (l : Lane) (c : Word) (f : PeerFrame) (s : State) :
    KeepsRepairs s (signatureArrives l c f s) := by
  simp only [signatureArrives]
  refine .trans ?_ (discover_keeps ..)
  split
  · exact .vote (.of_frame (by simp))
  · exact .of_frame (by simp)

theorem stateArrives_keeps (l : Lane) (x : LaneState) (w : Word) (s : State) :
    KeepsRepairs s (stateArrives l x w s) :=
  .trans (.vote (.of_frame (by simp))) (discover_keeps ..)

theorem noticeArrives_keeps (l : Lane) (w : Word) (s : State) : KeepsRepairs s (noticeArrives l w s) := by
  unfold noticeArrives
  split
  · exact .refl s
  · exact .vote (.of_frame (by simp))

theorem acceptJoin_keeps (p : PortId) (l : Lane) (n : Nat) (s : State) : KeepsRepairs s (acceptJoin p l n s) :=
  .vote (.of_frame (by simp))

theorem joinArrives_keeps (p : PortId) (l : Lane) (n : Nat) (x : Pair) (s : State) :
    KeepsRepairs s (joinArrives p l n x s) := by
  unfold joinArrives
  split
  · exact .of_frame (by simp)
  · exact (endServing_keeps ..).trans (acceptJoin_keeps ..)
  · exact acceptJoin_keeps ..

/-- A peer is asked for a block that is in the list. -/
theorem askRepair_keeps {b : Nat} {l : Lane} {o : Bool} {s : State} (h : RepairLaw s → b ∈ s.copy.repairs) :
    KeepsRepairs s (askRepair b l o s) := by
  refine ⟨fun hm => hm.congr (by simp) (by simp), fun _ g => ?_⟩
  have hb := h g
  obtain ⟨hlen, hnd, hcon, hemp, hrep⟩ := g
  have hi : (askRepair b l o s).map.image = s.map.image := by simp
  have hl : (askRepair b l o s).copy.repairs = s.copy.repairs := by simp
  have hr : (askRepair b l o s).copy.repair = some { block := b, asked := l, otherAsked := o, taken := false } := by
    simp [askRepair]
  refine ⟨by rwa [hl], by rwa [hl], fun x hx => ?_, fun hn => ?_, fun r hr' => ?_⟩
  · rw [isConstantBlock_congr hi]; exact hcon x (hl ▸ hx)
  · rw [hl]; exact hemp ((running_congr (t := askRepair b l o s) (by simp)).symm.trans hn)
  · obtain rfl := Option.some.inj (hr.symm.trans hr')
    rwa [hl]

theorem failRepair_keeps (b : Nat) (last : Option Lane) (reason : RepairReason) (s : State) :
    KeepsRepairs s (failRepair b last reason s) :=
  .trans (.trans (.of_frame (by simp)) (closeRepair_keeps b { s with copy := { s.copy with repairTimer := none } }))
    (.of_frame (by simp [failRepair]))

theorem repairNext_keeps {r : Repair} {reason : RepairReason} {s : State} (h : s.copy.repair = some r) :
    KeepsRepairs s (repairNext r reason s) := by
  unfold repairNext
  split
  · exact askRepair_keeps fun ⟨_, _, _, _, hrep⟩ => hrep r h
  · exact failRepair_keeps ..

theorem refuseArrives_keeps (l : Lane) (x : RefuseSubject) (r : RefuseReason) (s : State) :
    KeepsRepairs s (refuseArrives l x r s) := by
  unfold refuseArrives
  split
  · split
    · exact askOther_keeps ..
    · exact .refl s
  · split
    case h_1 hr =>
      split
      · exact repairNext_keeps hr
      · exact .refl s
    case h_2 => exact .refl s

theorem startRepair_keeps {b : Nat} {s : State} (h : repairDue s = some b) : KeepsRepairs s (startRepair b s) := by
  have hb : b ∈ s.copy.repairs := by
    unfold repairDue at h
    split at h
    · exact List.mem_of_mem_head? h
    · cases h
  unfold startRepair
  split
  · exact askRepair_keeps fun _ => hb
  · exact failRepair_keeps ..

theorem admittedArrives_keeps (l : Lane) (n : Nat) (w : Word) (s : State) :
    KeepsRepairs s (admittedArrives l n w s) := by
  unfold admittedArrives
  split
  · exact .vote (.of_frame (by simp))
  · exact .refl s

theorem mismatchArrives_keeps (l : Lane) (n k : Nat) (s : State) : KeepsRepairs s (mismatchArrives l n k s) := by
  unfold mismatchArrives
  split
  · exact (endServing_keeps ..).vote
  · exact .refl s

theorem abandonArrives_keeps (l : Lane) (n : Nat) (c : Cause) (s : State) :
    KeepsRepairs s (abandonArrives l n c s) := by
  unfold abandonArrives
  split
  · split
    · exact failAttempt_keeps ..
    · exact .refl s
  · split
    · exact leave_keeps ..
    · split
      · exact (endServing_keeps ..).vote
      · exact .refl s
  · exact .refl s

/-- The block of the repair in progress stays the one asked for. -/
theorem fetchedArrives_keeps (l : Lane) (b : Nat) (ws : List Word) (s : State) :
    KeepsRepairs s (fetchedArrives l b ws s) := by
  unfold fetchedArrives
  split
  case h_2 => exact .refl s
  case h_1 r hr =>
    split
    case isFalse => exact .refl s
    case isTrue =>
      refine ⟨fun hm => hm.congr (by simp) (by simp), fun _ ⟨hlen, hnd, hcon, hemp, hrep⟩ => ?_⟩
      refine ⟨by simpa using hlen, by simpa using hnd, fun x hx => ?_, fun hn => ?_, fun q hq => ?_⟩
      · rw [isConstantBlock_congr (s := s) (by simp)]; exact hcon x (by simpa using hx)
      · simpa using hemp ((running_congr (by simp)).symm.trans hn)
      · obtain rfl : { r with taken := true } = q := by simpa using hq
        simpa using hrep r hr

theorem progressExpires_keeps (s : State) : KeepsRepairs s (progressExpires s) := by
  unfold progressExpires
  split
  · simp only [silentInRequest]
    refine .trans ?_ (askOther_keeps ..)
    split <;> exact .of_frame (by simp)
  · exact failAttempt_keeps ..
  · exact failAttempt_keeps ..
  · split
    · exact (endServing_keeps ..).vote
    · exact .refl s

theorem holdExpires_keeps (s : State) : KeepsRepairs s (holdExpires s) := by
  unfold holdExpires
  split
  · simp only [holdRunsOut]
    split
    · exact .vote (.of_frame (by simp))
    · exact .of_frame (by simp)
  · exact (endServing_keeps ..).vote
  · exact .refl s

theorem verifyAdmit_keeps (x : Snapshot) (s : State) : KeepsRepairs s (verifyAdmit x s) := by
  unfold verifyAdmit
  split
  · exact admission_keeps ..
  · simp only [mismatchFound]
    refine .trans ?_ (failAttempt_keeps ..)
    split <;> exact .of_frame (by simp)

theorem takeMark_keeps (s : State) : KeepsRepairs s (takeMark s) := by
  have hclose : KeepsRepairs s (closeEarlier (raiseCounter s)) := by
    unfold closeEarlier
    split
    · exact .trans (.of_frame (by simp)) (castVote_keeps ..)
    · exact .of_frame (by simp)
  have hvote : ∀ u, KeepsRepairs u (voteOrWait u) := fun u => by
    unfold voteOrWait
    split
    · split
      · exact castVote_keeps ..
      · exact .of_frame (by simp)
    · exact .refl u
  simp only [takeMark]
  split
  · refine hclose.trans ?_
    unfold completeMark
    refine .trans (t := voteOrWait (sendSignature (markEntry (closeEarlier (raiseCounter s)))))
      (.trans (t := sendSignature (markEntry (closeEarlier (raiseCounter s)))) (.of_frame (by simp)) (hvote _))
      (.of_frame (by simp))
  · exact hclose

theorem retryExpires_keeps (s : State) : KeepsRepairs s (retryExpires s) := by
  unfold retryExpires
  split
  · exact .of_frame (by simp)
  · exact .trans (.of_frame (by simp)) (enterJoining_keeps ..)

theorem acceptImage_mapLaw {straps : Nat} {words : List Word} {im : Image} {s : State}
    (h : loadImage? straps words = some im) : MapLaw (acceptImage im s) := by
  have hr := loadImage?_eq_some.1 h
  have him : (acceptImage im s).map.image = some im := by simp [acceptImage, loadTables]
  have hcur : (acceptImage im s).patrol.cursor = some (0, 0) := by simp [acceptImage]
  have hne : im.regions ≠ [] := by
    have h1 := hr.some_region
    rw [← hr.regions] at h1
    exact List.ne_nil_of_length_pos h1
  have hreg : ∀ (i : Nat) (r : Region), im.regions[i]? = some r →
      1 ≤ r.count ∧ ∀ b, Region.covers r b = true → Image.locate im b = Image.locateRegion im i := fun i r hi =>
    ⟨(hr.region (List.mem_of_getElem? hi)).1, fun b hb => hr.locate_of_covers hi hb⟩
  intro im' him'
  obtain rfl : im = im' := Option.some.inj (him.symm.trans him')
  refine ⟨hne, hreg, fun i k hik => ?_⟩
  rw [hcur] at hik
  cases hik
  have h0 := List.getElem?_eq_getElem (List.length_pos_of_ne_nil hne)
  exact ⟨_, h0, (hreg 0 _ h0).1⟩

theorem readsImage_starting {s : State} (h : readsImage s = true) : s.lane.state = .starting := by
  simp only [readsImage, Bool.and_eq_true, decide_eq_true_eq] at h
  exact h.2

theorem running_of_starting {s : State} (h : s.lane.state = .starting) : running s = false := by simp [running, h]

/-- In STARTING no repair work stands, so a new image keeps the law. -/
theorem acceptImage_keeps {words : List Word} {im : Image} {s : State} (hr : readsImage s = true)
    (h : loadImage? s.lines.straps.toNat words = some im) : KeepsRepairs s (acceptImage im s) := by
  refine ⟨fun _ => acceptImage_mapLaw h, fun _ ⟨_, _, _, hemp, hrep⟩ => ?_⟩
  have hnil : s.copy.repairs = [] := hemp (running_of_starting (readsImage_starting hr))
  refine repairLaw_of_empty (by simpa using hnil) ?_
  rw [acceptImage_frame im s |>.2.2.2.2.2.1]
  cases hq : s.copy.repair with
  | none => rfl
  | some r => have := hrep r hq; simp [hnil] at this

/-- A lane outside FORMING and MEMBER may enter any lane state. -/
theorem KeepsRepairs.of_not_running {s t : State} (hrun : running s = false) (hi : t.map.image = s.map.image)
    (hc : t.patrol.cursor = s.patrol.cursor) (hl : t.copy.repairs = s.copy.repairs)
    (hr : t.copy.repair = s.copy.repair) : KeepsRepairs s t :=
  ⟨fun h => h.congr hi hc, fun _ g => g.mono hi (fun h => absurd h (by simp [hrun])) hl hr⟩

theorem effect_keeps {c : Instr} {s u : State} (h : Effect c s u) : KeepsRepairs s u := by
  cases h with
  | imageAccepted hr hi => exact acceptImage_keeps hr hi
  | burstEnd => exact endBurst_keeps ..
  | ownMark => exact takeMark_keeps s
  | voteWindowExpiry => exact castVote_keeps ..
  | cycleSupervisionExpiry => exact leave_keeps ..
  | retryTimerExpiry => exact retryExpires_keeps s
  | restoreEdge => exact .trans (.of_frame (by simp)) (enterJoining_keeps ..)
  | supplyLowActive => exact .trans (.of_frame (by simp)) (failAttempt_keeps ..)
  | supplyLowRetry => exact .trans (.of_frame (by simp)) (enterJoining_keeps ..)
  | progressTimerExpiry => exact .trans (.of_frame (by simp)) (progressExpires_keeps _)
  | holdTimerExpiry => exact .trans (.of_frame (by simp)) (holdExpires_keeps _)
  | repairTimerExpiry _ hr => exact repairNext_keeps hr
  | admitVerify => exact verifyAdmit_keeps ..
  | repairStart hb => exact startRepair_keeps hb
  | signatureDelivery => exact (arrive_keeps ..).trans (signatureArrives_keeps ..)
  | stateDelivery => exact (arrive_keeps ..).trans (stateArrives_keeps ..)
  | noticeDelivery => exact (arrive_keeps ..).trans (noticeArrives_keeps ..)
  | joinDelivery => exact (arrive_keeps ..).trans (joinArrives_keeps ..)
  | refuseDelivery => exact (arrive_keeps ..).trans (refuseArrives_keeps ..)
  | admittedDelivery => exact (arrive_keeps ..).trans (admittedArrives_keeps ..)
  | mismatchDelivery => exact (arrive_keeps ..).trans (mismatchArrives_keeps ..)
  | abandonDelivery => exact (arrive_keeps ..).trans (abandonArrives_keeps ..)
  | fetchedDelivery => exact (arrive_keeps ..).trans (fetchedArrives_keeps ..)
  | imageRefused hr =>
    exact .of_not_running (running_of_starting (readsImage_starting hr)) (by simp) (by simp) (by simp) (by simp)
  | formationWindowExpiry h =>
    simp only [Bool.and_eq_true, decide_eq_true_eq] at h
    exact .of_not_running (running_of_starting h.1) (by simp) (by simp [enterForming]) (by simp) (by simp)
  | _ => exact .of_frame (by simp)

/-- A reset leaves no image and no repair work (R8). -/
theorem exec_reset {c : Instr} {s t : State} (h : exec c s = .next t) (hc : isReset c = true) :
    t.map.image = none ∧ t.copy.repairs = [] ∧ t.copy.repair = none := by
  cases c with
  | powerReset | pinReset => cases h; exact ⟨rfl, rfl, rfl⟩
  | _ => cases hc

theorem exec_keeps {c : Instr} {s t : State} (h : exec c s = .next t) : KeepsRepairs s t := by
  cases hc : isReset c with
  | true =>
    obtain ⟨hi, hl, hr⟩ := exec_reset h hc
    exact .of_empty (fun _ im him => by rw [hi] at him; cases him) hl hr
  | false =>
    obtain rfl | ⟨u, rfl, hu⟩ := exec_cases h hc
    · exact .refl _
    · exact (effect_keeps hu).trans (settle_keeps u)

theorem step_keeps {s t : State} (h : step s = .next t) : KeepsRepairs s t := by
  unfold step at h
  split at h
  case h_1 c rest _ => exact .trans (t := { s with pending := rest }) (.of_frame (by simp)) (exec_keeps h)
  case h_2 =>
    cases h
    unfold idle
    split <;> exact .of_frame (by simp [tick])

/-- Settles O59: each effect and each grant keeps both laws. -/
theorem everyStepKeepsTheRepairList : Obligations.EveryStepKeepsTheRepairList := fun _ _ h =>
  ⟨(step_keeps h).map, fun hr hm => (step_keeps h).repairs hm hr⟩

end Sys2Proof.Machine
end

section
/-! SUPPORT. Reports, words and counts, said once for the bursts: what the log holds after reports offered one after
another, what a word reads as after each operation, and what a burst records as it goes on. -/

namespace Sys2Proof.Machine

/-- Two states with the same blocks are the same. -/
theorem State.ext {s t : State} (h : t.lines = s.lines ∧ t.loader = s.loader ∧ t.through = s.through ∧ t.map = s.map ∧
    t.checker = s.checker ∧ t.sram = s.sram ∧ t.port = s.port ∧ t.sig = s.sig ∧ t.patrol = s.patrol ∧
    t.link1 = s.link1 ∧ t.link2 = s.link2 ∧ t.vote = s.vote ∧ t.lane = s.lane ∧ t.copy = s.copy ∧ t.clear = s.clear ∧
    t.log = s.log ∧ t.pending = s.pending) : t = s := by
  cases s; cases t
  simpa using h

theorem RegionMap.ext {m n : RegionMap} (h : m.image = n.image ∧ m.lock = n.lock ∧ m.status = n.status) : m = n := by
  cases m; cases n
  simpa using h

/-! Reports (R163). -/

theorem logRegion_congr {s t : State} (h : t.map.image = s.map.image) : logRegion t = logRegion s := by
  simp only [logRegion, h]

@[simp] theorem placeLog_log (s : State) : (placeLog s).log = s.log := by
  unfold placeLog; split <;> simp

/-- What a report makes of the log depends on the log and the image. -/
theorem offer_log_congr {s t : State} (r : Report) (h : t.log = s.log) (hi : t.map.image = s.map.image) :
    (offer r t).log = (offer r s).log := by
  unfold offer
  rw [h, logRegion_congr hi]
  (repeat' split) <;> simp [h]

@[simp] theorem logAfter_nil (s : State) : logAfter s [] = s.log := rfl

theorem foldl_offer_image (rs : List Report) (s : State) :
    (rs.foldl (fun u r => offer r u) s).map.image = s.map.image := by
  induction rs generalizing s with
  | nil => rfl
  | cons r rs ih => rw [List.foldl_cons, ih]; simp

/-- One more report after those offered already. -/
theorem offer_logAfter {s t : State} {rs : List Report} (r : Report) (h : t.log = logAfter s rs)
    (hi : t.map.image = s.map.image) : (offer r t).log = logAfter s (rs ++ [r]) := by
  rw [logAfter, List.foldl_append, List.foldl_cons, List.foldl_nil]
  exact offer_log_congr r h (hi.trans (foldl_offer_image rs s).symm)

/-- More reports after those offered already. -/
theorem logAfter_append {s t : State} {rs : List Report} (qs : List Report) (h : t.log = logAfter s rs)
    (hi : t.map.image = s.map.image) : logAfter t qs = logAfter s (rs ++ qs) := by
  induction qs generalizing t rs with
  | nil => simpa using h
  | cons q qs ih =>
    have := ih (offer_logAfter q h hi) (by simpa using hi)
    simpa [logAfter] using this

theorem logAfter_congr {s t : State} (qs : List Report) (h : t.log = s.log) (hi : t.map.image = s.map.image) :
    logAfter t qs = logAfter s qs := by simpa using logAfter_append (rs := []) qs h hi

theorem carryEnables_log_congr (x : Access) {b s t : State} (h : t.log = s.log) :
    (carryEnables x b t).log = (carryEnables x b s).log := by simp only [carryEnables, h]

theorem logAfter_queue_length (s : State) (rs : List Report) :
    s.log.queue.length ≤ (rs.foldl (fun u r => offer r u) s).log.queue.length := by
  induction rs generalizing s with
  | nil => exact le_rfl
  | cons r rs ih =>
    refine le_trans ?_ (ih (offer r s))
    obtain h | ⟨n, h⟩ := offer_queue r s <;> simp [h]

/-- The reports offered within a read carry its byte enables (R22). -/
theorem carryEnables_logAfter (x : Access) {b t : State} {rs : List Report} (h : t.log = logAfter b rs) :
    (carryEnables x b t).log = logAfter b (rs.map (fun r => { r with enables := readEnables x })) := by
  rw [carryEnables_log_congr x (t := t) (s := rs.foldl (fun u r => offer r u) b) h]
  clear h
  induction rs using List.reverseRecOn with
  | nil => simp
  | append_singleton rs r ih =>
    rw [List.foldl_append, List.foldl_cons, List.foldl_nil, carryEnables_offer x r (logAfter_queue_length b rs),
      List.map_append]
    exact offer_logAfter _ ih (by simp [foldl_offer_image])

@[simp] theorem offer_drain (r : Report) (s : State) :
    (offer r s).port.drain = s.port.drain ∧ (offer r s).port.afterDrain = s.port.afterDrain := by
  unfold offer placeLog place; (repeat' split) <;> simp

theorem report_eq_offer (k : RecordKind) (n : Option Nat) (w d e : Word) (s : State) :
    report k n w d e s = offer (makeReport s k n w d e) s := rfl

end Sys2Proof.Machine
end

section
namespace Sys2Proof.Machine

theorem validEnables_iff (e : BitVec 4) :
    validEnables e = true ↔ e ∈ [1#4, 2#4, 4#4, 8#4, 3#4, 12#4, 15#4] := by
  simp [validEnables, or_assoc]

theorem accessOf_block (address data : Word) (isWrite : Bool) (enables : BitVec 4) :
    blockOf (accessOf address isWrite enables data).word = address.toNat / 4 / 64 := rfl

/-- The refusal chain of R10, R11 and R22. -/
theorem refusalAtTaking_eq (s : State) (address data : Word) (isWrite : Bool) (enables : BitVec 4) :
    refusalAtTaking s (accessOf address isWrite enables data) =
      match locate s (address.toNat / 4 / 64) with
      | none => some .unmapped
      | some loc =>
        if isWrite = false then none
        else if loc.policy.cls = .log then some .logWrite
        else if loc.policy.cls = .constant ∧ s.map.lock = true then some .locked
        else if enables ∈ [1#4, 2#4, 4#4, 8#4, 3#4, 12#4, 15#4] then none
        else some .byteEnables := by
  unfold refusalAtTaking
  rw [accessOf_block]
  cases locate s (address.toNat / 4 / 64) with
  | none => rfl
  | some loc => cases isWrite <;> simp [accessOf, validEnables_iff]

/-- The report of a refused access (R12, R22). -/
def refusedReport (acc : Access) (reason : RefusalReason) (s : State) : Report :=
  { makeReport s .accessRefused ((locate s (blockOf acc.word)).map (·.index)) (placeWord acc.word)
      (packFields [(acc.enables.toNat, 0), (bit acc.isWrite, 8), (RefusalReason.code reason, 16)])
      (if acc.isWrite then acc.data else 0) with enables := readEnables acc }

/-- A refused access is answered and reported. -/
theorem refuseAccess_eq (acc : Access) (reason : RefusalReason) (s : State) : refuseAccess acc reason s =
    { s with lines := { s.lines with answer := some (refusedAnswer acc) }
             through := { access := none, merge := none }
             log := (offer (refusedReport acc reason s) s).log
             port := (offer (refusedReport acc reason s) s).port } := by
  rw [refuseAccess, answerAccess, reportRefused]
  exact State.ext (by simp [refusedReport])

theorem refusedReport_detail1 (acc : Access) (reason : RefusalReason) (s : State) :
    (refusedReport acc reason s).detail1 = BitVec.ofNat 32
      (acc.enables.toNat + (if acc.isWrite then 2 ^ 8 else 0) + RefusalReason.code reason * 2 ^ 16) := by
  cases h : acc.isWrite <;> simp [refusedReport, makeReport, packFields, bit, h, Nat.add_assoc]

theorem execAccessTaken_of_takes {s : State} (h : takesAccess s = true) (address data : Word) (isWrite : Bool)
    (enables : BitVec 4) : exec (.accessTaken address isWrite enables data) s =
      .next (settle (takeAccess (accessOf address isWrite enables data) s)) :=
  if_pos h

/-- Settles O13: by the outcome of the refusal chain. -/
theorem accessIsRefusedOrRequested : Obligations.AccessIsRefusedOrRequested := by
  intro s address data isWrite enables htake
  have hexec := execAccessTaken_of_takes htake address data isWrite enables
  refine ⟨refusalAtTaking_eq .., fun hnone => ⟨_, hexec, ?_, fun hb => settle_of_burst ?_⟩, fun reason hsome => ?_⟩
  · rw [takeAccess, hnone]
  · rw [takeAccess, hnone]; exact hb
  · refine ⟨_, refusedReport (accessOf address isWrite enables data) reason s, hexec, ?_, rfl, rfl, rfl, rfl, ?_, ?_, rfl,
      ?_, ?_⟩
    · rw [takeAccess, hsome]
      exact refuseAccess_eq ..
    · rfl
    · rfl
    · rfl
    · exact refusedReport_detail1 ..

end Sys2Proof.Machine
end

section
/-! SUPPORT. What a word reads as after each operation of a burst, and what the operation leaves in the tables, the counts
and the burst (R15, R17 to R20, R34 to R39). -/

namespace Sys2Proof.Machine

/-! A stored word reads as it was stored (R17, R18). -/

theorem cellData_encodeCell (lines a : Nat) (v : Word) : cellData (encodeCell lines a v) = v :=
  BitVec.setWidth_append_eq_right

theorem cellCheck_encodeCell (lines a : Nat) (v : Word) : cellCheck (encodeCell lines a v) = checkCode lines a v := by
  unfold cellCheck encodeCell
  ext i hi
  have happ := BitVec.getLsbD_append (x := checkCode lines a v) (y := v) (i := 32 + i)
  simpa [BitVec.getLsbD_eq_getElem hi] using happ

@[simp] theorem classifyCell_encodeCell (lines a : Nat) (v : Word) :
    classifyCell lines a (encodeCell lines a v) = .clean v := by
  simp [classifyCell, syndrome, cellData_encodeCell, cellCheck_encodeCell]

/-! Words read (R18, R20). -/

/-- What a word reads as depends on the spare store, the image and its cell. -/
theorem readWord_congr {s t : State} {a : Nat} (hc : substOf t a = substOf s a) (hi : t.map.image = s.map.image)
    (hm : sramRead t.sram a = sramRead s.sram a) : readWord t a = readWord s a := by
  unfold readWord
  rw [hc, linesInUse_congr hi, hm]

theorem substOf_congr {s t : State} (h : t.checker.substs = s.checker.substs) (a : Nat) :
    substOf t a = substOf s a := by simp only [substOf, h]

theorem readWord_of_frame {s t : State} (h : t.checker.substs = s.checker.substs ∧ t.map.image = s.map.image ∧
    t.sram = s.sram) (a : Nat) : readWord t a = readWord s a :=
  readWord_congr (substOf_congr h.1 a) h.2.1 (by rw [h.2.2])

theorem readWord_of_substOf {s : State} {a : Nat} {e : SubstEntry} (h : substOf s a = some e) :
    readWord s a = .clean e.value := by simp [readWord, h]

/-- The spare store after a substituted word is written: the value alone changes (R39). -/
theorem substOf_writeWord (a b : Nat) (v : Word) (s : State) : substOf (writeWord a v s) b =
    (substOf s b).map (fun e => if e.address = a then { e with value := v } else e) := by
  unfold writeWord
  split
  case h_1 e he =>
    simp only [substOf, List.find?_map]
    congr 2
    funext x
    simp only [Function.comp]
    split <;> rfl
  case h_2 hn =>
    have hb : substOf (writeCell a (encodeCell (linesInUse s) a v) s) b = substOf s b := rfl
    rw [hb]
    cases h : substOf s b with
    | none => rfl
    | some e =>
      have hmem := List.mem_of_find?_eq_some h
      have hne : e.address ≠ a := fun ha => by
        have := List.find?_eq_none.1 hn e hmem
        simp [ha] at this
      simp [hne]

theorem substOf_address {s : State} {a : Nat} {e : SubstEntry} (h : substOf s a = some e) : e.address = a := by
  simpa using List.find?_some h

/-- A word written reads CLEAN with its value. -/
theorem readWord_writeWord_self {s : State} (a : Nat) (v : Word) (h : sramCanonical s.sram = true) :
    readWord (writeWord a v s) a = .clean v := by
  cases hs : substOf s a with
  | some e =>
    refine (readWord_of_substOf (e := { e with value := v }) ?_)
    simp [substOf_writeWord, hs, substOf_address hs]
  | none =>
    have hn : substOf (writeWord a v s) a = none := by simp [substOf_writeWord, hs]
    simp only [readWord, hn, writeWord_sramRead v h hs, if_true]
    rw [linesInUse_congr (s := s) (by simp)]
    exact classifyCell_encodeCell ..

theorem sramRead_writeWord_of_ne {s : State} {a b : Nat} (v : Word) (h : b ≠ a) :
    sramRead (writeWord a v s).sram b = sramRead s.sram b := by
  unfold writeWord
  split
  · rfl
  · exact sramRead_sramWrite_of_ne _ h

/-- The other words read as before. -/
theorem readWord_writeWord_of_ne {s : State} {a b : Nat} (v : Word) (h : b ≠ a) :
    readWord (writeWord a v s) b = readWord s b := by
  refine readWord_congr ?_ (by simp) (sramRead_writeWord_of_ne v h)
  rw [substOf_writeWord]
  cases hb : substOf s b with
  | none => rfl
  | some e => simp [substOf_address hb, h]

/-- Every word but the one at address `a` reads as before. -/
structure TouchesOnly (a : Nat) (s t : State) : Prop where
  others : OtherWordsKept s t (fun b => b = a)

theorem TouchesOnly.of_frame {a : Nat} {s t : State} (h : t.checker.substs = s.checker.substs ∧
    t.map.image = s.map.image ∧ t.sram = s.sram) : TouchesOnly a s t := ⟨fun b _ => readWord_of_frame h b⟩

theorem TouchesOnly.trans {a : Nat} {s t u : State} (h : TouchesOnly a s t) (g : TouchesOnly a t u) :
    TouchesOnly a s u := ⟨fun b hb => (g.others b hb).trans (h.others b hb)⟩

/-- A further change of other fields. -/
theorem TouchesOnly.frame {a : Nat} {s t u : State} (h : TouchesOnly a s t)
    (g : u.checker.substs = t.checker.substs ∧ u.map.image = t.map.image ∧ u.sram = t.sram) : TouchesOnly a s u :=
  h.trans (.of_frame g)

theorem writeWord_touchesOnly (a : Nat) (v : Word) (s : State) : TouchesOnly a s (writeWord a v s) :=
  ⟨fun _ h => readWord_writeWord_of_ne v h⟩

/-! The repeat and substitution tables (R34 to R37). -/

theorem repeatUpdate_substs (c : WordChecker) (a : Nat) (v : Word) (o : Origin) :
    (repeatUpdate c a v o).1.substs = c.substs ∨
      (repeatUpdate c a v o).1.substs = c.substs ++ [⟨a, v, o⟩] := by
  simp only [repeatUpdate]
  (repeat' split) <;> simp

/-- An update of the tables leaves every other word as it reads. -/
theorem repeatUpdate_touchesOnly (a : Nat) (v : Word) (o : Origin) (s : State) :
    TouchesOnly a s { s with checker := (repeatUpdate s.checker a v o).1 } := ⟨fun b hb => by
  refine readWord_congr ?_ rfl rfl
  obtain h | h := repeatUpdate_substs s.checker a v o
  · simp only [substOf, h]
  · simp only [substOf, h, List.find?_append]
    have hab : ¬ a = b := fun h => hb h.symm
    simp [hab]⟩

/-! Counts and flags (R7, R15, R16). -/

@[simp] theorem statusOf_modifyStatus_self {s : State} {i : Nat} (f : RegionStatus → RegionStatus)
    (h : i < s.map.status.length) : statusOf (modifyStatus i f s) i = f (statusOf s i) := by
  simp [statusOf, modifyStatus, List.getElem?_eq_getElem h]

theorem statusOf_modifyStatus_of_ne {s : State} {i j : Nat} (f : RegionStatus → RegionStatus) (h : j ≠ i) :
    statusOf (modifyStatus i f s) j = statusOf s j := by
  have h' : ¬ i = j := fun e => h e.symm
  simp [statusOf, modifyStatus, h']

/-- A field of a status that a change leaves alone keeps its value in every region. -/
theorem statusOf_modifyStatus_field {α : Type} (g : RegionStatus → α) {f : RegionStatus → RegionStatus}
    (h : ∀ x, g (f x) = g x) (i j : Nat) (s : State) : g (statusOf (modifyStatus i f s) j) = g (statusOf s j) := by
  simp only [statusOf, modifyStatus, List.getD_eq_getElem?_getD, List.getElem?_modify]
  split
  · cases s.map.status[j]? <;> simp [h]
  · simp

@[simp] theorem modifyStatus_length (i : Nat) (f : RegionStatus → RegionStatus) (s : State) :
    (modifyStatus i f s).map.status.length = s.map.status.length := by simp [modifyStatus]

theorem statusOf_congr {s t : State} (h : t.map.status = s.map.status) (i : Nat) : statusOf t i = statusOf s i := by
  simp only [statusOf, h]

/-! The burst goes on: it keeps its owner, its answer and what it left for its end, and remembers the cells it overwrites
(R53). -/

/-- The burst in progress has overwritten more cells and is the same else. -/
def BurstGoesOn (s t : State) : Prop :=
  ∃ w, t.port.burst = s.port.burst.map (fun b => { b with overwritten := b.overwritten ++ w })

theorem BurstGoesOn.of_eq {s t : State} (h : t.port.burst = s.port.burst) : BurstGoesOn s t := ⟨[], by
  cases hb : s.port.burst <;> simp [h, hb]⟩

theorem BurstGoesOn.of_some {s t : State} {b : Burst} (h : BurstGoesOn s t) (hb : s.port.burst = some b) :
    ∃ w, t.port.burst = some { b with overwritten := b.overwritten ++ w } := by
  obtain ⟨w, hw⟩ := h
  exact ⟨w, by rw [hw, hb]; rfl⟩

theorem BurstGoesOn.trans {s t u : State} (h : BurstGoesOn s t) (g : BurstGoesOn t u) : BurstGoesOn s u := by
  obtain ⟨w, hw⟩ := h
  obtain ⟨x, hx⟩ := g
  refine ⟨w ++ x, ?_⟩
  rw [hx, hw]
  cases s.port.burst <;> simp

theorem writeWord_burstGoesOn (a : Nat) (v : Word) (s : State) : BurstGoesOn s (writeWord a v s) := by
  unfold writeWord
  split
  · exact .of_eq rfl
  · exact ⟨_, rfl⟩

@[simp] theorem noteCorrected_burst (c : Client) (loc : Located) (a : Nat) (v : Word) (y : Byte) (n : Nat) (s : State) :
    (noteCorrected c loc a v y n s).port.burst = s.port.burst ∧
      (noteCorrected c loc a v y n s).port.procWaiting = s.port.procWaiting := by
  simp only [noteCorrected, reportNews]; (repeat' split) <;> simp

/-! What a corrected word has noted (R7, R15, R24, R35 to R37, R40). -/

/-- What a corrected word makes of its region's status (R7, R15). -/
def correctedStatus (loc : Located) (x : RegionStatus) : RegionStatus :=
  { x with corrected := raiseCount x.corrected
           reported := decide (loc.policy.reporting = .firstPerPass) || x.reported }

/-- The CORRECTED report, if the region's reporting called for one in state `s`, its counts those of `t`. -/
def correctionReports (client : Client) (loc : Located) (a : Nat) (syn : Byte) (wrong : Nat) (s t : State) : List Report :=
  if reportsCorrection s loc then
    [makeReport t .corrected (some loc.index) (placeWord a)
      (packFields [(Client.code client, 0), (syn.toNat, 8), (wrong, 16)]) (countsWord t loc.index)]
  else []

/-- The report that an update of the repeat table calls for. -/
def newsReports (news : RepeatNews) (region a : Nat) (v : Word) (origin : Origin) (t : State) : List Report :=
  match news with
  | .nothing => []
  | .substituted => [makeReport t .substituted (some region) (placeWord a)
      (packFields [(Origin.code origin, 0), (t.checker.substs.length, 8)]) v]
  | .noSpare => [makeReport t .noSpare (some region) (placeWord a) (packFields [(3, 0), (16, 8)]) v]

@[simp] theorem reportNews_checker (n : RepeatNews) (i a : Nat) (v : Word) (o : Origin) (s : State) :
    (reportNews n i a v o s).checker = s.checker ∧ (reportNews n i a v o s).map = s.map := by
  unfold reportNews; split <;> simp

/-- A corrected word counted in its region and entered in the repeat table. -/
def enterCorrected (loc : Located) (a : Nat) (v : Word) (s : State) : State :=
  { modifyStatus loc.index (fun r => { r with corrected := raiseCount r.corrected }) s with
    checker := (repeatUpdate s.checker a v .correction).1 }

theorem enterCorrected_reported (loc : Located) (a : Nat) (v : Word) (s : State) :
    (statusOf (enterCorrected loc a v s) loc.index).reported = (statusOf s loc.index).reported :=
  statusOf_modifyStatus_field RegionStatus.reported (fun _ => by rfl) ..

/-- The report of a corrected word is called for by the flag as it stood before. -/
theorem reportsCorrection_enterCorrected (loc : Located) (a : Nat) (v : Word) (s : State) :
    reportsCorrection (enterCorrected loc a v s) loc = reportsCorrection s loc := by
  unfold reportsCorrection
  rw [enterCorrected_reported]

/-- The flag of R7 set in a region that reports once per pass. -/
def flagReported (loc : Located) (s : State) : State :=
  if loc.policy.reporting = .firstPerPass then modifyStatus loc.index (fun r => { r with reported := true }) s else s

theorem noteCorrected_eq (c : Client) (loc : Located) (a : Nat) (v : Word) (y : Byte) (n : Nat) (s : State) :
    noteCorrected c loc a v y n s = reportNews (repeatUpdate s.checker a v .correction).2 loc.index a v .correction
      (if reportsCorrection s loc then
        report .corrected (some loc.index) (placeWord a) (packFields [(Client.code c, 0), (y.toNat, 8), (n, 16)])
          (countsWord (enterCorrected loc a v s) loc.index) (flagReported loc (enterCorrected loc a v s))
      else enterCorrected loc a v s) := by
  rw [← reportsCorrection_enterCorrected loc a v s]
  rfl

@[simp] theorem flagReported_checker (loc : Located) (s : State) : (flagReported loc s).checker = s.checker := by
  unfold flagReported; split <;> simp

theorem noteCorrected_checker (c : Client) (loc : Located) (a : Nat) (v : Word) (y : Byte) (n : Nat) (s : State) :
    (noteCorrected c loc a v y n s).checker = (repeatUpdate s.checker a v .correction).1 := by
  rw [noteCorrected_eq]
  split <;> simp [enterCorrected]

theorem noteCorrected_touchesOnly (c : Client) (loc : Located) (a : Nat) (v : Word) (y : Byte) (n : Nat) (s : State) :
    TouchesOnly a s (noteCorrected c loc a v y n s) :=
  (repeatUpdate_touchesOnly a v .correction s).frame (by simp [noteCorrected_checker])

/-- The flag set again over a status raised: the status of `correctedStatus`. -/
theorem modify_reported (loc : Located) (l : List RegionStatus) (h : loc.policy.reporting = .firstPerPass) :
    (l.modify loc.index (fun r => { r with corrected := raiseCount r.corrected })).modify loc.index
      (fun r => { r with reported := true }) = l.modify loc.index (correctedStatus loc) := by
  rw [List.modify_modify_eq]
  congr 1
  funext x
  simp [correctedStatus, h]

/-- Where no report is called for the flag stands as `correctedStatus` says. -/
theorem modify_unreported (loc : Located) (l : List RegionStatus)
    (h : loc.policy.reporting = .firstPerPass → (l.getD loc.index ⟨0, 0, false, false⟩).reported = true) :
    l.modify loc.index (fun r => { r with corrected := raiseCount r.corrected }) =
      l.modify loc.index (correctedStatus loc) := by
  refine List.ext_getElem? fun j => ?_
  simp only [List.getElem?_modify]
  split
  case isFalse => rfl
  case isTrue hj =>
    subst hj
    cases hx : l[loc.index]? with
    | none => rfl
    | some x =>
      simp only [Option.map_eq_map, Option.map_some, correctedStatus, Option.some.injEq]
      rw [List.getD_eq_getElem?_getD, hx, Option.getD_some] at h
      by_cases hp : loc.policy.reporting = .firstPerPass
      · simp [hp, h hp]
      · simp [hp]

theorem noteCorrected_map (c : Client) (loc : Located) (a : Nat) (v : Word) (y : Byte) (n : Nat) (s : State) :
    (noteCorrected c loc a v y n s).map = (modifyStatus loc.index (correctedStatus loc) s).map := by
  refine RegionMap.ext ⟨by simp, by simp, ?_⟩
  rw [noteCorrected_eq, (reportNews_checker ..).2]
  split
  case isTrue h =>
    by_cases hp : loc.policy.reporting = .firstPerPass
    · simpa [flagReported, hp, enterCorrected, modifyStatus] using modify_reported loc s.map.status hp
    · simpa [flagReported, hp, enterCorrected, modifyStatus] using
        modify_unreported loc s.map.status (fun h => absurd h hp)
  case isFalse h =>
    exact modify_unreported loc s.map.status fun hp => by simpa [reportsCorrection, hp, statusOf] using h

theorem makeReport_congr {s t : State} (h : t.lane = s.lane ∧ t.vote = s.vote ∧ t.patrol = s.patrol)
    (k : RecordKind) (n : Option Nat) (w d e : Word) : makeReport t k n w d e = makeReport s k n w d e := by
  simp only [makeReport, h]

/-- The counts of a record are those of any state with the same counts. -/
theorem countsWord_congr {s t : State} {i : Nat} (hc : (statusOf t i).corrected = (statusOf s i).corrected)
    (hu : (statusOf t i).uncorrectable = (statusOf s i).uncorrectable) : countsWord t i = countsWord s i := by
  simp only [countsWord, hc, hu]

@[simp] theorem flagReported_counts (loc : Located) (s : State) (i : Nat) :
    (statusOf (flagReported loc s) i).corrected = (statusOf s i).corrected ∧
      (statusOf (flagReported loc s) i).uncorrectable = (statusOf s i).uncorrectable := by
  unfold flagReported
  split
  · exact ⟨statusOf_modifyStatus_field RegionStatus.corrected (fun _ => by rfl) _ _ _,
      statusOf_modifyStatus_field RegionStatus.uncorrectable (fun _ => by rfl) _ _ _⟩
  · exact ⟨rfl, rfl⟩

/-- The report of an update of the tables, after the reports made before it. -/
theorem reportNews_log {s u t : State} {rs : List Report} (n : RepeatNews) (i a : Nat) (v : Word) (o : Origin)
    (hlog : u.log = logAfter s rs) (hi : u.map.image = s.map.image) (hc : t.checker = u.checker)
    (ht : t.lane = u.lane ∧ t.vote = u.vote ∧ t.patrol = u.patrol) :
    (reportNews n i a v o u).log = logAfter s (rs ++ newsReports n i a v o t) := by
  cases n with
  | nothing => simpa [reportNews, newsReports] using hlog
  | substituted =>
    simp only [newsReports, makeReport_congr ht, hc]
    exact offer_logAfter _ hlog hi
  | noSpare =>
    simp only [newsReports, makeReport_congr ht]
    exact offer_logAfter _ hlog hi

@[simp] theorem flagReported_frame (loc : Located) (s : State) : (flagReported loc s).lane = s.lane ∧
    (flagReported loc s).vote = s.vote ∧ (flagReported loc s).patrol = s.patrol ∧ (flagReported loc s).log = s.log ∧
    (flagReported loc s).map.image = s.map.image := by
  unfold flagReported; split <;> simp

/-- The reports of a corrected word, their fields read off the state it leaves. -/
theorem noteCorrected_log (c : Client) (loc : Located) (a : Nat) (v : Word) (y : Byte) (n : Nat) (s : State) :
    (noteCorrected c loc a v y n s).log = logAfter s
      (correctionReports c loc a y n s (noteCorrected c loc a v y n s) ++
        newsReports (repeatUpdate s.checker a v .correction).2 loc.index a v .correction
          (noteCorrected c loc a v y n s)) := by
  generalize hu : (if reportsCorrection s loc = true then _ else enterCorrected loc a v s) = u
  have ht : noteCorrected c loc a v y n s =
      reportNews (repeatUpdate s.checker a v .correction).2 loc.index a v .correction u := by
    rw [← hu]; exact noteCorrected_eq ..
  generalize noteCorrected c loc a v y n s = t at ht
  have himage : u.map.image = s.map.image := by rw [← hu]; split <;> simp [enterCorrected]
  have hmade : u.log = logAfter s (correctionReports c loc a y n s t) := by
    unfold correctionReports
    split at hu
    case isFalse h => rw [if_neg h, ← hu]; rfl
    case isTrue h =>
      have hcounts : countsWord t loc.index = countsWord (enterCorrected loc a v s) loc.index := by
        have hmap : t.map.status = (flagReported loc (enterCorrected loc a v s)).map.status := by simp [ht, ← hu]
        exact countsWord_congr (by simp [statusOf_congr hmap]) (by simp [statusOf_congr hmap])
      rw [if_pos h, hcounts, makeReport_congr (s := flagReported loc (enterCorrected loc a v s)) (by simp [ht, ← hu]),
        ← hu]
      exact offer_logAfter (rs := []) (t := flagReported loc (enterCorrected loc a v s)) _
        (by simp [enterCorrected]) (by simp [enterCorrected])
  rw [ht] at *
  exact reportNews_log _ _ _ _ _ hmade himage (by simp) (by simp)

/-! What a bad word has noted (R15, R25, R40). -/

theorem noteUncorrectable_eq (c : Client) (loc : Located) (a : Nat) (y : Byte) (s : State) :
    noteUncorrectable c loc a y s = offer (makeReport (raiseUncorrectable loc s) .uncorrectable (some loc.index)
      (placeWord a) (packFields [(Client.code c, 0), (y.toNat, 8)]) (countsWord (raiseUncorrectable loc s) loc.index))
      (raiseUncorrectable loc s) := rfl

theorem noteAddressFault_eq (c : Client) (loc : Located) (a : Nat) (y : Byte) (l : Nat) (s : State) :
    noteAddressFault c loc a y l s = offer (makeReport (raiseUncorrectable loc s) .addressFault (some loc.index)
      (placeWord a) (packFields [(Client.code c, 0), (y.toNat, 8), (l, 16)])
      (countsWord (raiseUncorrectable loc s) loc.index)) (raiseUncorrectable loc s) := rfl

end Sys2Proof.Machine
end

section
/-! The grant of an access (R11, R26, R46): at a quiet port it is granted at once, and it touches its own word alone. -/

namespace Sys2Proof.Machine

/-! A quiet port (R46, R50). -/

/-- The state in which an access taken at a quiet port has its burst. -/
def granted (acc : Access) (s : State) : State :=
  { s with lines := { s.lines with answer := none }
           through := { s.through with access := some acc }
           port := { s.port with procWaiting := false, afterDrain := false } }

theorem overdueClients_of_none_waiting {p : StorePort} (n : Nat) (h : waitingClients p = []) :
    overdueClients n p = [] := by
  simp only [waitingClients, overdueClients, List.filter_eq_nil_iff] at *
  intro b hb
  have hw := h b hb
  simp only [waits, Bool.not_eq_true, Option.isSome_eq_false_iff, Option.isNone_iff_eq_none] at hw
  simp [isOverdue, hw]

theorem choose_proc {s : State} (hd : s.port.drain = none) (hw : waitingClients s.port = [])
    (hp : procGrantable s = true) : choose s = .proc := by
  simp [choose, hd, hp, overdueClients_of_none_waiting _ hw]

theorem arbitrate_of_burst {s : State} {b : Burst} (h : s.port.burst = some b) : arbitrate s = s := by
  simp [arbitrate, h]

/-- The grant of an access that R11 does not refuse. -/
theorem grantProc_of_access {s : State} {acc : Access} {loc : Located} (ha : s.through.access = some acc)
    (hl : locate s (blockOf acc.word) = some loc)
    (hr : ¬ (acc.isWrite = true ∧ loc.policy.cls = .constant ∧ s.map.lock = true)) :
    grantProc s = procBurst loc acc (beginBurst .proc s) := by
  simp only [grantProc, ha, hl, if_neg hr]

theorem not_locked_of_taken {s : State} {acc : Access} {loc : Located} (hl : locate s (blockOf acc.word) = some loc)
    (h : refusalAtTaking s acc = none) :
    ¬ (acc.isWrite = true ∧ loc.policy.cls = .constant ∧ s.map.lock = true) := by
  rintro ⟨hw, hc, hk⟩
  simp [refusalAtTaking, hl, hw, hc, hk] at h

/-- At a quiet port an access that is not refused has its burst in the step that takes it. -/
theorem exec_accessTaken_quiet {s : State} {address data : Word} {isWrite : Bool} {enables : BitVec 4} {loc : Located}
    {b : Burst} (ht : takesAccess s = true) (hq : QuietPort s)
    (hl : locate s (address.toNat / 4 / 64) = some loc)
    (hr : refusalAtTaking s (accessOf address isWrite enables data) = none)
    (hb : (procBurst loc (accessOf address isWrite enables data)
      (beginBurst .proc (granted (accessOf address isWrite enables data) s))).port.burst = some b) :
    exec (.accessTaken address isWrite enables data) s = .next (procBurst loc (accessOf address isWrite enables data)
      (beginBurst .proc (granted (accessOf address isWrite enables data) s))) := by
  obtain ⟨hburst, hwait, hdrain, hcatch⟩ := hq
  have hnl := not_locked_of_taken (acc := accessOf address isWrite enables data) hl hr
  generalize hacc : accessOf address isWrite enables data = acc at *
  have hgrant : grantProc (granted acc s) = procBurst loc acc (beginBurst .proc (granted acc s)) :=
    grantProc_of_access rfl (by rw [← hacc]; exact hl) hnl
  generalize hu : takeAccess acc s = u
  have hu' : u = { s with lines := { s.lines with answer := none }
                          through := { s.through with access := some acc }
                          port := { s.port with procWaiting := true } } := by
    rw [← hu, takeAccess, hr]
  have harb : arbitrate u = grantProc (granted acc s) := by
    have hc : choose u = .proc := choose_proc (by simp [hu', hdrain]) (by rw [hu']; exact hwait)
      (by simp [hu', procGrantable, hcatch])
    have hg : (u.port.burst.isNone && someRequest u.port) = true := by simp [hu', hburst, someRequest]
    rw [arbitrate, if_pos hg, hc, hu']
    rfl
  rw [execAccessTaken_of_takes ht, hacc, hu, settle, harb, hgrant, arbitrate_of_burst hb]

/-! A grant touches its own word alone (R11). -/

theorem procRead_touchesOnly (loc : Located) (a : Nat) (s : State) : TouchesOnly a s (procRead loc a s) := by
  unfold procRead
  split
  case h_2 v y n _ =>
    exact ((noteCorrected_touchesOnly .proc loc a v y n s).trans (writeWord_touchesOnly a v _)).frame (by simp)
  case h_1 | h_3 | h_4 => exact .of_frame (by simp)

theorem storeWord_touchesOnly (c : Client) (loc : Located) (a : Nat) (v : Word) (s : State) :
    TouchesOnly a s (storeWord c loc a v s).2 := by
  have hbad (t : State) (h : t.checker.substs = s.checker.substs ∧ t.map.image = s.map.image ∧ t.sram = s.sram) :
      TouchesOnly a s (setBroken loc (writeWord a v t)) :=
    ((TouchesOnly.of_frame h).trans (writeWord_touchesOnly a v t)).frame (by simp)
  unfold storeWord
  split
  · exact writeWord_touchesOnly a v s
  split
  case h_1 old _ => exact (writeWord_touchesOnly a v s).frame (by simp)
  case h_2 old y n _ =>
    exact ((noteCorrected_touchesOnly c loc a old y n s).trans (writeWord_touchesOnly a v _)).frame (by simp)
  case h_3 => exact hbad _ (by simp)
  case h_4 => exact hbad _ (by simp)

theorem procFullWrite_touchesOnly (loc : Located) (a : Nat) (v : Word) (s : State) :
    TouchesOnly a s (procFullWrite loc a v s) := by
  refine (storeWord_touchesOnly .proc loc a v s).frame ?_
  simp only [procFullWrite]
  split <;> simp

theorem procMerge_touchesOnly (loc : Located) (acc : Access) (old : Word) (s : State) :
    TouchesOnly acc.word s (procMerge loc acc old s) := by
  have hmerge : TouchesOnly acc.word s
      { s with through := { s.through with merge := some (mergeBytes old acc.data acc.enables) } } := .of_frame (by simp)
  exact (hmerge.trans (writeWord_touchesOnly acc.word (mergeBytes old acc.data acc.enables) _)).frame (by simp [procMerge])

theorem procPartialWrite_touchesOnly (loc : Located) (acc : Access) (s : State) :
    TouchesOnly acc.word s (procPartialWrite loc acc s) := by
  unfold procPartialWrite
  split
  case h_1 => exact procMerge_touchesOnly ..
  case h_2 old y n _ => exact (noteCorrected_touchesOnly .proc loc acc.word old y n s).trans (procMerge_touchesOnly ..)
  case h_3 | h_4 => exact .of_frame (by simp [reportPartialRefused])

theorem procBurst_touchesOnly (loc : Located) (acc : Access) (s : State) :
    TouchesOnly acc.word s (procBurst loc acc s) := by
  unfold procBurst
  split
  · split
    · exact procFullWrite_touchesOnly ..
    · exact procPartialWrite_touchesOnly ..
  · exact (procRead_touchesOnly loc acc.word s).frame (by simp)

theorem grantProc_touchesOnly {s : State} {acc : Access} (ha : s.through.access = some acc) :
    TouchesOnly acc.word s (grantProc s) := by
  simp only [grantProc, ha]
  split
  case h_1 => exact .of_frame (by simp)
  case h_2 loc _ =>
    split
    · exact .of_frame (by simp)
    · have hbegin : TouchesOnly acc.word s (beginBurst .proc s) := .of_frame (by simp)
      exact hbegin.trans (procBurst_touchesOnly ..)

/-- A write that finds the lock flag set over a CONSTANT word is refused at its grant (R11). -/
theorem grantProc_of_locked {s : State} {acc : Access} {loc : Located} (ha : s.through.access = some acc)
    (hw : acc.isWrite = true) (hk : s.map.lock = true) (hl : locate s (acc.word / 64) = some loc)
    (hc : loc.policy.cls = .constant) : grantProc s = refuseAccess acc .locked s := by
  have hl' : locate s (blockOf acc.word) = some loc := hl
  simp only [grantProc, ha, hl']
  exact if_pos ⟨hw, hc, hk⟩

/-- Settles O19: a grant touches its own word alone, and a locked word is not granted. -/
theorem lockedConstantWordsStayAsTheyAre : Obligations.LockedConstantWordsStayAsTheyAre := by
  intro s acc ha hb
  refine ⟨(grantProc_touchesOnly ha).others, fun hw hk a loc hl hc => ?_, fun loc hw hk hl hc => ?_⟩
  · by_cases hword : a = acc.word
    · rw [hword] at hl ⊢
      rw [grantProc_of_locked ha hw hk hl hc]
      exact readWord_of_frame (by simp) _
    · exact (grantProc_touchesOnly ha).others a hword
  · have hblock : locate s (blockOf acc.word) = some loc := hl
    rw [grantProc_of_locked ha hw hk hl hc, refuseAccess_eq]
    refine ⟨refusedReport acc .locked s, ?_, ?_, rfl, rfl, rfl, rfl, ?_, rfl, ?_, ?_, ?_⟩
    · simp [refusedAnswer, hw]
    · simpa using hb
    · simp [refusedReport, makeReport, hblock]
    · simp [refusedReport, readEnables, hw]
    · rw [refusedReport_detail1, hw]; rfl
    · simp [refusedReport, makeReport, hw]

end Sys2Proof.Machine
end

section
/-! Processor reads (R23 to R25, R33, R35 to R37, R40). -/

namespace Sys2Proof.Machine

/-! One update of the repeat table (R35 to R37). -/

/-- What an update works with: the entry it leaves, with count `n` and mark `mark`, and the other entries (R35). -/
theorem repeatEntry_cases {c : WordChecker} {a n : Nat} {others : List RepeatEntry} {mark : Bool}
    (h : (∀ e ∈ c.repeats, e.address ≠ a) ∧ n = 1 ∧ mark = false ∧
        others = (if c.repeats.length < 8 then c.repeats else c.repeats.tail) ∨
      ∃ above e below, c.repeats = above ++ e :: below ∧ e.address = a ∧ (∀ x ∈ above ++ below, x.address ≠ a) ∧
        n = (if e.count < 3 then e.count + 1 else 3) ∧ mark = e.noSpare ∧ others = above ++ below) :
    repeatAfter c.repeats a = ⟨a, n, mark⟩ ∧ repeatOthers c.repeats a = others := by
  obtain ⟨hnew, rfl, rfl, rfl⟩ | ⟨above, e, below, hc, rfl, hne, rfl, rfl, rfl⟩ := h
  · have hfind : c.repeats.find? (fun e => decide (e.address = a)) = none := by simpa using hnew
    refine ⟨by simp [repeatAfter, hfind], ?_⟩
    by_cases hlt : c.repeats.length < 8
    · have hfilter : c.repeats.filter (fun e => decide (e.address ≠ a)) = c.repeats := by simpa using hnew
      rw [repeatOthers, if_neg (by simp [Config.repeatDepth, Nat.not_le.2 hlt]), if_pos hlt, hfilter]
    · have hge : 8 ≤ c.repeats.length := Nat.not_lt.1 hlt
      rw [repeatOthers, if_pos (by simp [hfind, Config.repeatDepth, hge]), if_neg hlt]
  · have habove : ∀ x ∈ above, x.address ≠ e.address := fun x hx => hne x (List.mem_append_left _ hx)
    have hbelow : ∀ x ∈ below, x.address ≠ e.address := fun x hx => hne x (List.mem_append_right _ hx)
    have hfind : c.repeats.find? (fun x => decide (x.address = e.address)) = some e := by
      rw [hc, List.find?_append, List.find?_eq_none.2 (by simpa using habove)]
      simp
    refine ⟨by simp [repeatAfter, hfind], ?_⟩
    rw [repeatOthers, if_neg (by simp [hfind]), hc]
    have hfilter : ∀ l : List RepeatEntry, (∀ x ∈ l, x.address ≠ e.address) →
        l.filter (fun x => decide (x.address ≠ e.address)) = l := fun l hl => by simpa using hl
    rw [List.filter_append, List.filter_cons_of_neg (by simp), hfilter _ habove, hfilter _ hbelow]

theorem repeatUpdate_of_lt {c : WordChecker} {a n : Nat} {mark : Bool} (v : Word) (o : Origin)
    (he : repeatAfter c.repeats a = ⟨a, n, mark⟩) (hn : n < 3) : repeatUpdate c a v o =
      ({ c with repeats := repeatOthers c.repeats a ++ [⟨a, n, mark⟩] }, .nothing) := by
  have h3 : ¬ n = 3 := by omega
  simp [repeatUpdate, he, h3]

theorem repeatUpdate_of_room {c : WordChecker} {a : Nat} {mark : Bool} (v : Word) (o : Origin)
    (he : repeatAfter c.repeats a = ⟨a, 3, mark⟩) (hs : c.substs.length < 16) : repeatUpdate c a v o =
      ({ repeats := repeatOthers c.repeats a, substs := c.substs ++ [⟨a, v, o⟩] }, .substituted) := by
  simp [repeatUpdate, he, Config.substDepth, hs]

theorem repeatUpdate_of_full {c : WordChecker} {a : Nat} {mark : Bool} (v : Word) (o : Origin)
    (he : repeatAfter c.repeats a = ⟨a, 3, mark⟩) (hs : 16 ≤ c.substs.length) : repeatUpdate c a v o =
      ({ c with repeats := repeatOthers c.repeats a ++ [⟨a, 3, true⟩] },
        if mark = true then .nothing else .noSpare) := by
  cases mark <;> simp [repeatUpdate, he, Config.substDepth, Nat.not_lt.2 hs]

/-! A corrected word written back (R33). -/

/-- A substituted word is CLEAN, so a corrected one is not substituted (R20). -/
theorem substOf_none_of_not_clean {s : State} {a : Nat} (h : ∀ v, readWord s a ≠ .clean v) : substOf s a = none := by
  cases hs : substOf s a with
  | none => rfl
  | some e => exact absurd (readWord_of_substOf hs) (h _)

/-- A word written back with the value its spare-store entry holds leaves the tables as they are. -/
theorem writeWord_checker_of_same {s : State} {a : Nat} {v : Word}
    (h : ∀ e ∈ s.checker.substs, e.address = a → e.value = v) : (writeWord a v s).checker = s.checker := by
  unfold writeWord
  split
  · have hmap : s.checker.substs.map (fun e => if e.address = a then { e with value := v } else e) =
        s.checker.substs := by
      conv_rhs => rw [← List.map_id s.checker.substs]
      refine List.map_congr_left fun e he => ?_
      split
      case isTrue ha => rw [← h e he ha]; rfl
      case isFalse => rfl
    simp only [hmap]
  · rfl

/-- A corrected word noted and written back. -/
def writeBack (c : Client) (loc : Located) (a : Nat) (v : Word) (y : Byte) (n : Nat) (s : State) : State :=
  writeWord a v (noteCorrected c loc a v y n s)

theorem writeBack_checker {c : Client} {loc : Located} {a : Nat} {v : Word} {y : Byte} {n : Nat} {s : State}
    (h : readWord s a = .corrected v y n) :
    (writeBack c loc a v y n s).checker = (repeatUpdate s.checker a v .correction).1 := by
  have hnone : substOf s a = none := substOf_none_of_not_clean fun w => by simp [h]
  have hne : ∀ e ∈ s.checker.substs, e.address ≠ a := by simpa [substOf] using hnone
  rw [writeBack, writeWord_checker_of_same, noteCorrected_checker]
  intro e he ha
  rw [noteCorrected_checker] at he
  obtain hs | hs := repeatUpdate_substs s.checker a v .correction
  · exact absurd ha (hne e (hs ▸ he))
  · rw [hs, List.mem_append, List.mem_singleton] at he
    obtain he | rfl := he
    · exact absurd ha (hne e he)
    · rfl

theorem writeBack_reads {c : Client} {loc : Located} {a : Nat} {v : Word} {y : Byte} {n : Nat} {s : State}
    (h : sramCanonical s.sram = true) : readWord (writeBack c loc a v y n s) a = .clean v :=
  readWord_writeWord_self a v (by simpa using h)

theorem writeBack_touchesOnly (c : Client) (loc : Located) (a : Nat) (v : Word) (y : Byte) (n : Nat) (s : State) :
    TouchesOnly a s (writeBack c loc a v y n s) :=
  (noteCorrected_touchesOnly c loc a v y n s).trans (writeWord_touchesOnly a v _)

@[simp] theorem writeBack_map (c : Client) (loc : Located) (a : Nat) (v : Word) (y : Byte) (n : Nat) (s : State) :
    (writeBack c loc a v y n s).map = (modifyStatus loc.index (correctedStatus loc) s).map := by
  rw [writeBack, ← noteCorrected_map c loc a v y n s]
  simp

@[simp] theorem writeBack_frame (c : Client) (loc : Located) (a : Nat) (v : Word) (y : Byte) (n : Nat) (s : State) :
    (writeBack c loc a v y n s).lines = s.lines ∧ (writeBack c loc a v y n s).loader = s.loader ∧
    (writeBack c loc a v y n s).through = s.through ∧ (writeBack c loc a v y n s).sig = s.sig ∧
    (writeBack c loc a v y n s).patrol = s.patrol ∧ (writeBack c loc a v y n s).link1 = s.link1 ∧
    (writeBack c loc a v y n s).link2 = s.link2 ∧ (writeBack c loc a v y n s).vote = s.vote ∧
    (writeBack c loc a v y n s).lane = s.lane ∧ (writeBack c loc a v y n s).copy = s.copy ∧
    (writeBack c loc a v y n s).clear = s.clear ∧ (writeBack c loc a v y n s).pending = s.pending ∧
    (writeBack c loc a v y n s).log = (noteCorrected c loc a v y n s).log ∧
    (writeBack c loc a v y n s).port.procWaiting = s.port.procWaiting := by
  simp [writeBack]

theorem writeBack_burstGoesOn (c : Client) (loc : Located) (a : Nat) (v : Word) (y : Byte) (n : Nat) (s : State) :
    BurstGoesOn s (writeBack c loc a v y n s) :=
  (BurstGoesOn.of_eq (by simp)).trans (writeWord_burstGoesOn a v (noteCorrected c loc a v y n s))

/-! Processor reads. -/

theorem procBurst_read {loc : Located} {acc : Access} (s : State) (h : acc.isWrite = false) :
    procBurst loc acc s = carryEnables acc s (procRead loc acc.word s) := by
  simp [procBurst, h]

theorem refusalAtTaking_read {s : State} {address data : Word} {enables : BitVec 4} {loc : Located}
    (hl : locate s (address.toNat / 4 / 64) = some loc) :
    refusalAtTaking s (accessOf address false enables data) = none := by
  rw [refusalAtTaking_eq, hl]; rfl

/-- The state of a burst just begun for an access. -/
theorem readWord_begun (acc : Access) (s : State) (a : Nat) :
    readWord (beginBurst .proc (granted acc s)) a = readWord s a := readWord_of_frame (by simp [granted]) a

theorem countsWord_eq (s : State) (i : Nat) : countsWord s i =
    BitVec.ofNat 32 ((statusOf s i).corrected + (statusOf s i).uncorrectable * 2 ^ 16) := by
  simp [countsWord, packFields]

theorem correctionReports_of_due {c : Client} {loc : Located} {a : Nat} {y : Byte} {n : Nat} {s t : State}
    (h : loc.policy.reporting = .every ∨ loc.policy.reporting = .firstPerPass ∧ (statusOf s loc.index).reported = false) :
    correctionReports c loc a y n s t = [makeReport t .corrected (some loc.index) (placeWord a)
      (packFields [(Client.code c, 0), (y.toNat, 8), (n, 16)]) (countsWord t loc.index)] := by
  obtain h | ⟨h, hr⟩ := h
  · simp [correctionReports, reportsCorrection, h]
  · simp [correctionReports, reportsCorrection, h, hr]

theorem correctionReports_of_not_due {c : Client} {loc : Located} {a : Nat} {y : Byte} {n : Nat} {s t : State}
    (h : loc.policy.reporting = .none ∨ loc.policy.reporting = .firstPerPass ∧ (statusOf s loc.index).reported = true) :
    correctionReports c loc a y n s t = [] := by
  obtain h | ⟨h, hr⟩ := h
  · simp [correctionReports, reportsCorrection, h]
  · simp [correctionReports, reportsCorrection, h, hr]

theorem procRead_of_clean {loc : Located} {a : Nat} {v : Word} {s : State} (h : readWord s a = .clean v) :
    procRead loc a s = setDueAnswer ⟨some v, false⟩ s := by simp [procRead, h]

theorem procRead_of_corrected {loc : Located} {a : Nat} {v : Word} {y : Byte} {n : Nat} {s : State}
    (h : readWord s a = .corrected v y n) :
    procRead loc a s = setDueAnswer ⟨some v, false⟩ (writeBack .proc loc a v y n s) := by
  simp only [procRead, h]; rfl

theorem setDueAnswer_burst {s : State} {b : Burst} (x : Answer) (h : s.port.burst = some b) :
    (setDueAnswer x s).port.burst = some { b with answer := some x } := by simp [setDueAnswer, h]

theorem correctionReports_congr {c : Client} {loc : Located} {a : Nat} {y : Byte} {n : Nat} {s t u : State}
    (h : t.lane = u.lane ∧ t.vote = u.vote ∧ t.patrol = u.patrol) (hm : t.map = u.map) :
    correctionReports c loc a y n s t = correctionReports c loc a y n s u := by
  have hs := fun i => statusOf_congr (congrArg RegionMap.status hm) i
  simp only [correctionReports, makeReport_congr h, countsWord, hs]

theorem newsReports_congr {k : RepeatNews} {i a : Nat} {v : Word} {o : Origin} {t u : State}
    (h : t.lane = u.lane ∧ t.vote = u.vote ∧ t.patrol = u.patrol) (hc : t.checker = u.checker) :
    newsReports k i a v o t = newsReports k i a v o u := by
  simp only [newsReports, makeReport_congr h, hc]

/-- The reports of a corrected read carry its byte enables (R22). -/
theorem carryEnables_corrected_log {acc : Access} {loc : Located} {a : Nat} {v : Word} {y : Byte} {n : Nat}
    {s t u : State} (hlog : u.log = (noteCorrected .proc loc a v y n s).log)
    (hframe : t.lane = s.lane ∧ t.vote = s.vote ∧ t.patrol = s.patrol)
    (hmap : t.map = (noteCorrected .proc loc a v y n s).map)
    (hchecker : t.checker = (noteCorrected .proc loc a v y n s).checker) :
    (carryEnables acc s u).log = logAfter s ((correctionReports .proc loc a y n s t ++
      newsReports (repeatUpdate s.checker a v .correction).2 loc.index a v .correction t).map
        (fun r => { r with enables := readEnables acc })) := by
  rw [correctionReports_congr (u := noteCorrected .proc loc a v y n s) (by simpa using hframe) hmap,
    newsReports_congr (u := noteCorrected .proc loc a v y n s) (by simpa using hframe) hchecker]
  exact carryEnables_logAfter acc (hlog.trans (noteCorrected_log ..))

/-- Settles O14: the entry an update works with, then the burst of a read by what its word reads as. -/
theorem readReturnsAGoodWord : Obligations.ReadReturnsAGoodWord := by
  refine ⟨fun c a v o others n mark h => ?_, fun s address data v enables loc ht hq hs hl => ?_⟩
  · obtain ⟨he, rfl⟩ := repeatEntry_cases h
    exact ⟨repeatUpdate_of_lt v o he, fun hn hlt => repeatUpdate_of_room v o (hn ▸ he) hlt,
      fun hn hle => repeatUpdate_of_full v o (hn ▸ he) hle⟩
  have hr := refusalAtTaking_read (data := data) (enables := enables) hl
  have hexec := fun b => exec_accessTaken_quiet (b := b) ht hq hl hr
  generalize hacc : accessOf address false enables data = acc at *
  have hword : acc.word = address.toNat / 4 := by rw [← hacc]; rfl
  have hwrite : acc.isWrite = false := by rw [← hacc]; rfl
  have henables : readEnables acc = some enables := by rw [← hacc]; rfl
  rw [procBurst_read _ hwrite, hword] at hexec
  generalize hbegun : beginBurst .proc (granted acc s) = begun at *
  have hreads (a : Nat) : readWord begun a = readWord s a := by rw [← hbegun]; exact readWord_begun acc s a
  have hburst : begun.port.burst = some ⟨.proc, none, .nothing, []⟩ := by rw [← hbegun]; rfl
  refine ⟨fun hv => ?_, fun syn wrong hv => ?_⟩
  · rw [procRead_of_clean ((hreads _).trans hv)] at hexec
    rw [hexec _ (by simpa using setDueAnswer_burst _ hburst), ← hbegun]
    simp [carryEnables, setDueAnswer, beginBurst, granted]
  · rw [procRead_of_corrected ((hreads _).trans hv)] at hexec
    generalize ha : address.toNat / 4 = a at *
    have hstatus (i : Nat) : statusOf begun i = statusOf s i := by rw [← hbegun]; rfl
    have hback := (hreads a).trans hv
    obtain ⟨w, hw⟩ := (writeBack_burstGoesOn .proc loc a v syn wrong begun).of_some hburst
    generalize ht : carryEnables acc begun (setDueAnswer ⟨some v, false⟩
      (writeBack .proc loc a v syn wrong begun)) = t at *
    have hmap : t.map = (modifyStatus loc.index (correctedStatus loc) begun).map := by simp [← ht]
    have hst := fun i => statusOf_congr (congrArg RegionMap.status hmap) i
    have hchecker : t.checker = (repeatUpdate s.checker a v .correction).1 := by
      rw [← ht, ← show begun.checker = s.checker by rw [← hbegun]; rfl]
      simpa using writeBack_checker hback
    have hburstT : t.port.burst = some ⟨.proc, some ⟨some v, false⟩, .nothing, w⟩ := by
      rw [← ht]; simpa using setDueAnswer_burst ⟨some v, false⟩ hw
    refine ⟨t, w, (correctionReports .proc loc a syn wrong begun t).map (fun r => { r with enables := some enables }),
      (newsReports (repeatUpdate s.checker a v .correction).2 loc.index a v .correction t).map
        (fun r => { r with enables := some enables }), hexec _ hburstT, ?frame, hburstT, ?waiting, ?reads, ?others,
      ?uncorrectable, ?corrected, ?regions, ?image, ?lock, hchecker, ?log, ?due, ?notDue, ?flag, ?news⟩
    case frame => exact State.ext (by simp [← ht, ← hbegun, granted])
    case waiting => simp [← ht, ← hbegun, granted]
    case reads =>
      rw [← writeBack_reads (c := .proc) (loc := loc) (a := a) (v := v) (y := syn) (n := wrong) (s := begun)
        (by rw [← hbegun]; exact hs), ← ht]
      exact readWord_of_frame (by simp) a
    case others =>
      have hbegins : TouchesOnly a s begun := .of_frame (by simp [← hbegun, granted])
      exact ((hbegins.trans (writeBack_touchesOnly .proc loc a v syn wrong begun)).frame (by simp [← ht])).others
    case uncorrectable =>
      rw [hst, ← hstatus]
      exact (statusOf_modifyStatus_field RegionStatus.uncorrectable (fun _ => by rfl) ..).symm
    case corrected =>
      intro hlen
      rw [hst, statusOf_modifyStatus_self _ (by rw [← hbegun]; exact hlen), hstatus]
      rfl
    case regions => intro i hi; rw [hst, statusOf_modifyStatus_of_ne _ hi, hstatus]
    case image => simp [hmap, ← hbegun, granted]
    case lock => simp [hmap, ← hbegun, granted]
    case flag =>
      intro hlen
      rw [hst, statusOf_modifyStatus_self _ (by rw [← hbegun]; exact hlen), hstatus]
      rfl
    case log =>
      have hlog := carryEnables_corrected_log (acc := acc) (loc := loc) (a := a) (v := v) (y := syn) (n := wrong)
        (s := begun) (t := t) (u := setDueAnswer ⟨some v, false⟩ (writeBack .proc loc a v syn wrong begun))
        (by simp) (by simp [← ht]) (by rw [hmap, noteCorrected_map])
        (by rw [noteCorrected_checker, hchecker, ← hbegun]; rfl)
      rw [ht, henables, List.map_append, logAfter_congr (s := s) _ (by simp [← hbegun, granted])
        (by simp [← hbegun, granted])] at hlog
      simpa [← hbegun, granted] using hlog
    case due =>
      intro hdue
      rw [correctionReports_of_due (by rw [hstatus]; exact hdue)]
      refine ⟨_, rfl, rfl, rfl, rfl, rfl, ?_, countsWord_eq t loc.index⟩
      simp [makeReport, packFields, Client.code, Nat.add_assoc]
    case notDue =>
      intro hdue
      rw [correctionReports_of_not_due (by rw [hstatus]; exact hdue)]
      rfl
    case news =>
      intro news hnews
      rw [hnews]
      refine ⟨?_, ?_, ?_⟩
      · rintro rfl; rfl
      · rintro rfl
        refine ⟨_, rfl, rfl, rfl, rfl, rfl, ?_, rfl⟩
        simp [makeReport, packFields, Origin.code]
      · rintro rfl
        exact ⟨_, rfl, rfl, rfl, rfl, rfl, rfl, rfl⟩

/-! A bad word (R6, R25, R150). -/

/-- The report of a full repair list (R150). -/
def deferredReports (loc : Located) (b : Nat) (s : State) : List Report :=
  if loc.policy.cls = .constant ∧ running s = true ∧ b ∉ s.copy.repairs ∧ 4 ≤ s.copy.repairs.length then
    [makeReport s .repairDeferred (some loc.index) (placeWord b) 0 0]
  else []

/-- The repair list after the class action of a bad block (R150). -/
def repairsAfter (loc : Located) (b : Nat) (s : State) : List Nat :=
  if loc.policy.cls = .constant ∧ running s = true ∧ b ∉ s.copy.repairs ∧ s.copy.repairs.length < 4 then
    s.copy.repairs ++ [b]
  else s.copy.repairs

theorem deferredReports_congr {s t : State} (h : t.lane = s.lane ∧ t.vote = s.vote ∧ t.patrol = s.patrol)
    (hc : t.copy = s.copy) (loc : Located) (b : Nat) : deferredReports loc b t = deferredReports loc b s := by
  simp only [deferredReports, makeReport_congr h, running_congr (congrArg LaneControl.state h.1), hc]

theorem repairsAfter_congr {s t : State} (h : t.lane.state = s.lane.state) (hc : t.copy = s.copy) (loc : Located)
    (b : Nat) : repairsAfter loc b t = repairsAfter loc b s := by
  simp only [repairsAfter, running_congr h, hc]

theorem classRepair_copy (loc : Located) (b : Nat) (s : State) :
    (classRepair loc b s).copy = { s.copy with repairs := repairsAfter loc b s } := by
  unfold classRepair offerRepair repairsAfter
  split
  case isFalse h => rw [if_neg (fun g => h ⟨g.1, g.2.1⟩)]
  case isTrue h =>
    split
    case isTrue hb => rw [if_neg (by simpa [h] using fun g => absurd (by simpa using hb) g)]
    case isFalse hb =>
      split
      case isTrue hlt => rw [if_pos ⟨h.1, h.2, by simpa using hb, hlt⟩]
      case isFalse hlt => rw [if_neg (fun g => hlt g.2.2.2)]; simp

theorem classRepair_log (loc : Located) (b : Nat) (s : State) :
    (classRepair loc b s).log = logAfter s (deferredReports loc b s) := by
  unfold classRepair offerRepair deferredReports
  split
  case isFalse h => rw [if_neg (fun g => h ⟨g.1, g.2.1⟩)]; rfl
  case isTrue h =>
    split
    case isTrue hb => rw [if_neg (fun g => g.2.2.1 (by simpa using hb))]; rfl
    case isFalse hb =>
      split
      case isTrue hlt => rw [if_neg (fun g => absurd hlt (Nat.not_lt.2 g.2.2.2))]; rfl
      case isFalse hlt => rw [if_pos ⟨h.1, h.2, by simpa using hb, Nat.not_lt.1 hlt⟩]; rfl

@[simp] theorem classRepair_burst (loc : Located) (b : Nat) (s : State) :
    (classRepair loc b s).port.burst = s.port.burst ∧ (classRepair loc b s).port.procWaiting = s.port.procWaiting := by
  unfold classRepair offerRepair; (repeat' split) <;> simp

theorem classCause_of_isolating {loc : Located} (s : State)
    (h : loc.policy.cls = .voted ∨ (loc.policy.cls = .plain ∧ loc.policy.isolates = true)) :
    (running s = true → classCause s loc = .leave .memory (some loc.index)) ∧
      (s.lane.state = .joining → classCause s loc = .failAttempt .memory) ∧
      (running s = false → s.lane.state ≠ .joining → classCause s loc = .nothing) := by
  rw [classCause, if_pos h]
  cases hs : s.lane.state <;> simp [running, hs]

theorem classCause_of_staying {loc : Located} (s : State)
    (h : loc.policy.cls = .constant ∨ loc.policy.cls = .log ∨ (loc.policy.cls = .plain ∧ loc.policy.isolates = false)) :
    classCause s loc = .nothing := by
  obtain h | h | ⟨h, hi⟩ := h <;> simp [classCause, *]

theorem classCause_congr {s t : State} (h : t.lane.state = s.lane.state) (loc : Located) :
    classCause t loc = classCause s loc := by simp only [classCause, h]

/-- A bad word read: counted and reported, and then its class action (R25). -/
theorem procRead_of_bad {loc : Located} {a : Nat} {raw : Word} {y : Byte} {s : State}
    (h : readWord s a = .uncorrectable raw y ∨ ∃ l, readWord s a = .address raw y l) :
    ∃ r : Report, procRead loc a s = setDueAnswer ⟨some raw, true⟩
        (procClassAction loc (blockOf a) (offer r (raiseUncorrectable loc s))) ∧
      r.names = some loc.index ∧ r.place = placeWord a ∧ r.detail2 = countsWord (raiseUncorrectable loc s) loc.index ∧
      (readWord s a = .uncorrectable raw y → r.kind = .uncorrectable ∧
        r.detail1 = BitVec.ofNat 32 (1 + y.toNat * 2 ^ 8)) ∧
      ∀ l, readWord s a = .address raw y l → r.kind = .addressFault ∧
        r.detail1 = BitVec.ofNat 32 (1 + y.toNat * 2 ^ 8 + l * 2 ^ 16) := by
  obtain h | ⟨l, h⟩ := h
  · refine ⟨_, by simp only [procRead, h]; rfl, rfl, rfl, rfl, fun _ => ⟨rfl, ?_⟩, by simp [h]⟩
    simp [makeReport, packFields, Client.code]
  · refine ⟨_, by simp only [procRead, h]; rfl, rfl, rfl, rfl, by simp [h], fun k hk => ⟨rfl, ?_⟩⟩
    rw [h] at hk
    cases hk
    simp [makeReport, packFields, Client.code, Nat.add_assoc]

@[simp] theorem procClassAction_burst {loc : Located} {b : Nat} {s : State} {u : Burst} (h : s.port.burst = some u) :
    (procClassAction loc b s).port.burst = some { u with atEnd := classCause s loc } := by
  simp [procClassAction, setAtEnd, h]

theorem procClassAction_copy (loc : Located) (b : Nat) (s : State) :
    (procClassAction loc b s).copy = { s.copy with repairs := repairsAfter loc b s } := by
  rw [procClassAction, classRepair_copy]
  rfl

theorem procClassAction_log (loc : Located) (b : Nat) (s : State) :
    (procClassAction loc b s).log = logAfter s (deferredReports loc b s) := by
  rw [procClassAction, classRepair_log]
  exact logAfter_congr _ (by simp) (by simp)

/-- Settles O15: the report of the bad word, then the class action. -/
theorem readOfABadWordIsAnError : Obligations.ReadOfABadWordIsAnError := by
  intro s address data raw syn enables loc ht hq hl hbad
  have hr := refusalAtTaking_read (data := data) (enables := enables) hl
  have hexec := fun b => exec_accessTaken_quiet (b := b) ht hq hl hr
  generalize hacc : accessOf address false enables data = acc at *
  have hword : acc.word = address.toNat / 4 := by rw [← hacc]; rfl
  have hwrite : acc.isWrite = false := by rw [← hacc]; rfl
  have henables : readEnables acc = some enables := by rw [← hacc]; rfl
  rw [procBurst_read _ hwrite, hword] at hexec
  generalize hbegun : beginBurst .proc (granted acc s) = begun at *
  have hreads (a : Nat) : readWord begun a = readWord s a := by rw [← hbegun]; exact readWord_begun acc s a
  have hburst : begun.port.burst = some ⟨.proc, none, .nothing, []⟩ := by rw [← hbegun]; rfl
  have hstatus (i : Nat) : statusOf begun i = statusOf s i := by rw [← hbegun]; rfl
  generalize ha : address.toNat / 4 = a at *
  rw [← hreads a] at hbad
  obtain ⟨r, hread, hnames, hplace, hdetail2, hunc, haddr⟩ := procRead_of_bad (loc := loc) hbad
  rw [hreads a] at hunc haddr
  rw [hread] at hexec
  generalize hnoted : offer r (raiseUncorrectable loc begun) = noted at *
  generalize ht : carryEnables acc begun (setDueAnswer ⟨some raw, true⟩
    (procClassAction loc (blockOf a) noted)) = t at *
  have hmap : t.map = (raiseUncorrectable loc begun).map := by simp [← ht, ← hnoted]
  have hst := fun i => statusOf_congr (congrArg RegionMap.status hmap) i
  have hburstT : t.port.burst = some ⟨.proc, some ⟨some raw, true⟩, classCause s loc, []⟩ := by
    have hnb : noted.port.burst = some ⟨.proc, none, .nothing, []⟩ := by rw [← hnoted]; simpa using hburst
    have hc : classCause noted loc = classCause s loc := classCause_congr (by simp [← hnoted, ← hbegun, granted]) loc
    rw [← ht, ← hc]
    simpa using setDueAnswer_burst ⟨some raw, true⟩ (procClassAction_burst hnb)
  have hrepairs : repairsAfter loc (blockOf a) noted = repairsAfter loc (blockOf a) s :=
    repairsAfter_congr (by simp [← hnoted, ← hbegun, granted]) (by simp [← hnoted, ← hbegun, granted]) _ _
  have hdeferred : deferredReports loc (blockOf a) noted = deferredReports loc (blockOf a) s :=
    deferredReports_congr (by simp [← hnoted, ← hbegun, granted]) (by simp [← hnoted, ← hbegun, granted]) _ _
  have hcopy : t.copy = { s.copy with repairs := repairsAfter loc (blockOf a) s } := by
    have hnc : noted.copy = s.copy := by simp [← hnoted, ← hbegun, granted]
    rw [← ht]
    simp only [carryEnables_frame, setDueAnswer_frame, procClassAction_copy, hrepairs, hnc]
  refine ⟨t, classCause s loc, { r with enables := some enables },
    (deferredReports loc (blockOf a) s).map (fun r => { r with enables := some enables }), hexec _ hburstT, ?frame,
    hburstT, ?waiting, ?count, ?image, ?lock, ?isolating, classCause_of_staying s, ?repairs, ?log, ?all, hplace, ?detail2,
    hunc, haddr, ?deferred, ?none⟩
  case frame =>
    refine State.ext ?_
    simp only [hcopy]
    simp [← ht, ← hnoted, ← hbegun, granted]
  case waiting => simp [← ht, ← hnoted, ← hbegun, granted, procClassAction]
  case count =>
    intro hlen
    rw [hst, raiseUncorrectable, statusOf_modifyStatus_self _ (by rw [← hbegun]; exact hlen), hstatus]
    rfl
  case image => simp [hmap, ← hbegun, granted]
  case lock => simp [hmap, ← hbegun, granted]
  case isolating =>
    intro h
    obtain ⟨hrun, hjoin, -⟩ := classCause_of_isolating s h
    exact ⟨hrun, hjoin⟩
  case repairs => rw [hcopy]; rfl
  case log =>
    have hlog : (setDueAnswer ⟨some raw, true⟩ (procClassAction loc (blockOf a) noted)).log =
        logAfter begun (r :: deferredReports loc (blockOf a) s) := by
      have hmade : noted.log = logAfter begun [r] := by
        rw [← hnoted]; exact offer_logAfter (rs := []) r (by simp) (by simp)
      simp only [setDueAnswer_frame, procClassAction_log, hdeferred]
      exact logAfter_append _ hmade (by simp [← hnoted])
    rw [← ht, carryEnables_logAfter acc hlog, henables]
    exact logAfter_congr _ (by simp [← hbegun, granted]) (by simp [← hbegun, granted])
  case all =>
    intro q hq
    simp only [List.mem_cons, List.mem_map] at hq
    obtain rfl | ⟨d, hd, rfl⟩ := hq
    · exact ⟨rfl, hnames⟩
    · unfold deferredReports at hd
      split at hd
      · rw [List.mem_singleton.1 hd]; exact ⟨rfl, rfl⟩
      · cases hd
  case detail2 => rw [hst, ← countsWord_eq]; exact hdetail2
  case deferred =>
    intro h
    rw [show deferredReports loc (blockOf a) s = [_] from if_pos h]
    exact ⟨_, rfl, rfl, rfl⟩
  case none =>
    intro h
    rw [show deferredReports loc (blockOf a) s = [] from if_neg h]
    rfl

end Sys2Proof.Machine
end

section
/-! Full-word processor writes (R27, R30 to R32, R57, R62). -/

namespace Sys2Proof.Machine

/-! A word stored into its region (R27, R30, R31). -/

theorem storeWord_of_plain {c : Client} {loc : Located} {a : Nat} {v : Word} {s : State} (h : loc.slot = none) :
    storeWord c loc a v s = (false, writeWord a v s) := by simp [storeWord, h]

/-- Over a good old word the delta is applied after the write (R30). -/
theorem storeWord_of_good {c : Client} {loc : Located} {a k : Nat} {v old : Word} {s : State} (hk : loc.slot = some k)
    (h : readWord s a = .clean old ∨ ∃ y n, readWord s a = .corrected old y n) :
    ∃ u, storeWord c loc a v s = (false, applyDelta loc a old v (writeWord a v u)) ∧ u.sig = s.sig ∧
      u.patrol = s.patrol := by
  obtain h | ⟨y, n, h⟩ := h
  · exact ⟨s, by simp [storeWord, hk, h], rfl, rfl⟩
  · exact ⟨noteCorrected c loc a old y n s, by simp [storeWord, hk, h], by simp, by simp⟩

/-- Over a bad old word the broken flag is set after the write (R31). -/
theorem storeWord_of_bad {c : Client} {loc : Located} {a k : Nat} {v raw : Word} {y : Byte} {s : State}
    (hk : loc.slot = some k) (h : readWord s a = .uncorrectable raw y ∨ ∃ l, readWord s a = .address raw y l) :
    ∃ u, storeWord c loc a v s = (true, setBroken loc (writeWord a v u)) ∧ u.sig = s.sig ∧ u.patrol = s.patrol ∧
      u.map = (raiseUncorrectable loc s).map := by
  obtain h | ⟨l, h⟩ := h
  · exact ⟨noteUncorrectable c loc a y s, by simp [storeWord, hk, h], by simp, by simp, by simp [noteUncorrectable_eq]⟩
  · exact ⟨noteAddressFault c loc a y l s, by simp [storeWord, hk, h], by simp, by simp, by simp [noteAddressFault_eq]⟩

theorem storeWord_reads {c : Client} {loc : Located} {a : Nat} {v : Word} {s : State} (h : sramCanonical s.sram = true) :
    readWord (storeWord c loc a v s).2 a = .clean v := by
  have hframe {t u : State} (hu : sramCanonical u.sram = true) (ht : t.checker.substs = (writeWord a v u).checker.substs ∧
      t.map.image = (writeWord a v u).map.image ∧ t.sram = (writeWord a v u).sram) : readWord t a = .clean v :=
    (readWord_of_frame ht a).trans (readWord_writeWord_self a v hu)
  unfold storeWord
  split
  · exact readWord_writeWord_self a v h
  split
  case h_1 => exact hframe h (by simp)
  case h_2 old y n _ => exact hframe (u := noteCorrected c loc a old y n s) (by simpa using h) (by simp)
  case h_3 y _ => exact hframe (u := noteUncorrectable c loc a y s) (by simpa using h) (by simp)
  case h_4 y l _ => exact hframe (u := noteAddressFault c loc a y l s) (by simpa using h) (by simp)

theorem storeWord_burstGoesOn (c : Client) (loc : Located) (a : Nat) (v : Word) (s : State) :
    BurstGoesOn s (storeWord c loc a v s).2 := by
  have hwrite {t u : State} (hu : u.port.burst = s.port.burst) (ht : t.port.burst = (writeWord a v u).port.burst) :
      BurstGoesOn s t := ((BurstGoesOn.of_eq hu).trans (writeWord_burstGoesOn a v u)).trans (.of_eq ht)
  unfold storeWord
  split
  · exact writeWord_burstGoesOn a v s
  split
  case h_1 => exact hwrite rfl (by simp)
  case h_2 old y n _ => exact hwrite (u := noteCorrected c loc a old y n s) (by simp) (by simp)
  case h_3 y _ => exact hwrite (u := noteUncorrectable c loc a y s) (by simp [noteUncorrectable]) (by simp)
  case h_4 y l _ => exact hwrite (u := noteAddressFault c loc a y l s) (by simp [noteAddressFault]) (by simp)

@[simp] theorem storeWord_procWaiting (c : Client) (loc : Located) (a : Nat) (v : Word) (s : State) :
    (storeWord c loc a v s).2.port.procWaiting = s.port.procWaiting := by
  unfold storeWord noteUncorrectable noteAddressFault
  (repeat' split) <;> simp

theorem applyDelta_sig (loc : Located) (a : Nat) (v w : Word) (s : State) :
    (applyDelta loc a v w s).sig = { s.sig with live := (applyDelta loc a v w s).sig.live } := by
  unfold applyDelta; split <;> rfl

theorem storeWord_sig (c : Client) (loc : Located) (a : Nat) (v : Word) (s : State) :
    (storeWord c loc a v s).2.sig = { s.sig with live := (storeWord c loc a v s).2.sig.live } := by
  have hdelta (old : Word) (t : State) (h : t.sig = s.sig) :
      (applyDelta loc a old v t).sig = { s.sig with live := (applyDelta loc a old v t).sig.live } := by
    rw [← h]; exact applyDelta_sig ..
  unfold storeWord
  split
  case isTrue => simp
  case isFalse =>
    split
    case h_1 | h_2 => exact hdelta _ _ (by simp)
    case h_3 | h_4 => simp

theorem storeWord_patrol (c : Client) (loc : Located) (a : Nat) (v : Word) (s : State) :
    (storeWord c loc a v s).2.patrol =
      { s.patrol with accumulator := (storeWord c loc a v s).2.patrol.accumulator } := by
  have hdelta (old : Word) (t : State) (h : t.patrol = s.patrol) :
      (applyDelta loc a old v t).patrol = { s.patrol with accumulator := (applyDelta loc a old v t).patrol.accumulator } := by
    rw [← h]; exact applyDelta_patrol ..
  unfold storeWord
  split
  case isTrue => simp
  case isFalse =>
    split
    case h_1 | h_2 => exact hdelta _ _ (by simp)
    case h_3 | h_4 => simp

theorem handToCopyEngine_copy (loc : Located) (b : Nat) (s : State) :
    (handToCopyEngine loc b s).copy = { s.copy with dirty := (handToCopyEngine loc b s).copy.dirty } := by
  unfold handToCopyEngine appendDirty; (repeat' split) <;> rfl

/-- What is marked dirty depends on the copy engine alone (R143). -/
theorem handToCopyEngine_dirty_congr {s t : State} (h : t.copy = s.copy) (loc : Located) (b : Nat) :
    (handToCopyEngine loc b t).copy.dirty = (handToCopyEngine loc b s).copy.dirty := by
  unfold handToCopyEngine appendDirty behindCursor
  rw [h]
  (repeat' split) <;> simp [h]

/-- What a full-word write leaves for the end of its burst (R31, R62). -/
def fullWriteEnd (loc : Located) (bad : Bool) : AtEnd :=
  if bad then .leave .signatureBroken (brokenNames loc) else .nothing

theorem procFullWrite_burst {loc : Located} {a : Nat} {v : Word} {s : State} {c : Client}
    (h : s.port.burst = some ⟨c, none, .nothing, []⟩) : ∃ w, (procFullWrite loc a v s).port.burst =
      some ⟨c, some ⟨none, false⟩, fullWriteEnd loc (storeWord .proc loc a v s).1, w⟩ := by
  obtain ⟨w, hw⟩ := (storeWord_burstGoesOn .proc loc a v s).of_some h
  refine ⟨w, ?_⟩
  cases hb : (storeWord .proc loc a v s).1 <;> simp [procFullWrite, hb, setDueAnswer, setAtEnd, hw, fullWriteEnd]

theorem procFullWrite_same (loc : Located) (a : Nat) (v : Word) (s : State) :
    (procFullWrite loc a v s).sig = (storeWord .proc loc a v s).2.sig ∧
      (procFullWrite loc a v s).patrol = (storeWord .proc loc a v s).2.patrol ∧
      (procFullWrite loc a v s).map = (storeWord .proc loc a v s).2.map ∧
      (procFullWrite loc a v s).checker = (storeWord .proc loc a v s).2.checker ∧
      (procFullWrite loc a v s).sram = (storeWord .proc loc a v s).2.sram ∧
      (procFullWrite loc a v s).copy = (handToCopyEngine loc (blockOf a) s).copy ∧
      (procFullWrite loc a v s).port.procWaiting = s.port.procWaiting := by
  have hcopy : (handToCopyEngine loc (blockOf a) (storeWord .proc loc a v s).2).copy =
      (handToCopyEngine loc (blockOf a) s).copy := by
    rw [handToCopyEngine_copy, handToCopyEngine_copy loc _ s,
      handToCopyEngine_dirty_congr (t := (storeWord .proc loc a v s).2) (s := s) (by simp)]
    simp
  rw [← hcopy]
  simp only [procFullWrite]
  split <;> simp

/-- Settles O16: by the slot of the region and the old word. -/
theorem fullWriteStoresItsData : Obligations.FullWriteStoresItsData := by
  intro s address data loc ht hq hs hl hr
  have hexec := fun b => exec_accessTaken_quiet (b := b) ht hq hl hr
  generalize hacc : accessOf address true 15#4 data = acc at *
  generalize hbegun : beginBurst .proc (granted acc s) = begun at *
  have hbursts : procBurst loc acc begun = procFullWrite loc (address.toNat / 4) data begun := by
    rw [← hacc]; rfl
  have hreads (a : Nat) : readWord begun a = readWord s a := by rw [← hbegun]; exact readWord_begun acc s a
  have hburst : begun.port.burst = some ⟨.proc, none, .nothing, []⟩ := by rw [← hbegun]; rfl
  have hframe : begun.sig = s.sig ∧ begun.patrol = s.patrol ∧ begun.map = s.map ∧ begun.copy = s.copy := by
    simp [← hbegun, granted]
  obtain ⟨hsig, hpatrol, hmap, hcopy⟩ := hframe
  rw [hbursts] at hexec
  generalize ha : address.toNat / 4 = a at *
  obtain ⟨w, hw⟩ := procFullWrite_burst (loc := loc) (a := a) (v := data) hburst
  obtain ⟨tsig, tpatrol, tmap, tchecker, tsram, tcopy, twaiting⟩ := procFullWrite_same loc a data begun
  have ssig := storeWord_sig .proc loc a data begun
  have spatrol := storeWord_patrol .proc loc a data begun
  have hdirty : (procFullWrite loc a data begun).copy =
      { s.copy with dirty := (handToCopyEngine loc (blockOf a) s).copy.dirty } := by
    rw [tcopy, handToCopyEngine_copy, hcopy, handToCopyEngine_dirty_congr hcopy]
  refine ⟨procFullWrite loc a data begun, _, w, hexec _ hw, ?frame, hw, ?waiting, ?reads, ?others, ?dirty, ?plain,
    fun k hk => ⟨fun old hold => ?good, fun raw syn hbad => ?bad⟩⟩
  case frame =>
    refine State.ext ?_
    rw [tsig, tpatrol, ssig, spatrol, hsig, hpatrol, hdirty]
    simp [← hbegun, granted]
  case waiting => rw [twaiting, ← hbegun]; simp [granted]
  case reads =>
    rw [← storeWord_reads (c := .proc) (loc := loc) (a := a) (v := data) (s := begun) (by rw [← hbegun]; exact hs)]
    exact readWord_of_frame ⟨congrArg _ tchecker, congrArg _ tmap, tsram⟩ a
  case others =>
    have hbegins : TouchesOnly a s begun := .of_frame (by simp [← hbegun, granted])
    exact (hbegins.trans (procFullWrite_touchesOnly loc a data begun)).others
  case dirty => rw [hdirty]; rfl
  case plain =>
    intro hplain
    rw [tsig, tpatrol, tmap, storeWord_of_plain hplain]
    simp [hsig, hpatrol, hmap, fullWriteEnd]
  case good =>
    rw [← hreads] at hold
    obtain ⟨u, hu, usig, upatrol⟩ := storeWord_of_good (c := .proc) (v := data) hk hold
    rw [tsig, tpatrol, hu]
    simp [applyDelta, hk, usig, upatrol, hsig, hpatrol, fullWriteEnd, positionIn]
  case bad =>
    rw [← hreads] at hbad
    obtain ⟨u, hu, usig, upatrol, umap⟩ := storeWord_of_bad (c := .proc) (v := data) hk hbad
    rw [tsig, tpatrol, statusOf_congr (congrArg RegionMap.status tmap), hu]
    refine ⟨⟨_, rfl⟩, by simp [usig, hsig], by simp [upatrol, hpatrol], fun hlen => ?_⟩
    have hul : loc.index < (writeWord a data u).map.status.length := by
      simpa [umap, hmap, raiseUncorrectable] using hlen
    exact congrArg RegionStatus.broken (statusOf_modifyStatus_self _ hul)

end Sys2Proof.Machine
end

section
/-! SUPPORT. A run of words scrubbed (R15, R33, R35, R76, R78): word after word what reading it leaves, and what that comes
to for the run. -/

namespace Sys2Proof.Machine

/-- The tables after the reading of a word with this outcome (R35). -/
def tablesAfter (c : WordChecker) (a : Nat) (x : ReadOutcome) : WordChecker :=
  match x with
  | .corrected v _ _ => (repeatUpdate c a v .correction).1
  | _ => c

/-- A region's status after the reading of a word with this outcome: its counts (R15) and nothing but the report flag
else. -/
structure CountedBy (x : ReadOutcome) (before after : RegionStatus) : Prop where
  corrected : after.corrected = if wasCorrected x then raiseCount before.corrected else before.corrected
  uncorrectable : after.uncorrectable =
    if (goodValue x).isNone then raiseCount before.uncorrectable else before.uncorrectable
  broken : after.broken = before.broken

/-- What the reading of one word leaves. -/
structure WordScrubbed (loc : Located) (a : Nat) (s t : State) : Prop where
  touches : TouchesOnly a s t
  good : ∀ v, goodValue (readWord s a) = some v → readWord t a = .clean v
  bad : goodValue (readWord s a) = none → readWord t a = readWord s a
  tables : t.checker = tablesAfter s.checker a (readWord s a)
  counted : loc.index < s.map.status.length → CountedBy (readWord s a) (statusOf s loc.index) (statusOf t loc.index)
  others : ∀ i, i ≠ loc.index → statusOf t i = statusOf s i
  broken : ∀ i, (statusOf t i).broken = (statusOf s i).broken
  regions : t.map.status.length = s.map.status.length
  canonical : sramCanonical t.sram = true

theorem scrubWord_fst (c : Client) (loc : Located) (a : Nat) (s : State) :
    (scrubWord c loc a s).1 = goodValue (readWord s a) := by
  unfold scrubWord; split <;> simp [goodValue, *]

/-- A bad word is counted and left. -/
theorem wordScrubbed_of_bad {loc : Located} {a : Nat} {s t : State} (h : sramCanonical s.sram = true)
    (hx : goodValue (readWord s a) = none) (hframe : t.checker = s.checker ∧ t.sram = s.sram)
    (hmap : t.map = (raiseUncorrectable loc s).map) : WordScrubbed loc a s t := by
  have hst := fun i => statusOf_congr (congrArg RegionMap.status hmap) i
  have hwords : t.checker.substs = s.checker.substs ∧ t.map.image = s.map.image ∧ t.sram = s.sram := by
    simp [hframe, hmap]
  have hnc : wasCorrected (readWord s a) = false := by
    cases hr : readWord s a <;> simp_all [goodValue, wasCorrected]
  refine ⟨.of_frame hwords, fun v hv => absurd hv (by simp [hx]), fun _ => readWord_of_frame hwords a, ?_, fun hlen => ?_,
    fun i hi => ?_, fun i => ?_, ?_, by rw [hframe.2]; exact h⟩
  · rw [hframe.1]
    cases hr : readWord s a <;> simp_all [goodValue, tablesAfter]
  · rw [hst, raiseUncorrectable, statusOf_modifyStatus_self _ hlen]
    exact ⟨by simp [hnc], by simp [hx], rfl⟩
  · rw [hst]; exact statusOf_modifyStatus_of_ne _ hi
  · rw [hst]; exact statusOf_modifyStatus_field RegionStatus.broken (fun _ => by rfl) ..
  · simp [hmap, raiseUncorrectable]

theorem scrubWord_spec (c : Client) (loc : Located) (a : Nat) {s : State} (h : sramCanonical s.sram = true) :
    WordScrubbed loc a s (scrubWord c loc a s).2 := by
  unfold scrubWord
  split
  case h_1 v hr =>
    refine ⟨.of_frame ⟨rfl, rfl, rfl⟩, fun w hw => ?_, fun hn => by simp [hr, goodValue] at hn, by simp [hr, tablesAfter],
      fun _ => ⟨by simp [hr, wasCorrected], by simp [hr, goodValue], rfl⟩, fun _ _ => rfl, fun _ => rfl, rfl, h⟩
    rw [hr] at hw ⊢
    exact congrArg ReadOutcome.clean (Option.some.inj hw)
  case h_2 v y n hr =>
    have hst := fun i => statusOf_congr (congrArg RegionMap.status (writeBack_map c loc a v y n s)) i
    refine ⟨writeBack_touchesOnly c loc a v y n s, fun w hw => ?_, fun hn => by simp [hr, goodValue] at hn, ?_, fun hlen => ?_,
      fun i hi => ?_, fun i => ?_, ?_, ?_⟩
    · rw [hr] at hw
      rw [← Option.some.inj hw]
      exact writeBack_reads h
    · rw [hr]; exact writeBack_checker hr
    · have hself := (hst loc.index).trans (statusOf_modifyStatus_self _ hlen)
      change CountedBy _ _ (statusOf (writeBack c loc a v y n s) loc.index)
      rw [hr, hself]
      exact ⟨rfl, rfl, rfl⟩
    · exact (hst i).trans (statusOf_modifyStatus_of_ne _ hi)
    · exact (congrArg RegionStatus.broken (hst i)).trans
        (statusOf_modifyStatus_field RegionStatus.broken (fun _ => by rfl) ..)
    · exact (congrArg (fun m => m.status.length) (writeBack_map c loc a v y n s)).trans (modifyStatus_length ..)
    · exact writeWord_canonical a v (by simpa using h)
  case h_3 raw y hr =>
    exact wordScrubbed_of_bad h (by simp [hr, goodValue]) (by simp) (by simp [noteUncorrectable_eq])
  case h_4 raw y l hr =>
    exact wordScrubbed_of_bad h (by simp [hr, goodValue]) (by simp) (by simp [noteAddressFault_eq])

/-- What the reading of a run of words leaves. -/
structure RunScrubbed (loc : Located) (as : List Nat) (s t : State) : Prop where
  good : ∀ a ∈ as, ∀ v, goodValue (readWord s a) = some v → readWord t a = .clean v
  bad : ∀ a ∈ as, goodValue (readWord s a) = none → readWord t a = readWord s a
  others : ∀ a, a ∉ as → readWord t a = readWord s a
  tables : t.checker = as.foldl (fun c a => tablesAfter c a (readWord s a)) s.checker
  corrected : loc.index < s.map.status.length → (statusOf s loc.index).corrected ≤ 65535 →
    (statusOf t loc.index).corrected = min 65535 ((statusOf s loc.index).corrected +
      as.countP (fun a => wasCorrected (readWord s a)))
  uncorrectable : loc.index < s.map.status.length → (statusOf s loc.index).uncorrectable ≤ 65535 →
    (statusOf t loc.index).uncorrectable = min 65535 ((statusOf s loc.index).uncorrectable +
      as.countP (fun a => (goodValue (readWord s a)).isNone))
  otherRegions : ∀ i, i ≠ loc.index → statusOf t i = statusOf s i
  broken : ∀ i, (statusOf t i).broken = (statusOf s i).broken

theorem raiseCount_eq {n : Nat} (h : n ≤ 65535) : raiseCount n = min 65535 (n + 1) := by
  have hmax : raiseCount n = if n < 65535 then n + 1 else 65535 := rfl
  rw [hmax]
  split <;> omega

/-- A count raised for the first word and then for the rest (R15). -/
theorem count_step {before mid after n : Nat} {b : Bool} (hmid : mid = if b then raiseCount before else before)
    (hrest : mid ≤ 65535 → after = min 65535 (mid + n)) (h : before ≤ 65535) :
    after = min 65535 (before + (n + if b then 1 else 0)) := by
  cases b with
  | false =>
    simp only [Bool.false_eq_true, if_false] at hmid ⊢
    rw [hrest (by omega)]
    omega
  | true =>
    rw [if_pos rfl, raiseCount_eq h] at hmid
    rw [hrest (by omega), if_pos rfl]
    omega

theorem scrubWords_spec (c : Client) (loc : Located) {as : List Nat} (has : as.Nodup) {s : State}
    (h : sramCanonical s.sram = true) : (scrubWords c loc as s).1 = as.map (fun a => goodValue (readWord s a)) ∧
      RunScrubbed loc as s (scrubWords c loc as s).2 := by
  induction as generalizing s with
  | nil =>
    exact ⟨rfl, nofun, nofun, fun _ _ => rfl, rfl, fun _ hle => (Nat.min_eq_right hle).symm,
      fun _ hle => (Nat.min_eq_right hle).symm, fun _ _ => rfl, fun _ => rfl⟩
  | cons a as ih =>
    obtain ⟨hmem, hnd⟩ := List.nodup_cons.1 has
    have hw := scrubWord_spec c loc a h
    simp only [scrubWords, scrubWord_fst]
    generalize (scrubWord c loc a s).2 = m at hw ⊢
    obtain ⟨hvals, hrun⟩ := ih hnd hw.canonical
    have hsame : ∀ b ∈ as, readWord m b = readWord s b := fun b hb =>
      hw.touches.others b (fun hba => hmem (hba ▸ hb))
    have hlast := hrun.others a hmem
    refine ⟨?_, ?_, ?_, ?_, ?_, ?_, ?_, ?_, ?_⟩
    · rw [hvals, List.map_cons]
      exact congrArg _ (List.map_congr_left fun b hb => by rw [hsame b hb])
    · intro b hb v hv
      obtain rfl | hb := List.mem_cons.1 hb
      · exact hlast.trans (hw.good v hv)
      · exact hrun.good b hb v (by rwa [hsame b hb])
    · intro b hb hn
      obtain rfl | hb := List.mem_cons.1 hb
      · exact hlast.trans (hw.bad hn)
      · exact (hrun.bad b hb (by rwa [hsame b hb])).trans (hsame b hb)
    · intro b hb
      obtain ⟨hba, hb⟩ := not_or.1 (List.mem_cons.not.1 hb)
      exact (hrun.others b hb).trans (hw.touches.others b hba)
    · rw [hrun.tables, hw.tables, List.foldl_cons]
      exact List.foldl_ext _ _ _ fun _ b hb => by rw [hsame b hb]
    · intro hlen hle
      rw [List.countP_cons]
      refine count_step (hw.counted hlen).corrected (fun hm => ?_) hle
      rw [hrun.corrected (by rwa [hw.regions]) hm]
      congr 2
      exact List.countP_congr fun b hb => by rw [hsame b hb]
    · intro hlen hle
      rw [List.countP_cons]
      refine count_step (hw.counted hlen).uncorrectable (fun hm => ?_) hle
      rw [hrun.uncorrectable (by rwa [hw.regions]) hm]
      congr 2
      exact List.countP_congr fun b hb => by rw [hsame b hb]
    · exact fun i hi => (hrun.otherRegions i hi).trans (hw.others i hi)
    · exact fun i => (hrun.broken i).trans (hw.broken i)

/-! A block (R1). -/

theorem blockWords_nodup (b : Nat) : (blockWords b).Nodup :=
  List.nodup_range.map fun x y h => by simpa using h

theorem mem_blockWords {b a : Nat} : a ∈ blockWords b ↔ 64 * b ≤ a ∧ a < 64 * b + 64 := by
  simp only [blockWords, List.mem_map, List.mem_range]
  exact ⟨fun ⟨j, hj, he⟩ => by omega, fun ⟨h, g⟩ => ⟨a - 64 * b, by omega, by omega⟩⟩

/-- The reading of a block, as the statements say it. -/
theorem RunScrubbed.scrubbed {loc : Located} {b : Nat} {s t : State} (h : RunScrubbed loc (blockWords b) s t) :
    Scrubbed loc (64 * b) s t := by
  have hmem : ∀ j < 64, 64 * b + j ∈ blockWords b := fun j hj => mem_blockWords.2 ⟨by omega, by omega⟩
  refine ⟨fun j v hj hv => h.good _ (hmem j hj) v hv, fun j hj hn => h.bad _ (hmem j hj) hn,
    fun a ha => h.others a (fun hm => ha (mem_blockWords.1 hm)), ?_, fun hlen hle => ?_, fun hlen hle => ?_,
    fun i hi => by rw [h.otherRegions i hi]; exact ⟨rfl, rfl⟩, h.broken⟩
  · rw [h.tables, blockWords, List.foldl_map]
    rfl
  · rw [h.corrected hlen hle, blockWords, List.countP_map]
    rfl
  · rw [h.uncorrectable hlen hle, blockWords, blockRead, List.countP_map, List.countP_map]
    rfl

theorem scrubWords_block (c : Client) (loc : Located) (b : Nat) {s : State} (h : sramCanonical s.sram = true) :
    (scrubWords c loc (blockWords b) s).1 = blockRead s (64 * b) ∧
      Scrubbed loc (64 * b) s (scrubWords c loc (blockWords b) s).2 := by
  obtain ⟨hvals, hrun⟩ := scrubWords_spec c loc (blockWords_nodup b) h
  refine ⟨?_, hrun.scrubbed⟩
  rw [hvals, blockWords, blockRead, List.map_map]
  rfl

/-- The same reading between states that agree in words, tables and counts. -/
theorem Scrubbed.frame {loc : Located} {base : Nat} {s s' t t' : State} (h : Scrubbed loc base s t)
    (hs : s'.checker = s.checker ∧ s'.map = s.map ∧ s'.sram = s.sram)
    (ht : t'.checker = t.checker ∧ t'.map.image = t.map.image ∧ t'.sram = t.sram)
    (hst : ∀ i, (statusOf t' i).corrected = (statusOf t i).corrected ∧
      (statusOf t' i).uncorrectable = (statusOf t i).uncorrectable ∧ (statusOf t' i).broken = (statusOf t i).broken) :
    Scrubbed loc base s' t' := by
  obtain ⟨hc, hm, hr⟩ := hs
  obtain ⟨tc, ti, tr⟩ := ht
  have hread : ∀ a, readWord s' a = readWord s a := readWord_of_frame ⟨by rw [hc], by rw [hm], hr⟩
  have tread : ∀ a, readWord t' a = readWord t a := readWord_of_frame ⟨by rw [tc], ti, tr⟩
  have hstat : ∀ i, statusOf s' i = statusOf s i := statusOf_congr (congrArg _ hm)
  have hblock : blockRead s' base = blockRead s base := by simp only [blockRead, hread]
  refine ⟨?_, ?_, ?_, ?_, ?_, ?_, ?_, ?_⟩
  · simpa only [hread, tread] using h.good
  · simpa only [hread, tread] using h.bad
  · exact fun a ha => by rw [tread, hread]; exact h.others a ha
  · simpa only [tc, hc, hread] using h.tables
  · simpa only [hm, hstat, (hst _).1, hread] using h.corrected
  · simpa only [hm, hstat, (hst _).2.1, hblock] using h.uncorrectable
  · intro i hi
    rw [(hst i).1, (hst i).2.1, hstat]
    exact h.otherCounts i hi
  · intro i
    rw [(hst i).2.2, hstat]
    exact h.broken i

/-- CLEAN words are read and nothing changes. -/
theorem scrubWords_of_clean (c : Client) (loc : Located) {as : List Nat} {s : State}
    (h : ∀ a ∈ as, ∃ v, readWord s a = .clean v) :
    scrubWords c loc as s = (as.map (fun a => goodValue (readWord s a)), s) := by
  induction as with
  | nil => rfl
  | cons a as ih =>
    obtain ⟨v, hv⟩ := h a List.mem_cons_self
    have hword : scrubWord c loc a s = (some v, s) := by simp [scrubWord, hv]
    simp [scrubWords, hword, ih fun b hb => h b (List.mem_cons_of_mem _ hb), hv, goodValue]

/-- 64 CLEAN words of a block read as they stand. -/
theorem scrubWords_of_cleanBlock (c : Client) (loc : Located) {b : Nat} {words : List Word} {s : State}
    (hlen : words.length = 64) (h : ∀ j v, words[j]? = some v → readWord s (64 * b + j) = .clean v) :
    scrubWords c loc (blockWords b) s = (words.map some, s) := by
  have hat : ∀ j (hj : j < 64), readWord s (64 * b + j) = .clean (words[j]'(by omega)) := fun j hj =>
    h j _ (List.getElem?_eq_getElem (by omega))
  rw [scrubWords_of_clean c loc fun a ha => by
    obtain ⟨h1, h2⟩ := mem_blockWords.1 ha
    have := hat (a - 64 * b) (by omega)
    rw [show 64 * b + (a - 64 * b) = a by omega] at this
    exact ⟨_, this⟩]
  refine congrArg (·, s) (List.ext_getElem (by simp [blockWords, hlen]) fun j h1 h2 => ?_)
  have hj : j < 64 := by simpa [hlen] using h2
  simp [blockWords, hat j hj, goodValue]

theorem scrubWords_burstGoesOn (c : Client) (loc : Located) (as : List Nat) (s : State) :
    BurstGoesOn s (scrubWords c loc as s).2 := by
  have hword (a : Nat) (s : State) : BurstGoesOn s (scrubWord c loc a s).2 := by
    unfold scrubWord
    split
    case h_1 => exact .of_eq rfl
    case h_2 v y n _ => exact writeBack_burstGoesOn c loc a v y n s
    case h_3 => exact .of_eq (by simp [noteUncorrectable])
    case h_4 => exact .of_eq (by simp [noteAddressFault])
  induction as generalizing s with
  | nil => exact .of_eq rfl
  | cons a as ih => exact (hword a s).trans (ih _)

end Sys2Proof.Machine
end

section
/-! The patrol's bursts (R74, R76 to R78, R80, R81). -/

namespace Sys2Proof.Machine

/-! The block dealt with (R77, R78). -/

theorem allGood_iff {ws : List (Option Word)} : allGood ws = true ↔ none ∉ ws := by
  simp only [allGood, List.all_eq_true]
  constructor
  · intro h hn; cases h none hn
  · intro h x hx
    cases x with
    | none => exact absurd hx h
    | some => rfl

theorem not_allGood_eq (ws : List (Option Word)) : (!allGood ws) = decide (none ∈ ws) := by
  rw [Bool.eq_iff_iff, Bool.not_eq_true', decide_eq_true_eq, ← Bool.not_eq_true, allGood_iff, not_not]

/-- The patrol after a block read: folded, and void at a bad word, in a signature region alone (R77, R78). -/
def foldedPatrol (loc : Located) (k : Nat) (ws : List (Option Word)) (p : Patrol) : Patrol :=
  if loc.slot.isSome then
    { p with accumulator := p.accumulator.map (fun acc => foldRead acc (64 * k) ws)
             void := p.void || !allGood ws }
  else p

theorem dealWithBlock_eq (loc : Located) (k : Nat) (ws : List (Option Word)) (s : State) : dealWithBlock loc k ws s =
    if allGood ws then { s with patrol := foldedPatrol loc k ws s.patrol }
    else procClassAction loc (loc.region.first + k) { s with patrol := foldedPatrol loc k ws s.patrol } := by
  simp only [dealWithBlock, procClassAction, foldedPatrol]
  cases loc.slot.isSome <;> rfl

theorem dealWithBlock_of_good {loc : Located} {k : Nat} {ws : List (Option Word)} {s : State} (h : none ∉ ws) :
    dealWithBlock loc k ws s = { s with patrol := foldedPatrol loc k ws s.patrol } := by
  rw [dealWithBlock_eq, if_pos (allGood_iff.2 h)]

theorem dealWithBlock_of_bad {loc : Located} {k : Nat} {ws : List (Option Word)} {s : State} (h : none ∈ ws) :
    dealWithBlock loc k ws s =
      procClassAction loc (loc.region.first + k) { s with patrol := foldedPatrol loc k ws s.patrol } := by
  rw [dealWithBlock_eq, if_neg (fun g => allGood_iff.1 g h)]

@[simp] theorem procClassAction_patrol (loc : Located) (b : Nat) (s : State) :
    (procClassAction loc b s).patrol = s.patrol := by simp [procClassAction]

theorem dealWithBlock_patrol (loc : Located) (k : Nat) (ws : List (Option Word)) (s : State) :
    (dealWithBlock loc k ws s).patrol = foldedPatrol loc k ws s.patrol := by
  rw [dealWithBlock_eq]; split <;> simp

/-- The repair list after the block: a bad CONSTANT block enters it (R6, R150). -/
theorem dealWithBlock_copy (loc : Located) (k : Nat) (ws : List (Option Word)) (s : State) :
    (dealWithBlock loc k ws s).copy = { s.copy with
      repairs := if none ∈ ws then repairsAfter loc (loc.region.first + k) s else s.copy.repairs } := by
  by_cases h : none ∈ ws
  · rw [dealWithBlock_of_bad h, if_pos h, procClassAction_copy]
    rfl
  · rw [dealWithBlock_of_good h, if_neg h]

theorem dealWithBlock_burst {loc : Located} {k : Nat} {ws : List (Option Word)} {s : State} {b : Burst}
    (hb : s.port.burst = some b) : (dealWithBlock loc k ws s).port.burst =
      some { b with atEnd := if none ∈ ws then classCause s loc else b.atEnd } := by
  by_cases h : none ∈ ws
  · rw [dealWithBlock_of_bad h, if_pos h]
    exact procClassAction_burst hb
  · rw [dealWithBlock_of_good h, if_neg h]
    exact hb

/-! The end of a region (R80, R81). -/

/-- No compare for a void walk, a broken region, or one without a slot; equal pairs report nothing. -/
theorem regionEnd_of_quiet {loc : Located} {s : State} (h : loc.slot = none ∨ s.patrol.void = true ∨
    (statusOf s loc.index).broken = true ∨
    ∃ slot acc, loc.slot = some slot ∧ s.patrol.accumulator = some acc ∧ s.sig.live[slot]? = some acc) :
    regionEnd loc s = s := by
  unfold regionEnd
  split
  case h_2 => rfl
  case h_1 slot acc hslot hacc =>
    split
    case isTrue => rfl
    case isFalse hn =>
      simp only [Bool.or_eq_true, not_or] at hn
      obtain h | h | h | ⟨slot', acc', h1, h2, h3⟩ := h
      · simp [h] at hslot
      · exact absurd h hn.1
      · exact absurd h hn.2
      · obtain rfl : slot' = slot := Option.some.inj (h1.symm.trans hslot)
        obtain rfl : acc' = acc := Option.some.inj (h2.symm.trans hacc)
        simp [h3, regionCompare]

/-- The report of unequal pairs (R81). -/
def faultReport (loc : Located) (slot : Nat) (live acc : Pair) (s : State) : Report :=
  makeReport s .signatureFault (some slot) (placeWord (loc.region.first + loc.region.count - 1))
    (placeWord (sigSub live.a acc.a)) (placeWord (sigSub live.b acc.b))

/-- Unequal pairs of an unbroken region whose walk is not void (R81). -/
theorem regionEnd_of_unequal {loc : Located} {s : State} {slot : Nat} {acc live : Pair} (hslot : loc.slot = some slot)
    (hacc : s.patrol.accumulator = some acc) (hlive : s.sig.live[slot]? = some live) (hv : s.patrol.void = false)
    (hb : (statusOf s loc.index).broken = false) (hne : live ≠ acc) :
    regionEnd loc s = setAtEnd (mismatchEnd s slot) (offer (faultReport loc slot live acc s) s) := by
  simp [regionEnd, hslot, hacc, hv, hb, hlive, regionCompare, hne, report_eq_offer, faultReport]

/-- Whatever the region end does, it is at most a report and work left for the end of the burst. -/
theorem regionEnd_burst {loc : Located} {s : State} {b : Burst} (h : s.port.burst = some b) :
    ∃ e, (regionEnd loc s).port.burst = some { b with atEnd := e } := by
  unfold regionEnd regionCompare
  split
  case h_2 => exact ⟨b.atEnd, h⟩
  case h_1 slot acc _ _ =>
    split
    case isTrue => exact ⟨b.atEnd, h⟩
    case isFalse =>
      split
      case h_2 => exact ⟨b.atEnd, h⟩
      case h_1 =>
        split
        · exact ⟨b.atEnd, h⟩
        · exact ⟨mismatchEnd s slot, by simp [setAtEnd, h]⟩

/-- The next region's start, or a new pass (R74, R75). -/
def nextRegion (loc : Located) (s : State) : State :=
  if loc.index + 1 < regionCount s then
    regionStart (loc.index + 1) { s with patrol := { s.patrol with cursor := some (loc.index + 1, 0) } }
  else regionStart 0 { s with patrol := { s.patrol with cursor := some (0, 0), pass := s.patrol.pass + 1 } }

theorem advanceCursor_of_lt {loc : Located} {k : Nat} (s : State) (h : k + 1 < loc.region.count) :
    advanceCursor loc k s = { s with patrol := { s.patrol with cursor := some (loc.index, k + 1) } } := by
  simp [advanceCursor, h]

theorem advanceCursor_of_last {loc : Located} {k : Nat} (s : State) (h : loc.region.count ≤ k + 1) :
    advanceCursor loc k s = nextRegion loc (regionEnd loc s) := by
  rw [advanceCursor, if_neg (by omega)]
  rfl

@[simp] theorem nextRegion_frame (loc : Located) (s : State) :
    (nextRegion loc s).lines = s.lines ∧ (nextRegion loc s).loader = s.loader ∧
    (nextRegion loc s).through = s.through ∧ (nextRegion loc s).checker = s.checker ∧
    (nextRegion loc s).sram = s.sram ∧ (nextRegion loc s).port = s.port ∧ (nextRegion loc s).sig = s.sig ∧
    (nextRegion loc s).link1 = s.link1 ∧ (nextRegion loc s).link2 = s.link2 ∧ (nextRegion loc s).vote = s.vote ∧
    (nextRegion loc s).lane = s.lane ∧ (nextRegion loc s).copy = s.copy ∧ (nextRegion loc s).clear = s.clear ∧
    (nextRegion loc s).log = s.log ∧ (nextRegion loc s).pending = s.pending ∧
    (nextRegion loc s).map.image = s.map.image ∧ (nextRegion loc s).map.lock = s.map.lock := by
  unfold nextRegion; split <;> simp

/-- A region start clears one region's report flag (R75). -/
theorem nextRegion_counts (loc : Located) (s : State) (i : Nat) :
    (statusOf (nextRegion loc s) i).corrected = (statusOf s i).corrected ∧
      (statusOf (nextRegion loc s) i).uncorrectable = (statusOf s i).uncorrectable ∧
      (statusOf (nextRegion loc s) i).broken = (statusOf s i).broken := by
  have hstart (n : Nat) (u : State) (hu : u.map = s.map) :
      (statusOf (regionStart n u) i).corrected = (statusOf s i).corrected ∧
        (statusOf (regionStart n u) i).uncorrectable = (statusOf s i).uncorrectable ∧
        (statusOf (regionStart n u) i).broken = (statusOf s i).broken := by
    rw [← statusOf_congr (congrArg RegionMap.status hu) i]
    exact ⟨statusOf_modifyStatus_field RegionStatus.corrected (fun _ => by rfl) ..,
      statusOf_modifyStatus_field RegionStatus.uncorrectable (fun _ => by rfl) ..,
      statusOf_modifyStatus_field RegionStatus.broken (fun _ => by rfl) ..⟩
  unfold nextRegion
  split <;> exact hstart _ _ rfl

/-- Where the patrol stands after a region (R74). -/
theorem nextRegion_patrol (loc : Located) (s : State) :
    (nextRegion loc s).patrol.void = false ∧ (nextRegion loc s).patrol.running = s.patrol.running ∧
      (nextRegion loc s).patrol.pace = s.patrol.pace ∧
      (loc.index + 1 < regionCount s → (nextRegion loc s).patrol.cursor = some (loc.index + 1, 0) ∧
        (nextRegion loc s).patrol.pass = s.patrol.pass) ∧
      (regionCount s ≤ loc.index + 1 → (nextRegion loc s).patrol.cursor = some (0, 0) ∧
        (nextRegion loc s).patrol.pass = s.patrol.pass + 1) := by
  by_cases h : loc.index + 1 < regionCount s
  · rw [nextRegion, if_pos h]
    exact ⟨rfl, rfl, rfl, fun _ => ⟨rfl, rfl⟩, fun g => absurd h (Nat.not_lt.2 g)⟩
  · rw [nextRegion, if_neg h]
    exact ⟨rfl, rfl, rfl, fun g => absurd g h, fun _ => ⟨rfl, rfl⟩⟩

theorem grantPatrol_of_cursor {s : State} {i k : Nat} {loc : Located} (hc : s.patrol.cursor = some (i, k))
    (hl : locateRegion s i = some loc) : grantPatrol s = advanceCursor loc k
      (dealWithBlock loc k
        (scrubWords (.background .patrol) loc (blockWords (loc.region.first + k)) (beginBurst (.background .patrol) s)).1
        (scrubWords (.background .patrol) loc (blockWords (loc.region.first + k)) (beginBurst (.background .patrol) s)).2) := by
  have hl' : locateRegion (beginBurst (.background .patrol) s) i = some loc := hl
  simp only [grantPatrol, beginBurst_frame, hc, hl']

theorem locateRegion_index {s : State} {i : Nat} {loc : Located} (h : locateRegion s i = some loc) : loc.index = i := by
  obtain ⟨-, -, -, -, hi⟩ := locateRegion_eq_some h
  exact hi

theorem mem_map_some {words : List Word} : none ∉ words.map some := by simp

/-- The part over CLEAN words in the middle of a region. -/
theorem grantPatrol_middle {s : State} {i k : Nat} {loc : Located} {acc : Pair} {words : List Word}
    (hc : s.patrol.cursor = some (i, k)) (hl : locateRegion s i = some loc)
    (hread : scrubWords (.background .patrol) loc (blockWords (loc.region.first + k)) (beginBurst (.background .patrol) s) =
      (words.map some, beginBurst (.background .patrol) s)) (hslot : loc.slot.isSome = true)
    (hacc : s.patrol.accumulator = some acc) (hk : k + 1 < loc.region.count) :
    grantPatrol s = { s with
      patrol := { s.patrol with accumulator := some (foldRead acc (64 * k) (words.map some)), cursor := some (i, k + 1) }
      port := { s.port with burst := some ⟨.background .patrol, none, .nothing, []⟩ } } := by
  rw [grantPatrol_of_cursor hc hl, hread, dealWithBlock_of_good mem_map_some, advanceCursor_of_lt _ hk,
    locateRegion_index hl]
  simp [foldedPatrol, hslot, beginBurst, hacc, allGood]

theorem mismatchEnd_of (s : State) (slot : Nat) :
    (running s = true → mismatchEnd s slot = .leave .signature (some slot)) ∧
      (s.lane.state = .joining → mismatchEnd s slot = .failAttempt .signature) := by
  cases h : s.lane.state <;> simp [mismatchEnd, running, h]

/-- The walk of a block of good words at the end of a region, before the region's end is dealt with. -/
def walkedToEnd (loc : Located) (k : Nat) (ws : List (Option Word)) (s : State) : State :=
  { s with patrol := foldedPatrol loc k ws s.patrol
           port := { s.port with burst := some ⟨.background .patrol, none, .nothing, []⟩ } }

/-- The part over CLEAN words at the end of a region. -/
theorem grantPatrol_last {s : State} {i k : Nat} {loc : Located} {words : List Word}
    (hc : s.patrol.cursor = some (i, k)) (hl : locateRegion s i = some loc)
    (hread : scrubWords (.background .patrol) loc (blockWords (loc.region.first + k)) (beginBurst (.background .patrol) s) =
      (words.map some, beginBurst (.background .patrol) s)) (hk : k + 1 = loc.region.count) :
    grantPatrol s = nextRegion loc (regionEnd loc (walkedToEnd loc k (words.map some) s)) := by
  rw [grantPatrol_of_cursor hc hl, hread, dealWithBlock_of_good mem_map_some, advanceCursor_of_last _ hk.ge]
  rfl

/-- A bad word voids the walk of a signature region (R78), so its end has no compare. -/
theorem regionEnd_of_bad {loc : Located} {k : Nat} {ws : List (Option Word)} {s : State} {p : Patrol}
    (h : none ∈ ws) (hp : s.patrol = foldedPatrol loc k ws p) : regionEnd loc s = s := by
  have hbad : allGood ws = false := Bool.eq_false_iff.2 fun g => allGood_iff.1 g h
  cases hslot : loc.slot with
  | none => exact regionEnd_of_quiet (.inl hslot)
  | some slot => exact regionEnd_of_quiet (.inr (.inl (by simp [hp, foldedPatrol, hslot, hbad])))

/-- What a patrol burst leaves for its end: the class action of a bad word, else at most the work of a region end. -/
theorem advanceCursor_atEnd {loc : Located} {k : Nat} {ws : List (Option Word)} {s : State} {b : Burst}
    (hb : s.port.burst = some b) (hp : ∃ p, s.patrol = foldedPatrol loc k ws p) :
    ∃ e, (advanceCursor loc k s).port.burst = some { b with atEnd := e } ∧
      (none ∈ ws ∨ loc.slot = none ∨ k + 1 < loc.region.count → e = b.atEnd) := by
  obtain ⟨p, hp⟩ := hp
  by_cases hk : k + 1 < loc.region.count
  · exact ⟨b.atEnd, by rw [advanceCursor_of_lt s hk]; exact hb, fun _ => rfl⟩
  · obtain ⟨e, he⟩ := regionEnd_burst (loc := loc) hb
    refine ⟨e, by rw [advanceCursor_of_last s (Nat.not_lt.1 hk)]; simpa using he, fun h => ?_⟩
    have hsame : regionEnd loc s = s := by
      obtain h | h | h := h
      · exact regionEnd_of_bad h hp
      · exact regionEnd_of_quiet (.inl h)
      · exact absurd h hk
    rw [hsame, hb] at he
    exact (congrArg Burst.atEnd (Option.some.inj he)).symm

theorem advanceCursor_counts (loc : Located) (k : Nat) (s : State) (i : Nat) :
    (statusOf (advanceCursor loc k s) i).corrected = (statusOf s i).corrected ∧
      (statusOf (advanceCursor loc k s) i).uncorrectable = (statusOf s i).uncorrectable ∧
      (statusOf (advanceCursor loc k s) i).broken = (statusOf s i).broken := by
  by_cases hk : k + 1 < loc.region.count
  · rw [advanceCursor_of_lt s hk]; exact ⟨rfl, rfl, rfl⟩
  · have hsame : statusOf (regionEnd loc s) i = statusOf s i := statusOf_congr (by simp) i
    rw [advanceCursor_of_last s (Nat.not_lt.1 hk), ← hsame]
    exact nextRegion_counts ..

/-- Settles O24: the walk of a block of CLEAN words in the middle of a region and at its end, then that of any block. -/
theorem patrolBurstWalksABlock : Obligations.PatrolBurstWalksABlock := by
  refine ⟨fun s i k slot loc acc live words hc hl hlen hread hslot hacc hlive => ?_,
    fun s i k loc values hc hl hs hv => ?_⟩
  · have hscrub : scrubWords (.background .patrol) loc (blockWords (loc.region.first + k))
        (beginBurst (.background .patrol) s) = (words.map some, beginBurst (.background .patrol) s) :=
      scrubWords_of_cleanBlock _ _ hlen hread
    have hsome : loc.slot.isSome = true := by simp [hslot]
    refine ⟨grantPatrol_middle hc hl hscrub hsome hacc, fun hk => ?_⟩
    have hidx := locateRegion_index hl
    have hacc' : (walkedToEnd loc k (words.map some) s).patrol.accumulator =
        some (foldRead acc (64 * k) (words.map some)) := by simp [walkedToEnd, foldedPatrol, hsome, hacc]
    have hvoid : (walkedToEnd loc k (words.map some) s).patrol.void = s.patrol.void := by
      simp [walkedToEnd, foldedPatrol, hsome, allGood]
    have hrest : (walkedToEnd loc k (words.map some) s).patrol.running = s.patrol.running ∧
        (walkedToEnd loc k (words.map some) s).patrol.pace = s.patrol.pace ∧
        (walkedToEnd loc k (words.map some) s).patrol.pass = s.patrol.pass := by
      simp [walkedToEnd, foldedPatrol, hsome]
    obtain ⟨e, he⟩ := regionEnd_burst (loc := loc) (s := walkedToEnd loc k (words.map some) s) rfl
    obtain ⟨pvoid, prun, ppace, pnext, plast⟩ :=
      nextRegion_patrol loc (regionEnd loc (walkedToEnd loc k (words.map some) s))
    have hcount : regionCount (regionEnd loc (walkedToEnd loc k (words.map some) s)) = regionCount s :=
      regionCount_congr (by simp [walkedToEnd])
    rw [hcount, hidx] at pnext plast
    simp only [regionEnd_frame, hrest] at prun ppace pnext plast
    refine ⟨_, e, grantPatrol_last hc hl hscrub hk, State.ext (by simp [walkedToEnd]), by simpa using he, pvoid, prun, ppace,
      pnext, plast, fun hquiet => ?_, fun hv hb hne => ?_⟩
    · have hsame : regionEnd loc (walkedToEnd loc k (words.map some) s) = walkedToEnd loc k (words.map some) s := by
        refine regionEnd_of_quiet (.inr ?_)
        rw [hvoid, hidx]
        exact hquiet.imp id (Or.imp id fun h => ⟨slot, _, hslot, hacc', by rw [h]; exact hlive⟩)
      rw [hsame] at he ⊢
      exact ⟨(congrArg Burst.atEnd (Option.some.inj he)).symm, by simp [walkedToEnd]⟩
    · have hfault := regionEnd_of_unequal hslot hacc' hlive (hvoid.trans hv) (by rw [hidx]; exact hb) (Ne.symm hne)
      have hplace : loc.region.first + loc.region.count - 1 = loc.region.first + k := by omega
      rw [hfault] at he ⊢
      have hend : mismatchEnd (walkedToEnd loc k (words.map some) s) slot = e := by
        simpa [setAtEnd, walkedToEnd] using he
      obtain ⟨hrun, hjoin⟩ := mismatchEnd_of (walkedToEnd loc k (words.map some) s) slot
      rw [hend] at hrun hjoin
      refine ⟨hrun, hjoin, faultReport loc slot live (foldRead acc (64 * k) (words.map some))
        (walkedToEnd loc k (words.map some) s), ?_, rfl, rfl, congrArg placeWord hplace⟩
      simp only [nextRegion_frame, setAtEnd_frame]
      exact offer_log_congr _ (by simp [walkedToEnd]) (by simp [walkedToEnd])
  · have hidx := locateRegion_index hl
    obtain ⟨hvals, hscrubbed⟩ := scrubWords_block (.background .patrol) loc (loc.region.first + k)
      (s := beginBurst (.background .patrol) s) (by simpa using hs)
    obtain ⟨w, hw⟩ := (scrubWords_burstGoesOn (.background .patrol) loc (blockWords (loc.region.first + k))
      (beginBurst (.background .patrol) s)).of_some rfl
    have hframe := scrubWords_frame (.background .patrol) loc (blockWords (loc.region.first + k))
      (beginBurst (.background .patrol) s)
    have hgrant := grantPatrol_of_cursor hc hl
    generalize scrubWords (.background .patrol) loc (blockWords (loc.region.first + k))
      (beginBurst (.background .patrol) s) = r at *
    obtain rfl : r.1 = values := hvals.trans hv.symm
    simp only [beginBurst_frame] at hframe
    obtain ⟨hlines, hloader, hthrough, hsig, hpatrol, hlink1, hlink2, hvote, hlane, hcopy, hclear, hpending, himage, hlock,
      -⟩ := hframe
    generalize hu : dealWithBlock loc k r.1 r.2 = u at *
    have hupatrol : u.patrol = foldedPatrol loc k r.1 s.patrol := by rw [← hu, dealWithBlock_patrol, hpatrol]
    have hucopy : u.copy = { s.copy with
        repairs := if none ∈ r.1 then repairsAfter loc (loc.region.first + k) s else s.copy.repairs } := by
      rw [← hu, dealWithBlock_copy, hcopy, repairsAfter_congr (s := s) (by rw [hlane]) hcopy]
    have huburst := dealWithBlock_burst (loc := loc) (k := k) (ws := r.1) hw
    rw [hu, classCause_congr (s := s) (by rw [hlane])] at huburst
    obtain ⟨e, he, hend⟩ := advanceCursor_atEnd (k := k) (ws := r.1) huburst ⟨_, hupatrol⟩
    refine ⟨_, e, w, hgrant, ?scrubbed, ?frame, he, ?middle, ?last, fun hgood => ⟨?keeps, ?quiet⟩,
      fun hbad => ⟨?isolating, ?staying, ?repairs⟩⟩
    case scrubbed =>
      refine hscrubbed.frame (by simp) (by simp [← hu]) fun i => ?_
      have hsame : statusOf u i = statusOf r.2 i := statusOf_congr (by simp [← hu]) i
      rw [← hsame]
      exact advanceCursor_counts loc k u i
    case frame =>
      have hmap : (advanceCursor loc k u).map = { s.map with status := (advanceCursor loc k u).map.status } :=
        RegionMap.ext (by simp [← hu, himage, hlock])
      refine State.ext ?_
      simp only [advanceCursor_frame, hucopy]
      simpa [← hu, hlines, hloader, hthrough, hsig, hlink1, hlink2, hvote, hlane, hclear, hpending] using hmap
    case middle =>
      intro hk
      rw [advanceCursor_of_lt u hk, hupatrol, hidx, foldedPatrol]
      cases loc.slot <;> simp [not_allGood_eq]
    case last =>
      intro hk
      have hcount : regionCount (regionEnd loc u) = regionCount s := regionCount_congr (by simp [← hu, himage])
      have hrest : (foldedPatrol loc k r.1 s.patrol).running = s.patrol.running ∧
          (foldedPatrol loc k r.1 s.patrol).pace = s.patrol.pace ∧
          (foldedPatrol loc k r.1 s.patrol).pass = s.patrol.pass := by
        unfold foldedPatrol; split <;> exact ⟨rfl, rfl, rfl⟩
      have hnext := nextRegion_patrol loc (regionEnd loc u)
      rw [hcount, hidx] at hnext
      simp only [regionEnd_frame, hupatrol, hrest] at hnext
      rw [advanceCursor_of_last u hk]
      exact hnext
    case keeps => simp [hucopy, hgood]
    case quiet => intro h; rw [hend (.inr h), if_neg hgood]
    case isolating => rw [hend (.inl hbad), if_pos hbad, ← hidx]; exact classCause_of_isolating s
    case staying => rw [hend (.inl hbad), if_pos hbad]; exact classCause_of_staying s
    case repairs => simp only [advanceCursor_frame, hucopy, if_pos hbad]; rfl

end Sys2Proof.Machine
end

section
/-! The COPY bursts: for the restoration served and for a kept FETCH answer (R142, R144, R149). -/

namespace Sys2Proof.Machine

/-- The burst of a copy client just begun. -/
def copyBurst : Burst := ⟨.background .copy, none, .nothing, []⟩

/-- The state in which a COPY burst of the restoration reads block `b`: the job taken, and the cursor moved or the block
off the dirty queue (R142, R144). -/
def restoring (b : Nat) (s : State) : State :=
  { s with
    copy := { s.copy with
      job := none
      cursor := if s.copy.cursor = some (.at b) then
          some (match nextCopyable s (b + 1) with | some c => .at c | none => .complete) else s.copy.cursor
      dirty := if s.copy.cursor = some (.at b) then s.copy.dirty else s.copy.dirty.tail }
    port := { s.port with burst := some copyBurst } }

/-- The state in which a COPY burst for a kept FETCH answer reads its block: the job and the answer taken (R149). -/
def answering (rest : List (PortId × Nat)) (s : State) : State :=
  { s with
    copy := { s.copy with job := none, answers := rest }
    port := { s.port with burst := some copyBurst } }

theorem takeBlock_restoring {s : State} {b : Nat}
    (hb : s.copy.cursor = some (.at b) ∨ (s.copy.cursor = some .complete ∧ s.copy.dirty.head? = some b)) :
    takeBlock b (beginBurst (.background .copy) { s with copy := { s.copy with job := none } }) = restoring b s := by
  obtain h | ⟨h, -⟩ := hb
  · simp only [takeBlock, beginBurst, h, restoring, if_true, cursorFrom]
    rfl
  · simp only [takeBlock, beginBurst, h, restoring]
    rfl

/-- What a COPY burst leaves for its end: the frame of a good block, else its refusal. -/
def copyEnd (send : List Word → AtEnd) (refuse : AtEnd) (ws : List (Option Word)) : AtEnd :=
  if allGood ws then send (ws.filterMap id) else refuse

theorem copyEnd_of_good (send : List Word → AtEnd) (refuse : AtEnd) (words : List Word) :
    copyEnd send refuse (words.map some) = send words := by
  rw [copyEnd, if_pos (allGood_iff.2 mem_map_some), List.filterMap_map]
  simp

theorem copyEnd_of_bad {send : List Word → AtEnd} {refuse : AtEnd} {ws : List (Option Word)} (h : none ∈ ws) :
    copyEnd send refuse ws = refuse := by
  rw [copyEnd, if_neg (fun g => allGood_iff.1 g h)]

/-- A block read in a COPY burst, with what it leaves for its end. -/
def copyBlock (loc : Located) (b : Nat) (send : List Word → AtEnd) (refuse : AtEnd) (u : State) : State :=
  setAtEnd (copyEnd send refuse (scrubWords (.background .copy) loc (blockWords b) u).1)
    (scrubWords (.background .copy) loc (blockWords b) u).2

theorem copyForRestore_eq {p : PortId} {joiner : Lane} {attempt b : Nat} {loc : Located} {u : State}
    (hs : u.copy.serving = some (joiner, attempt)) (hb : blockToSend u.copy = some b) (hl : locate u b = some loc) :
    copyForRestore p u = copyBlock loc b (.sendBlock p attempt b) (.damaged p b true) (takeBlock b u) := by
  simp [copyForRestore, hs, hb, hl, copyBlock, copyEnd]

theorem grantCopy_restore {s : State} {p : PortId} {joiner : Lane} {attempt b : Nat} {loc : Located}
    (hj : s.copy.job = some (.restore p)) (hs : s.copy.serving = some (joiner, attempt)) (hl : locate s b = some loc)
    (hb : s.copy.cursor = some (.at b) ∨ (s.copy.cursor = some .complete ∧ s.copy.dirty.head? = some b)) :
    grantCopy s = copyBlock loc b (.sendBlock p attempt b) (.damaged p b true) (restoring b s) := by
  have hsend : blockToSend { s.copy with job := none } = some b := by
    obtain h | ⟨h, h'⟩ := hb <;> simp [blockToSend, *]
  have hgrant : grantCopy s =
      copyForRestore p (beginBurst (.background .copy) { s with copy := { s.copy with job := none } }) := by
    simp only [grantCopy, hj]
  rw [hgrant, copyForRestore_eq (by exact hs) (by exact hsend) (by exact hl), takeBlock_restoring hb]

/-- The answer kept for a port, and the others (R149). -/
theorem answers_split {p : PortId} {b : Nat} {older newer : List (PortId × Nat)} (hp : ∀ x ∈ older ++ newer, x.1 ≠ p) :
    (older ++ (p, b) :: newer).find? (fun x => decide (x.1 = p)) = some (p, b) ∧
      (older ++ (p, b) :: newer).filter (fun x => decide (x.1 ≠ p)) = older ++ newer := by
  have hold : ∀ x ∈ older, x.1 ≠ p := fun x hx => hp x (List.mem_append_left _ hx)
  have hnew : ∀ x ∈ newer, x.1 ≠ p := fun x hx => hp x (List.mem_append_right _ hx)
  have hall : ∀ l : List (PortId × Nat), (∀ x ∈ l, x.1 ≠ p) → l.filter (fun x => decide (x.1 ≠ p)) = l :=
    fun l hl => by simpa using hl
  constructor
  · rw [List.find?_append, List.find?_eq_none.2 (by simpa using hold)]
    simp
  · rw [List.filter_append, List.filter_cons_of_neg (by simp), hall _ hold, hall _ hnew]

theorem copyForFetch_eq {p q : PortId} {b : Nat} {loc : Located} {rest : List (PortId × Nat)} {u : State}
    (hf : u.copy.answers.find? (fun x => decide (x.1 = p)) = some (q, b))
    (hr : u.copy.answers.filter (fun x => decide (x.1 ≠ p)) = rest) (hl : locate u b = some loc) :
    copyForFetch p u = copyBlock loc b (.sendFetched p b) (.refuseFetched p b)
      { u with copy := { u.copy with answers := rest } } := by
  have hl' : locate { u with copy := { u.copy with answers := rest } } b = some loc := hl
  simp only [copyForFetch, hf, hr, hl']
  rfl

theorem grantCopy_answer {s : State} {p : PortId} {b : Nat} {loc : Located} {older newer : List (PortId × Nat)}
    (hj : s.copy.job = some (.answer p)) (ha : s.copy.answers = older ++ (p, b) :: newer)
    (hp : ∀ x ∈ older ++ newer, x.1 ≠ p) (hl : locate s b = some loc) :
    grantCopy s = copyBlock loc b (.sendFetched p b) (.refuseFetched p b) (answering (older ++ newer) s) := by
  obtain ⟨hfind, hfilter⟩ := answers_split (b := b) hp
  rw [← ha] at hfind hfilter
  have hgrant : grantCopy s =
      copyForFetch p (beginBurst (.background .copy) { s with copy := { s.copy with job := none } }) := by
    simp only [grantCopy, hj]
  rw [hgrant, copyForFetch_eq (by exact hfind) (by exact hfilter) (by exact hl)]
  rfl

/-- Over CLEAN words a COPY burst changes nothing but what it leaves for its end. -/
theorem copyBlock_of_clean {loc : Located} {b : Nat} {send : List Word → AtEnd} {refuse : AtEnd} {words : List Word}
    {u : State} (hlen : words.length = 64) (h : ∀ j v, words[j]? = some v → readWord u (64 * b + j) = .clean v) :
    copyBlock loc b send refuse u = setAtEnd (send words) u := by
  rw [copyBlock, scrubWords_of_cleanBlock _ _ hlen h, copyEnd_of_good]

/-- What a COPY burst leaves: its block scrubbed, the end of the burst, and nothing else but reports. -/
theorem copyBlock_spec {loc : Located} {b : Nat} {send : List Word → AtEnd} {refuse : AtEnd} {s u : State}
    (hs : sramCanonical s.sram = true) (hu : u.checker = s.checker ∧ u.map = s.map ∧ u.sram = s.sram)
    (hb : u.port.burst = some copyBurst) :
    ∃ t w, copyBlock loc b send refuse u = t ∧ Scrubbed loc (64 * b) s t ∧
      t.port.burst = some ⟨.background .copy, none, copyEnd send refuse (blockRead s (64 * b)), w⟩ ∧
      t = { u with map := { u.map with status := t.map.status }, checker := t.checker, sram := t.sram, log := t.log,
                   port := t.port } := by
  obtain ⟨hvals, hscrubbed⟩ := scrubWords_block (.background .copy) loc b (s := u) (by rw [hu.2.2]; exact hs)
  obtain ⟨w, hw⟩ := (scrubWords_burstGoesOn (.background .copy) loc (blockWords b) u).of_some hb
  have hread : blockRead u (64 * b) = blockRead s (64 * b) := by
    simp only [blockRead, readWord_of_frame (s := s) (t := u) (by simp [hu])]
  rw [hread] at hvals
  refine ⟨_, w, rfl, hscrubbed.frame (by simp [hu]) (by simp [copyBlock]) fun i => ?_, ?_, ?_⟩
  · have hsame : statusOf (copyBlock loc b send refuse u) i =
        statusOf (scrubWords (.background .copy) loc (blockWords b) u).2 i := statusOf_congr (by simp [copyBlock]) i
    simp [hsame]
  · simp [copyBlock, setAtEnd, hw, hvals, copyBurst]
  · have hmap : (copyBlock loc b send refuse u).map =
        { u.map with status := (copyBlock loc b send refuse u).map.status } :=
      RegionMap.ext (by simp [copyBlock])
    generalize ht : copyBlock loc b send refuse u = t at hmap ⊢
    refine State.ext ⟨?_, ?_, ?_, hmap, rfl, rfl, rfl, ?_, ?_, ?_, ?_, ?_, ?_, ?_, ?_, rfl, ?_⟩ <;> simp [← ht, copyBlock]

/-- Settles O25: the block read for the restoration, over CLEAN words and over any, and the one read for a FETCH. -/
theorem copyBurstReadsTheBlock : Obligations.CopyBurstReadsTheBlock := by
  refine ⟨fun s p joiner attempt b loc words hj hs hl hb hlen hread => ?_,
    fun s p joiner attempt b loc hj hs hl hb hc => ?_, fun s p b loc older newer hj ha hp hl hc => ?_⟩
  · rw [grantCopy_restore hj hs hl hb, copyBlock_of_clean hlen (u := restoring b s) hread]
    rfl
  · obtain ⟨t, w, ht, hscrub, hburst, hframe⟩ := copyBlock_spec (loc := loc) (b := b) (send := .sendBlock p attempt b)
      (refuse := .damaged p b true) (u := restoring b s) hc ⟨rfl, rfl, rfl⟩ rfl
    refine ⟨t, _, w, (grantCopy_restore hj hs hl hb).trans ht, hscrub, hframe, hburst, fun words hwords => ?_,
      fun hbad => copyEnd_of_bad hbad⟩
    rw [hwords, copyEnd_of_good]
  · obtain ⟨t, w, ht, hscrub, hburst, hframe⟩ := copyBlock_spec (loc := loc) (b := b) (send := .sendFetched p b)
      (refuse := .refuseFetched p b) (u := answering (older ++ newer) s) hc ⟨rfl, rfl, rfl⟩ rfl
    refine ⟨t, _, w, (grantCopy_answer hj ha hp hl).trans ht, hscrub, hframe, hburst, fun words hwords => ?_,
      fun hbad => copyEnd_of_bad hbad⟩
    rw [hwords, copyEnd_of_good]

end Sys2Proof.Machine
end

section
/-! SUPPORT. Frames offered to a port that is sending, the change of lane state, admission and the failure of an attempt:
the result of each, said once. -/

namespace Sys2Proof.Machine

/-! Frames offered while the transmitter is busy (R93, R94). -/

theorem startNext_of_busy {n d : Nat} {v : LinkPort} (h : v.transmitter ≠ .resting) : startNext n d v = v := by
  simp [startNext, h]

theorem startPort_setPort_of_busy {p : PortId} {v : LinkPort} (s : State) (h : v.transmitter ≠ .resting) :
    startPort p (setPort s p v) = setPort s p v := by
  have hset (w : LinkPort) : setPort (setPort s p v) p w = setPort s p w := by cases p <;> rfl
  rw [startPort, getPort_setPort_self, startNext_of_busy h, hset]

theorem offerControl_of_room {p : PortId} {f : Frame} {s : State} (ha : LinkPort.active (getPort s p) = true)
    (hr : (getPort s p).control.length < 8) (ht : (getPort s p).transmitter ≠ .resting) :
    offerControl p f s = setPort s p { getPort s p with control := (getPort s p).control ++ [f] } := by
  have hr' : (getPort s p).control.length < Config.controlDepth := hr
  rw [offerControl, if_pos ha, if_pos hr']
  exact startPort_setPort_of_busy s ht

theorem offerBulk_of_room {p : PortId} {f : Frame} {s : State} (ha : LinkPort.active (getPort s p) = true)
    (hr : (getPort s p).bulk.length + (getPort s p).reserved < 4) (ht : (getPort s p).transmitter ≠ .resting) :
    offerBulk p f s = setPort s p { getPort s p with bulk := (getPort s p).bulk ++ [f] } := by
  have hr' : bulkFree (getPort s p) = true := decide_eq_true hr
  rw [offerBulk, if_pos ha, if_pos hr']
  exact startPort_setPort_of_busy s ht

/-- A report changes no port of the links. -/
@[simp] theorem getPort_offer (r : Report) (s : State) (p : PortId) : getPort (offer r s) p = getPort s p := by
  cases p <;> simp

/-- The other port takes nothing of a frame offered to one. -/
theorem getPort_offerControl_of_ne {p q : PortId} (f : Frame) (s : State) (h : q ≠ p) :
    getPort (offerControl p f s) q = getPort s q := by
  unfold offerControl txFull linkError startPort
  (repeat' split) <;> simp [report, getPort_setPort_of_ne _ _ h]

/-! The lane state set (R111, R119, R129). -/

/-- The standing of self that a lane state mirrors (R111). -/
def mirrorOf : LaneState → Standing
  | .member => .member
  | .joining => .joining
  | _ => .excluded

theorem permitTest_lane (s : State) :
    (permitTest s).lane = { s.lane with permitTimer := (permitTest s).lane.permitTimer } := by
  unfold permitTest; (repeat' split) <;> rfl

theorem setLaneState_lane (x : LaneState) (s : State) : (setLaneState x s).lane =
    { s.lane with state := x, retainedState := x, permitTimer := (setLaneState x s).lane.permitTimer } :=
  permitTest_lane _

@[simp] theorem setLaneState_retained (x : LaneState) (s : State) :
    (setLaneState x s).lane.retainedState = x ∧ (setLaneState x s).lane.retainedCause = s.lane.retainedCause ∧
      (setLaneState x s).lane.retryDue = s.lane.retryDue := by
  rw [setLaneState_lane]
  exact ⟨rfl, rfl, rfl⟩

theorem setLaneState_vote (x : LaneState) (s : State) : (setLaneState x s).vote =
    { s.vote with view := some (PerLane.set (viewOf s) (ownLane s) (mirrorOf x)) } := by
  simp only [setLaneState, setStanding, permitTest_frame]
  cases x <;> rfl

theorem PerLane.set_set {α : Type} (v : PerLane α) (l : Lane) (x y : α) :
    PerLane.set (PerLane.set v l x) l y = PerLane.set v l y := by cases l <;> rfl

/-! Admission (R13, R115, R127, R137). -/

theorem enterMember_lines (s : State) : (enterMember s).lines = { s.lines with hold := false } := by
  simp [enterMember, releaseHold]

theorem enterMember_vote (s : State) : (enterMember s).vote =
    { s.vote with view := some (PerLane.set (viewOf s) (ownLane s) .member) } := by
  simp only [enterMember, releaseHold, setLaneState_vote]
  rfl

theorem enterMember_retained (s : State) : (enterMember s).lane.retainedState = .member := by
  simp [enterMember, releaseHold]

/-- The view of an admitted lane shows it MEMBER already. -/
theorem set_admittedView (x : Snapshot) {s t : State} (ho : ownLane t = ownLane s) :
    PerLane.set (admittedView x s) (ownLane t) .member = admittedView x s := by
  rw [admittedView, ho, PerLane.set_set]

theorem admittedView_congr {s t : State} (x : Snapshot) (hi : t.map.image = s.map.image)
    (hs : t.lines.straps = s.lines.straps) : admittedView x t = admittedView x s := by
  simp only [admittedView, laneCount_congr hi, ownLane_congr hs]

/-- ADMITTED offered to the asked peer, which is remembered as the one that admitted (R137). -/
def offerAdmitted (x : Snapshot) (s : State) : State :=
  match s.copy.asked with
  | some l => offerTo l (.admitted s.copy.attempt x.cycle)
      { s with copy := { s.copy with admittedBy := some (l, s.copy.attempt) } }
  | none => s

/-- Admission, but for the lane state and what follows it. -/
def takeSnapshot (x : Snapshot) (s : State) : State :=
  { s with
    copy := { s.copy with phase := .none, expected := none, verifying := none, progress := none }
    map := { s.map with lock := true }
    vote := { s.vote with
      counter := x.cycle
      view := some (admittedView x s)
      lateCount := PerLane.all 0
      lastLate := PerLane.all none
      grace := some (x.cycle + 3)
      table := []
      window := none
      supervision := some (ms (settings s).cycleLimit) } }

theorem admission_eq (x : Snapshot) (s : State) : admission x s =
    offerState (reportRestoreEnd .admitted none (enterMember (dropFoundCause (takeSnapshot x (offerAdmitted x s))))) := rfl

@[simp] theorem offerAdmitted_frame (x : Snapshot) (s : State) :
    (offerAdmitted x s).lines = s.lines ∧ (offerAdmitted x s).loader = s.loader ∧
    (offerAdmitted x s).through = s.through ∧ (offerAdmitted x s).map = s.map ∧
    (offerAdmitted x s).checker = s.checker ∧ (offerAdmitted x s).sram = s.sram ∧ (offerAdmitted x s).sig = s.sig ∧
    (offerAdmitted x s).patrol = s.patrol ∧ (offerAdmitted x s).vote = s.vote ∧ (offerAdmitted x s).lane = s.lane ∧
    (offerAdmitted x s).clear = s.clear ∧ (offerAdmitted x s).pending = s.pending := by
  unfold offerAdmitted; split <;> simp

theorem offerAdmitted_copy {x : Snapshot} {s : State} {l : Lane} (h : s.copy.asked = some l) :
    (offerAdmitted x s).copy = { s.copy with admittedBy := some (l, s.copy.attempt) } := by
  simp [offerAdmitted, h]

theorem admission_lines (x : Snapshot) (s : State) : (admission x s).lines = { s.lines with hold := false } := by
  simp [admission_eq, enterMember_lines, takeSnapshot]

theorem admission_map (x : Snapshot) (s : State) : (admission x s).map = { s.map with lock := true } := by
  simp [admission_eq, takeSnapshot]

theorem admission_vote (x : Snapshot) (s : State) : (admission x s).vote = { s.vote with
    counter := x.cycle, view := some (admittedView x s), lateCount := PerLane.all 0, lastLate := PerLane.all none,
    grace := some (x.cycle + 3), table := [], window := none, supervision := some (ms (settings s).cycleLimit) } := by
  have hview : admittedView x (offerAdmitted x s) = admittedView x s := admittedView_congr x (by simp) (by simp)
  have hset : settings (offerAdmitted x s) = settings s := settings_congr (by simp)
  have hv : viewOf (dropFoundCause (takeSnapshot x (offerAdmitted x s))) = admittedView x s := by
    simp [viewOf, takeSnapshot, hview]
  rw [admission_eq]
  simp only [offerState_frame, reportRestoreEnd_frame, enterMember_vote, hv]
  rw [set_admittedView x (ownLane_congr (by simp [takeSnapshot]))]
  simp [takeSnapshot, hset]

theorem admission_copy (x : Snapshot) (s : State) : (admission x s).copy.phase = .none ∧
    ∀ l, s.copy.asked = some l → (admission x s).copy.admittedBy = some (l, s.copy.attempt) := by
  rw [admission_eq]
  simp only [offerState_frame, reportRestoreEnd_frame, enterMember_frame, dropFoundCause_frame]
  refine ⟨rfl, fun l hl => ?_⟩
  simp [takeSnapshot, offerAdmitted_copy hl]

theorem admission_retained (x : Snapshot) (s : State) : (admission x s).lane.retainedState = .member ∧
    (admission x s).lane.attempts = 0 := by
  rw [admission_eq]
  simp only [offerState_frame, reportRestoreEnd_frame, enterMember_retained]
  exact ⟨trivial, (enterMember_state _).2.2⟩

/-! The failure of an attempt (R128, R138). -/

theorem failAttempt_lane {c : Cause} {b : Bool} {d : Option Cause} {s : State} (h : s.lane.state = .joining) :
    (failAttempt c b d s).lane.retainedState = .isolated ∧ (failAttempt c b d s).lane.retainedCause = some c := by
  simp [failAttempt, h]

@[simp] theorem dropReceived_received (s : State) :
    (dropReceived s).copy.received = none ∧ (dropReceived s).copy.progress = s.copy.progress ∧
      (dropReceived s).copy.answers = s.copy.answers ∧ (dropReceived s).copy.admittedBy = s.copy.admittedBy := by
  unfold dropReceived
  split
  · simp
  · exact ⟨‹_›, rfl, rfl, rfl⟩

theorem endAttempt_copy (c : Cause) (b : Bool) (s : State) : (endAttempt c b s).copy.phase = .none ∧
    (endAttempt c b s).copy.received = none ∧ (endAttempt c b s).copy.progress = none := by
  simp only [endAttempt]
  refine ⟨trivial, ?_⟩
  split
  · split <;> simp
  · simp

theorem failAttempt_copy {c : Cause} {b : Bool} {d : Option Cause} {s : State} (h : s.lane.state = .joining) :
    (failAttempt c b d s).copy = (endAttempt c b s).copy := by
  simp [failAttempt, h]

end Sys2Proof.Machine
end

section
/-! ADMIT offered and verified (R13, R115, R127, R137, R146). -/

namespace Sys2Proof.Machine

/-- Two lists of pairs have no unequal slot exactly if they are equal (R137). -/
theorem firstUnequalSlot_eq_none {j : Nat} {xs ys : List Pair} : firstUnequalSlot j xs ys = none ↔ xs = ys := by
  induction xs generalizing j ys with
  | nil => cases ys <;> simp [firstUnequalSlot]
  | cons x xs ih =>
    cases ys with
    | nil => simp [firstUnequalSlot]
    | cons y ys =>
      by_cases h : x = y
      · simp [firstUnequalSlot, h, ih]
      · simp [firstUnequalSlot, h]

theorem verifyAdmit_of_equal {x : Snapshot} {s : State} (h : x.pairs = s.sig.live) : verifyAdmit x s = admission x s := by
  rw [verifyAdmit, firstUnequalSlot_eq_none.2 h.symm]

theorem verifyAdmit_of_unequal {x : Snapshot} {s : State} (h : x.pairs ≠ s.sig.live) :
    ∃ slot, verifyAdmit x s = mismatchFound slot s := by
  cases hs : firstUnequalSlot 0 s.sig.live x.pairs with
  | none => exact absurd (firstUnequalSlot_eq_none.1 hs).symm h
  | some slot => exact ⟨slot, by rw [verifyAdmit, hs]⟩

/-- A mismatch fails the attempt (R128, R137). -/
theorem mismatchFound_failed {slot : Nat} {s : State} (h : s.lane.state = .joining) :
    (mismatchFound slot s).lane.state = .isolated ∧ (mismatchFound slot s).lane.retainedCause = some .mismatch ∧
      (mismatchFound slot s).copy.phase = .none := by
  obtain ⟨u, hu, hj⟩ : ∃ u, mismatchFound slot s = failAttempt .mismatch false none u ∧ u.lane.state = .joining :=
    ⟨_, rfl, by rw [← h]; split <;> simp⟩
  rw [hu]
  refine ⟨by rw [failAttempt_state, if_pos hj], (failAttempt_lane hj).2, ?_⟩
  rw [failAttempt_copy hj]
  exact (endAttempt_copy ..).1

theorem admitDue_of {s : State} {joiner : Lane} {attempt : Nat} {snap : Snapshot} {p : PortId}
    (hc : s.copy.catchUp = .hold) (hd : s.copy.dirty = []) (hj : s.copy.job = none)
    (hb : holdsPort s.port (.background .copy) = false) (hs : s.copy.serving = some (joiner, attempt))
    (hk : s.copy.kept = some snap) (hp : portTo s joiner = some p)
    (hr : (getPort s p).bulk.length + (getPort s p).reserved < 4) : admitDue s = some (p, attempt, snap) := by
  have hfree : bulkFree (getPort s p) = true := decide_eq_true hr
  simp [admitDue, admitReady, restoreJobWaits, hc, hd, hj, hb, hs, hk, hp, hfree]

/-- ADMIT in the bulk queue and the wait for the answer (R146). -/
theorem offerAdmit_of_room {s : State} {attempt : Nat} {snap : Snapshot} {p : PortId}
    (ha : LinkPort.active (getPort s p) = true) (hr : (getPort s p).bulk.length + (getPort s p).reserved < 4)
    (ht : (getPort s p).transmitter ≠ .resting) : offerAdmit p attempt snap s = setPort
      { s with copy := { s.copy with catchUp := .answer, progress := some ((settings s).progressLimit * 1000) } } p
      { getPort s p with bulk := (getPort s p).bulk ++ [.admitSnapshot attempt snap.cycle snap.view snap.pairs] } := by
  rw [offerAdmit, offerBulk_of_room ha hr ht]
  cases p <;> rfl

theorem verifyDue_of {s : State} {x : Snapshot} (hs : s.lane.state = .joining) (hp : s.copy.phase = .verify)
    (hr : s.copy.received = none) (hb : holdsPort s.port (.background .recv) = false) (hf : failureFound s = false)
    (hv : s.copy.verifying = some x) : verifyDue s = some x := by
  simp [verifyDue, hs, hp, hr, hb, hf, hv]

/-- Settles O39: the offer, then the verification with equal pairs and with unequal ones. -/
theorem admitIsOfferedAndVerified : Obligations.AdmitIsOfferedAndVerified := by
  intro s
  refine ⟨fun joiner attempt snap p hc hd hj hb hs hk hp ha hr ht => ?_, fun snap hs hp hr hb hf hv => ?_⟩
  · simp only [exec, execAdmitOffer, admitDue_of hc hd hj hb hs hk hp hr, offerAdmit_of_room ha hr ht]
    rfl
  · have hexec : exec .admitVerify s = .next (settle (verifyAdmit snap s)) := by
      simp only [exec, execAdmitVerify, verifyDue_of hs hp hr hb hf hv]
      rfl
    refine ⟨fun heq => ?_, fun hne => ?_⟩
    · rw [verifyAdmit_of_equal heq] at hexec
      obtain ⟨hphase, hadmitted⟩ := admission_copy snap s
      obtain ⟨hretained, hattempts⟩ := admission_retained snap s
      have hlines := admission_lines snap s
      have hmap := admission_map snap s
      have hvote := admission_vote snap s
      refine ⟨_, hexec, (admission_state snap s).1, hretained, hattempts, (admission_state snap s).2.1, hmap, by rw [hvote],
        by rw [hvote]; rfl, by rw [hvote], by rw [hvote], by rw [hvote]; rfl, hphase, hadmitted,
        State.ext ⟨hlines, by simp⟩⟩
    · obtain ⟨slot, hslot⟩ := verifyAdmit_of_unequal hne
      rw [hslot] at hexec
      obtain ⟨hstate, hcause, hphase⟩ := mismatchFound_failed (slot := slot) hs
      exact ⟨_, hexec, hstate, hcause, by simp, by simp, hphase, by simp, by simp⟩

end Sys2Proof.Machine
end

section
/-! The start of a restoration attempt (R13, R16, R64, R72, R115, R124 to R127, R131). -/

namespace Sys2Proof.Machine

/-! The report queue grows at its end (R163). -/

/-- Reports may have been queued behind those that wait. -/
def QueueGrows (s t : State) : Prop := ∃ more, t.log.queue = s.log.queue ++ more

theorem QueueGrows.of_eq {s t : State} (h : t.log.queue = s.log.queue) : QueueGrows s t := ⟨[], by simp [h]⟩

theorem QueueGrows.trans {s t u : State} (h : QueueGrows s t) (g : QueueGrows t u) : QueueGrows s u := by
  obtain ⟨x, hx⟩ := h
  obtain ⟨y, hy⟩ := g
  exact ⟨x ++ y, by rw [hy, hx, List.append_assoc]⟩

theorem offer_queueGrows (r : Report) (s : State) : QueueGrows s (offer r s) := by
  obtain h | ⟨n, h⟩ := offer_queue r s
  · exact .of_eq h
  · exact ⟨_, h⟩

theorem offerControl_queueGrows (p : PortId) (f : Frame) (s : State) : QueueGrows s (offerControl p f s) := by
  have hset (v : LinkPort) (u : State) : (setPort u p v).log = u.log := by cases p <;> rfl
  unfold offerControl
  split
  · split
    · exact .of_eq (by simp [startPort])
    · exact (QueueGrows.of_eq (by rw [hset])).trans (offer_queueGrows _ _)
  · exact .of_eq rfl

theorem offerTo_queueGrows (l : Lane) (f : Frame) (s : State) : QueueGrows s (offerTo l f s) := by
  unfold offerTo
  split
  · exact offerControl_queueGrows ..
  · exact .of_eq rfl

theorem offerState_queueGrows (s : State) : QueueGrows s (offerState s) :=
  (offerControl_queueGrows ..).trans (offerControl_queueGrows ..)

/-! HOLD that is asserted already (R118). -/

theorem assertHold_of_held {s : State} (h : s.lines.hold = true) : assertHold s = s := by simp [assertHold, h]

/-! The copy engine at the start of an attempt (R131). -/

/-- The start of an attempt, but for the end of a clear that has no block. -/
def prepareAttempt (s : State) : State :=
  let s := dropReceived (dropRepairWork
    { s with copy := { s.copy with attempt := nextAttempt s.copy.attempt, admittedBy := none } })
  let s := clearStart s
  beginClear true { s with copy := { s.copy with
    phase := .clear, asked := none, secondAsked := false, expected := none, verifying := none } }

theorem startAttempt_eq (s : State) : startAttempt s =
    if (nextToClear (prepareAttempt s) true 0).isNone then endJoinerClear (prepareAttempt s) else prepareAttempt s := rfl

@[simp] theorem prepareAttempt_frame (s : State) :
    (prepareAttempt s).lines = s.lines ∧ (prepareAttempt s).through = s.through ∧ (prepareAttempt s).lane = s.lane ∧
    (prepareAttempt s).map.image = s.map.image ∧ (prepareAttempt s).log = s.log ∧
    (prepareAttempt s).vote.view = s.vote.view := by
  simp [prepareAttempt]

theorem prepareAttempt_copy (s : State) : (prepareAttempt s).copy.attempt = nextAttempt s.copy.attempt ∧
    (prepareAttempt s).copy.repairs = [] ∧ (prepareAttempt s).copy.answers = [] ∧
    (prepareAttempt s).copy.received = none ∧ (prepareAttempt s).copy.secondAsked = false ∧
    (prepareAttempt s).copy.admittedBy = none ∧ (prepareAttempt s).copy.phase = .clear := by
  have hadmitted (u : State) : (dropRepairWork u).copy.admittedBy = u.copy.admittedBy := by
    simp only [dropRepairWork, endAnswerJob]
    (repeat' split) <;> simp
  simp [prepareAttempt, hadmitted]

theorem clearStart_spec (s : State) : (clearStart s).vote.table = [] ∧ (clearStart s).vote.counter = 0 ∧
    (clearStart s).sig = (clearLivePairs s).sig ∧ (clearStart s).patrol.pass = s.patrol.pass + 1 ∧
    (clearStart s).patrol.cursor = some (0, 0) ∧ (clearStart s).patrol.running = false := by
  simp [clearStart, restartPatrol, regionStart, clearLivePairs]

/-- An entry of a list with one entry changed is the changed one or one of the list. -/
theorem mem_modify_cases {α : Type} {l : List α} {i : Nat} {f : α → α} {y : α} (h : y ∈ l.modify i f) :
    ∃ x ∈ l, y = f x ∨ y = x := by
  obtain ⟨j, hj⟩ := List.mem_iff_getElem?.1 h
  rw [List.getElem?_modify] at hj
  obtain ⟨x, hx, rfl⟩ := Option.map_eq_some_iff.1 hj
  refine ⟨x, List.mem_of_getElem? hx, ?_⟩
  split
  · exact .inl rfl
  · exact .inr rfl

/-- Every broken flag is clear, and a region start changes none (R16, R75). -/
theorem clearStart_broken {s : State} {r : RegionStatus} (h : r ∈ (clearStart s).map.status) : r.broken = false := by
  have hstatus : (clearStart s).map.status =
      (s.map.status.map (fun r => { r with broken := false })).modify 0 (fun r => { r with reported := false }) := rfl
  rw [hstatus] at h
  obtain ⟨x, hx, hr⟩ := mem_modify_cases h
  obtain ⟨y, -, rfl⟩ := List.mem_map.1 hx
  obtain rfl | rfl := hr <;> rfl

theorem prepareAttempt_spec (s : State) : (prepareAttempt s).vote.table = [] ∧ (prepareAttempt s).vote.counter = 0 ∧
    (prepareAttempt s).sig = (clearLivePairs s).sig ∧ (prepareAttempt s).patrol.pass = s.patrol.pass + 1 ∧
    (prepareAttempt s).patrol.cursor = some (0, 0) ∧ (prepareAttempt s).patrol.running = false ∧
    (prepareAttempt s).clear.pass = some { next := nextToClear s true 0, joiner := true } := by
  have hnext (u : State) (h : u.map.image = s.map.image) : nextToClear u true 0 = nextToClear s true 0 := by
    simp only [nextToClear, h]
  have hsig (u : State) (h : u.map.image = s.map.image) (g : u.sig = s.sig) : (clearLivePairs u).sig = (clearLivePairs s).sig := by
    simp only [clearLivePairs, h, g]
  have hpass (u : State) : (beginClear true u).clear.pass = some { next := nextToClear u true 0, joiner := true } := by
    simp only [beginClear]; split <;> simp
  simp only [prepareAttempt, beginClear_frame, clearStart_spec, hpass]
  simp [hsig, hnext]

/-! The end of a clear with no block (R131, R132). -/

/-- What the move to REQUEST leaves of the copy engine. -/
theorem enterRequest_copy (s : State) : (enterRequest s).copy.answers = s.copy.answers ∧
    (enterRequest s).copy.received = s.copy.received ∧ (enterRequest s).copy.secondAsked = s.copy.secondAsked ∧
    (enterRequest s).copy.admittedBy = s.copy.admittedBy := by
  simp only [enterRequest, askPeer]
  split
  · split <;> simp
  · simp

theorem enterRequest_queueGrows (s : State) : QueueGrows s (enterRequest s) := by
  simp only [enterRequest, askPeer]
  split
  · split
    · exact offerTo_queueGrows ..
    · exact .of_eq rfl
  · exact .of_eq rfl

theorem endJoinerClear_copy (s : State) : (endJoinerClear s).copy.answers = s.copy.answers ∧
    (endJoinerClear s).copy.received = s.copy.received ∧ (endJoinerClear s).copy.secondAsked = s.copy.secondAsked ∧
    (endJoinerClear s).copy.admittedBy = s.copy.admittedBy := by
  simp only [endJoinerClear]
  split
  · simp [enterRequest_copy]
  · simp

theorem endJoinerClear_queueGrows (s : State) : QueueGrows s (endJoinerClear s) := by
  have hstart : QueueGrows s (startPatrol { s with clear := { s.clear with pass := none } }) := .of_eq rfl
  simp only [endJoinerClear]
  split
  · exact hstart.trans (enterRequest_queueGrows _)
  · exact hstart

theorem endJoinerClear_patrol (s : State) : (endJoinerClear s).patrol.pass = s.patrol.pass ∧
    (endJoinerClear s).patrol.cursor = s.patrol.cursor := by
  simp only [endJoinerClear]
  split <;> simp [startPatrol]

/-! The attempt begun. -/

theorem nextToClear_prepareAttempt (s : State) : nextToClear (prepareAttempt s) true 0 = nextToClear s true 0 := by
  simp [nextToClear]

/-- What holds of the state before and after the end of a clear with no block holds of the attempt begun. -/
theorem startAttempt_cases (s : State) : startAttempt s = prepareAttempt s ∧ (nextToClear s true 0).isSome = true ∨
    startAttempt s = endJoinerClear (prepareAttempt s) ∧ nextToClear s true 0 = none := by
  rw [startAttempt_eq, nextToClear_prepareAttempt]
  cases nextToClear s true 0 <;> simp

theorem startAttempt_copy (s : State) : (startAttempt s).copy.attempt = nextAttempt s.copy.attempt ∧
    (startAttempt s).copy.repairs = [] ∧ (startAttempt s).copy.answers = [] ∧
    (startAttempt s).copy.received = none ∧ (startAttempt s).copy.secondAsked = false ∧
    (startAttempt s).copy.admittedBy = none := by
  obtain ⟨h, -⟩ | ⟨h, -⟩ := startAttempt_cases s <;> rw [h] <;> simp [endJoinerClear_copy, prepareAttempt_copy]

theorem startAttempt_spec (s : State) : (startAttempt s).vote.table = [] ∧ (startAttempt s).vote.counter = 0 ∧
    (startAttempt s).sig = (clearLivePairs s).sig ∧ (startAttempt s).patrol.pass = s.patrol.pass + 1 ∧
    (startAttempt s).patrol.cursor = some (0, 0) := by
  obtain ⟨h, -⟩ | ⟨h, -⟩ := startAttempt_cases s <;> rw [h] <;> simp [endJoinerClear_patrol, prepareAttempt_spec]

theorem startAttempt_broken {s : State} {r : RegionStatus} (h : r ∈ (startAttempt s).map.status) : r.broken = false := by
  have hmap : (startAttempt s).map = (prepareAttempt s).map := by
    obtain ⟨h, -⟩ | ⟨h, -⟩ := startAttempt_cases s <;> rw [h]
    simp
  simp only [hmap, prepareAttempt, beginClear_frame] at h
  exact clearStart_broken h

/-- A clear that has a block to write (R131). -/
theorem startAttempt_of_block {s : State} {b : Nat} (h : nextToClear s true 0 = some b) :
    (startAttempt s).copy.phase = .clear ∧ (startAttempt s).patrol.running = false ∧
      (startAttempt s).clear.pass = some { next := some b, joiner := true } := by
  obtain ⟨hs, -⟩ | ⟨-, hn⟩ := startAttempt_cases s
  · rw [hs, ← h]
    simp [prepareAttempt_copy, prepareAttempt_spec]
  · simp [h] at hn

theorem startAttempt_queueGrows (s : State) : QueueGrows s (startAttempt s) := by
  obtain ⟨h, -⟩ | ⟨h, -⟩ := startAttempt_cases s <;> rw [h]
  · exact .of_eq (by simp)
  · exact (QueueGrows.of_eq (by simp)).trans (endJoinerClear_queueGrows _)

/-! The lane enters JOINING (R127). -/

/-- The lane in JOINING, before its RESTORE-BEGIN report. -/
def joiningLane (s : State) : State :=
  let u := setLaneState .joining (dropFoundCause s)
  { u with lane := { u.lane with retry := none, retryDue := false, formation := none } }

/-- The RESTORE-BEGIN report (R127, R170). -/
def beginReport (g : Trigger) (s : State) : Report :=
  makeReport s .restoreBegin none 0 (packFields [(Trigger.code g, 0), (s.lane.attempts, 8)])
    (placeWord (nextAttempt s.copy.attempt))

theorem joiningLane_frame (s : State) :
    (joiningLane s).lines = s.lines ∧ (joiningLane s).loader = s.loader ∧ (joiningLane s).through = s.through ∧
    (joiningLane s).map = s.map ∧ (joiningLane s).checker = s.checker ∧ (joiningLane s).sram = s.sram ∧
    (joiningLane s).sig = s.sig ∧ (joiningLane s).patrol = s.patrol ∧ (joiningLane s).copy = s.copy ∧
    (joiningLane s).clear = s.clear ∧ (joiningLane s).log = s.log ∧ (joiningLane s).pending = s.pending := by
  simp [joiningLane]

theorem joiningLane_lane (s : State) : (joiningLane s).lane.state = .joining ∧
    (joiningLane s).lane.retainedState = .joining ∧ (joiningLane s).lane.retry = none ∧
    (joiningLane s).lane.retryDue = false ∧ (joiningLane s).lane.attempts = s.lane.attempts := by simp [joiningLane]

theorem joiningLane_view (s : State) :
    (joiningLane s).vote.view = some (PerLane.set (viewOf s) (ownLane s) .joining) := by
  have hview : viewOf (dropFoundCause s) = viewOf s := by simp [viewOf]
  simp only [joiningLane, setLaneState_vote, hview, ownLane_congr (s := s) (t := dropFoundCause s) (by simp)]
  rfl

theorem enterJoining_of_held {g : Trigger} {s : State} (h : s.lines.hold = true) : enterJoining g s =
    offerState (startAttempt (offer (beginReport g (joiningLane s)) (joiningLane s))) := by
  have hheld : (joiningLane s).lines.hold = true := by rw [(joiningLane_frame s).1, h]
  have hassert : assertHold (joiningLane s) = joiningLane s := assertHold_of_held hheld
  rw [show enterJoining g s = offerState (startAttempt (offer (beginReport g (assertHold (joiningLane s)))
    (assertHold (joiningLane s)))) from rfl, hassert]

theorem beginReport_detail1 (g : Trigger) (s : State) :
    (beginReport g s).detail1 = BitVec.ofNat 32 (Trigger.code g + s.lane.attempts * 2 ^ 8) := by
  simp [beginReport, makeReport, packFields]

/-- What the entry of JOINING leaves of a lane under HOLD. -/
structure JoiningFrom (g : Trigger) (s t : State) : Prop where
  state : t.lane.state = .joining ∧ t.lane.retainedState = .joining ∧ t.lane.retry = none ∧ t.lane.retryDue = false ∧
    t.lane.attempts = s.lane.attempts
  view : t.vote.view = some (PerLane.set (viewOf s) (ownLane s) .joining)
  copy : t.copy.attempt = nextAttempt s.copy.attempt ∧ t.copy.repairs = [] ∧ t.copy.answers = [] ∧
    t.copy.received = none ∧ t.copy.secondAsked = false ∧ t.copy.admittedBy = none
  spec : t.vote.table = [] ∧ t.vote.counter = 0 ∧ t.sig = (clearLivePairs s).sig ∧
    t.patrol.pass = s.patrol.pass + 1 ∧ t.patrol.cursor = some (0, 0)
  broken : ∀ r ∈ t.map.status, r.broken = false
  block : ∀ b, nextToClear s true 0 = some b → t.copy.phase = .clear ∧ t.patrol.running = false ∧
    t.clear.pass = some { next := some b, joiner := true }
  begins : ∃ more, t.log.queue = (offer (beginReport g (joiningLane s)) s).log.queue ++ more
  frame : t.lines = s.lines ∧ t.loader = s.loader ∧ t.through = s.through ∧ t.checker = s.checker ∧ t.sram = s.sram ∧
    t.pending = s.pending ∧ t.map.image = s.map.image ∧ t.map.lock = s.map.lock

theorem enterJoining_spec {g : Trigger} {s : State} (h : s.lines.hold = true) : JoiningFrom g s (enterJoining g s) := by
  have hframe := joiningLane_frame s
  have hlane := joiningLane_lane s
  have hview := joiningLane_view s
  rw [enterJoining_of_held h]
  generalize hr : beginReport g (joiningLane s) = r
  generalize joiningLane s = u at hframe hlane hview
  refine ⟨?_, ?_, ?_, ?_, fun x hx => ?_, fun b hb => ?_, ?_, ?_⟩
  · simp [hlane]
  · simp [hview]
  · simp [startAttempt_copy, hframe]
  · have hsig : (clearLivePairs (offer r u)).sig = (clearLivePairs s).sig := by simp [clearLivePairs, hframe]
    simp [startAttempt_spec, hsig, hframe]
  · exact startAttempt_broken (s := offer r u) (by simpa using hx)
  · have hb' : nextToClear (offer r u) true 0 = some b := by rw [← hb]; simp [nextToClear, hframe]
    simpa using startAttempt_of_block hb'
  · obtain ⟨more, hmore⟩ := (startAttempt_queueGrows (offer r u)).trans (offerState_queueGrows _)
    exact ⟨more, by rw [hmore, offer_log_congr (s := s) r (by simp [hframe]) (by simp [hframe]), hr]⟩
  · simp [hframe]

/-- Settles O36: the retry timer and RESTORE bring the lane into JOINING from states that differ in lane control alone. -/
theorem retryAndRestoreStartAnAttempt : Obligations.RetryAndRestoreStartAnAttempt := by
  intro s im him hiso hhold
  refine ⟨fun hretry hlow => ?_, fun hlow => ?_, fun u hu => ?_, fun hlow c n hc => ?_⟩
  · simp [exec, execRetryTimerExpiry, hiso, hretry, retryExpires, hlow, done]
  · simp [exec, execRestoreEdge, hlow]
  · simp [exec, execRestoreEdge, hu]
  obtain ⟨g, l, hexec, hattempts, hcode⟩ : ∃ g l, exec c s = .next (settle (enterJoining g { s with lane := l })) ∧
      l.attempts = n ∧ Trigger.code g = if c = .restoreEdge then 1 else 2 := by
    obtain ⟨rfl, hretry, rfl⟩ | ⟨rfl, rfl⟩ := hc
    · exact ⟨.retry, { s.lane with retry := none },
        by simp [exec, execRetryTimerExpiry, hiso, hretry, retryExpires, hlow, done], rfl, rfl⟩
    · exact ⟨.restore, { s.lane with attempts := 0, retry := none, retryDue := false },
        by simp [exec, execRestoreEdge, hiso, hlow, done], rfl, rfl⟩
  have hspec := enterJoining_spec (g := g) (s := { s with lane := l }) hhold
  obtain ⟨⟨hstate, hretained, hretry, hdue, hcount⟩, hview, ⟨hattempt, hrepairs, hanswers, hreceived, hsecond, hby⟩,
    ⟨htable, hcounter, hsig, hpass, hcursor⟩, hbroken, hblock, ⟨more, hmore⟩, hlines, hloader, hthrough, hchecker, hsram,
    hpending, himage, hlock⟩ := hspec
  generalize enterJoining g { s with lane := l } = t at *
  have hsig' : t.sig = { s.sig with live := Image.clearPairs im } := by rw [hsig]; simp [clearLivePairs, him]
  refine ⟨t, hexec, hstate, hretained, hretry, hdue, hcount.trans hattempts, by rw [hlines]; exact hhold, ?_, hattempt,
    hrepairs, hanswers, hreceived, hsecond, hby, himage, hlock, hbroken, by rw [hsig'], hpass, hcursor, htable, hcounter,
    fun b hb => hblock b hb, ⟨beginReport g (joiningLane { s with lane := l }), more, ?_, rfl, ?_⟩, ?_⟩
  · rw [standing, viewOf, hview]
    exact PerLane.get_set_self ..
  · rw [hmore, offer_log_congr (s := s) (t := { s with lane := l }) _ rfl rfl]
  · obtain ⟨-, -, -, -, hcounted⟩ := joiningLane_lane { s with lane := l }
    rw [beginReport_detail1, hcounted, hattempts, hcode]
  · refine State.ext ⟨hlines, hloader, hthrough, RegionMap.ext ⟨himage, hlock, rfl⟩, hchecker, hsram, rfl, ?_, rfl, rfl, rfl,
      rfl, rfl, rfl, rfl, rfl, hpending⟩
    rw [hsig']

end Sys2Proof.Machine
end

section
/-! The end of a burst (R6, R21, R41, R47, R122, R123, R128, R142, R148, R149). -/

namespace Sys2Proof.Machine

/-! The port released and the processor answered (R21, R41, R47). -/

/-- The state in which what falls due at the end of a burst happens: the port free, the due answer given. -/
def released (b : Burst) (s : State) : State :=
  match b.answer with
  | some a => answerAccess a (releasePort s)
  | none => releasePort s

theorem endBurst_of_other {b : Burst} {s : State} (h : b.owner ≠ .background .fill) :
    endBurst b s = placeLog (voteIfComplete (endWork b.atEnd (released b s))) := by
  simp only [endBurst, if_neg h]
  rfl

theorem exec_burstEnd {b : Burst} {s : State} (hb : s.port.burst = some b) (ho : b.owner ≠ .background .fill) :
    exec .burstEnd s = .next (settle (placeLog (voteIfComplete (endWork b.atEnd (released b s))))) := by
  rw [← endBurst_of_other ho]
  simp only [exec, execBurstEnd, hb]
  rfl

@[simp] theorem released_frame (b : Burst) (s : State) :
    (released b s).loader = s.loader ∧ (released b s).map = s.map ∧ (released b s).checker = s.checker ∧
    (released b s).sram = s.sram ∧ (released b s).sig = s.sig ∧ (released b s).patrol = s.patrol ∧
    (released b s).link1 = s.link1 ∧ (released b s).link2 = s.link2 ∧ (released b s).vote = s.vote ∧
    (released b s).lane = s.lane ∧ (released b s).copy = s.copy ∧ (released b s).clear = s.clear ∧
    (released b s).log = s.log ∧ (released b s).pending = s.pending ∧ (released b s).lines.straps = s.lines.straps ∧
    (released b s).lines.hold = s.lines.hold := by
  unfold released; split <;> simp

theorem released_lines (b : Burst) (s : State) : (released b s).lines =
    { s.lines with answer := if b.answer.isSome then b.answer else s.lines.answer } := by
  unfold released
  split
  case h_1 a h => simp [answerAccess, h]
  case h_2 h => simp [h]

theorem released_through (b : Burst) (s : State) : (released b s).through =
    if b.answer.isSome then { access := none, merge := none } else s.through := by
  unfold released
  split
  case h_1 a h => simp [answerAccess, h]
  case h_2 h => simp [h]

theorem released_port (b : Burst) (s : State) : (released b s).port = (releasePort s).port := by
  unfold released; split <;> rfl

theorem releasePort_port (s : State) : (releasePort s).port.burst = none ∧
    (releasePort s).port.procWaiting = s.port.procWaiting ∧
    (∀ c, ageOf (releasePort s).port c = ageOf s.port c) ∧
    (s.port.drain = some [] → (releasePort s).port.drain = none ∧ (releasePort s).port.afterDrain = true) ∧
    (s.port.drain ≠ some [] →
      (releasePort s).port.drain = s.port.drain ∧ (releasePort s).port.afterDrain = s.port.afterDrain) := by
  by_cases h : s.port.drain = some []
  · rw [releasePort, if_pos h]
    exact ⟨rfl, rfl, fun c => by cases c <;> rfl, fun _ => ⟨rfl, rfl⟩, fun g => absurd h g⟩
  · rw [releasePort, if_neg h]
    exact ⟨rfl, rfl, fun c => by cases c <;> rfl, fun g => absurd g h, fun _ => ⟨rfl, rfl⟩⟩

@[simp] theorem released_burst (b : Burst) (s : State) :
    (released b s).port.burst = none ∧ (released b s).port.procWaiting = s.port.procWaiting := by
  rw [released_port]
  obtain ⟨hb, hp, -⟩ := releasePort_port s
  exact ⟨hb, hp⟩

@[simp] theorem getPort_released (b : Burst) (s : State) (p : PortId) : getPort (released b s) p = getPort s p := by
  cases p <;> simp

/-! The LOG request, and no vote due (R43, R105). -/

theorem placeLog_port (s : State) : (placeLog s).port.burst = s.port.burst ∧
    (placeLog s).port.procWaiting = s.port.procWaiting ∧ (placeLog s).port.drain = s.port.drain ∧
    (placeLog s).port.afterDrain = s.port.afterDrain ∧
    (∀ c, c ≠ .log → ageOf (placeLog s).port c = ageOf s.port c) := by
  unfold placeLog
  split
  · exact ⟨rfl, rfl, rfl, rfl, fun _ _ => rfl⟩
  · refine ⟨by simp, by simp, ?_, ?_, fun c hc => place_of_ne s hc⟩
    all_goals unfold place; split <;> simp

theorem placeLog_waits {s : State} (hb : s.port.burst = none) (hq : s.log.queue ≠ []) :
    waits (placeLog s).port .log = true := by
  have hn : ¬ (s.log.queue.isEmpty || holdsPort s.port (.background .log)) = true := by simp [holdsPort, hb, hq]
  rw [placeLog, if_neg hn]
  exact place_waits ..

theorem voteIfComplete_of_none {s : State} (h : NoVoteDue s) : voteIfComplete s = s := by
  have h' : s.vote.table.find? (isComplete (ownLane s)) = none := h
  simp only [voteIfComplete, h']

theorem NoVoteDue.congr {s t : State} (h : NoVoteDue s) (ht : t.vote.table = s.vote.table)
    (hs : t.lines.straps = s.lines.straps) : NoVoteDue t := by
  unfold NoVoteDue
  rw [ht, ownLane_congr hs]
  exact h

theorem noVoteDue_of_empty {s : State} (h : s.vote.table = []) : NoVoteDue s := by simp [NoVoteDue, h]

/-! A lane isolated with its port free (R52, R123). -/

theorem giveDueAnswer_of_free {s : State} (h : s.port.burst = none) : giveDueAnswer s = s := by
  simp [giveDueAnswer, h]

/-- HOLD asserted with no burst in progress: a waiting access is dropped (R52). -/
theorem assertHold_of_free {s : State} (h : s.port.burst = none) (hh : s.lines.hold = false) :
    (assertHold s).lines = { s.lines with hold := true } ∧
      (assertHold s).through = (if s.port.procWaiting then { access := none, merge := none } else s.through) ∧
      (assertHold s).port = { s.port with procWaiting := false } := by
  have hfalse : ¬ s.lines.hold = true := by simp [hh]
  rw [assertHold, if_neg hfalse, giveDueAnswer_of_free h, dropWaitingAccess]
  cases hp : s.port.procWaiting
  · exact ⟨rfl, rfl, by rw [if_neg (by decide), ← hp]⟩
  · exact ⟨rfl, rfl, rfl⟩

theorem dropFoundCause_of_free {s : State} (h : s.port.burst = none) : dropFoundCause s = s := by
  simp [dropFoundCause, h]

theorem offerControl_burst (p : PortId) (f : Frame) (s : State) : (offerControl p f s).port.burst = s.port.burst := by
  unfold offerControl
  split
  · split
    · simp [startPort]
    · simp [txFull, linkError]
  · rfl

@[simp] theorem offerTo_burst (l : Lane) (f : Frame) (s : State) : (offerTo l f s).port.burst = s.port.burst := by
  unfold offerTo; split
  · exact offerControl_burst ..
  · rfl

@[simp] theorem offerState_burst (s : State) : (offerState s).port.burst = s.port.burst := by
  simp only [offerState, offerBoth, offerControl_burst]

/-- With the port free the end of serving withdraws a waiting request and no more (R44, R148). -/
theorem endRestoreJob_of_free {s : State} (h : s.port.burst = none) : endRestoreJob s =
    match s.copy.job with
    | some (.restore p) => freeSlot p (withdraw .copy { s with copy := { s.copy with job := none } })
    | _ => s := by
  have hfree (u : State) (hu : u.port.burst = none) : (match u.port.burst with
      | some b =>
        match b.atEnd with
        | .sendBlock p _ _ _ => freeSlot p (setAtEnd .nothing u)
        | .damaged p block true => freeSlot p (setAtEnd (.damaged p block false) u)
        | _ => u
      | none => u) = u := by rw [hu]
  unfold endRestoreJob
  refine hfree _ ?_
  split
  · simpa using h
  · exact h

theorem endRestoreJob_burst {s : State} (h : s.port.burst = none) : (endRestoreJob s).port.burst = none := by
  rw [endRestoreJob_of_free h]
  split
  · simpa using h
  · exact h

/-! The end of serving (R148). -/

/-- Timers, hold, queue and cursor of the serving stopped (R148). -/
def stopServing (s : State) : State :=
  { s with
    copy := { s.copy with progress := none, holdTimer := none, catchUp := .none, kept := none, dirty := [],
                          cursor := none, serving := none }
    lane := { s.lane with retainedServing := false } }

/-- The port of the joiner purged (R95). -/
def purgeFor (joiner : Lane) (attempt : Nat) (s : State) : State :=
  match portTo s joiner with
  | some p => purgeBulk p attempt s
  | none => s

/-- ABANDON offered to the joiner, if the end calls for it (R148). -/
def abandonTo (joiner : Lane) (attempt : Nat) (abandon : Option Cause) (s : State) : State :=
  match abandon with
  | some c => offerTo joiner (.abandon attempt c) s
  | none => s

theorem endServingStep_of_none {o : Cause} {a : Option Cause} {s : State} (h : s.copy.serving = none) :
    endServingStep o a s = s := by simp [endServingStep, h]

theorem endServingStep_of_some {o : Cause} {a : Option Cause} {s : State} {joiner : Lane} {attempt : Nat}
    (h : s.copy.serving = some (joiner, attempt)) : endServingStep o a s =
      if outcomeExcludes o then
        excludePeer joiner (abandonTo joiner attempt a (purgeFor joiner attempt (stopServing (endRestoreJob s))))
      else abandonTo joiner attempt a (purgeFor joiner attempt (stopServing (endRestoreJob s))) := by
  simp only [endServingStep, h]
  rfl

@[simp] theorem purgeFor_frame (l : Lane) (n : Nat) (s : State) :
    (purgeFor l n s).copy = s.copy ∧ (purgeFor l n s).lane = s.lane ∧ (purgeFor l n s).port = s.port ∧
    (purgeFor l n s).vote = s.vote ∧ (purgeFor l n s).lines = s.lines ∧ (purgeFor l n s).map = s.map := by
  unfold purgeFor; split <;> simp

@[simp] theorem abandonTo_frame (l : Lane) (n : Nat) (a : Option Cause) (s : State) :
    (abandonTo l n a s).copy = s.copy ∧ (abandonTo l n a s).lane = s.lane ∧
    (abandonTo l n a s).port.burst = s.port.burst ∧ (abandonTo l n a s).vote = s.vote ∧
    (abandonTo l n a s).lines = s.lines ∧ (abandonTo l n a s).map = s.map := by
  unfold abandonTo; split <;> simp

/-- What the end of serving leaves of the copy engine and the lane (R129, R148). -/
theorem endServingStep_copy {o : Cause} {a : Option Cause} {s : State} (h : s.copy.serving.isSome = true) :
    (endServingStep o a s).copy.dirty = [] ∧ (endServingStep o a s).copy.cursor = none ∧
      (endServingStep o a s).copy.catchUp = .none ∧ (endServingStep o a s).copy.progress = none ∧
      (endServingStep o a s).copy.holdTimer = none ∧ (endServingStep o a s).lane.retainedServing = false := by
  obtain ⟨⟨joiner, attempt⟩, hs⟩ := Option.isSome_iff_exists.1 h
  rw [endServingStep_of_some hs]
  split <;> simp [stopServing]

@[simp] theorem endServingStep_serving (o : Cause) (a : Option Cause) (s : State) :
    (endServingStep o a s).copy.serving = none := by
  cases hs : s.copy.serving with
  | none => rw [endServingStep_of_none hs, hs]
  | some x => rw [endServingStep_of_some hs]; split <;> simp [stopServing]

theorem endServingStep_burst {o : Cause} {a : Option Cause} {s : State} (h : s.port.burst = none) :
    (endServingStep o a s).port.burst = none := by
  cases hs : s.copy.serving with
  | none => rw [endServingStep_of_none hs, h]
  | some x => rw [endServingStep_of_some hs]; split <;> simp [stopServing, endRestoreJob_burst h]

theorem excludePeer_standing (l : Lane) (s : State) : standing (excludePeer l s) l = .excluded := by
  unfold excludePeer
  split <;> simp [standing, viewOf]

/-- A joiner whose serving ends is EXCLUDED, unless it was admitted or replaced (R148). -/
theorem endServingStep_standing {o : Cause} {a : Option Cause} {s : State} {joiner : Lane} {attempt : Nat}
    (h : s.copy.serving = some (joiner, attempt)) (ho : outcomeExcludes o = true) :
    standing (endServingStep o a s) joiner = .excluded := by
  rw [endServingStep_of_some h, if_pos ho]
  exact excludePeer_standing ..

@[simp] theorem reportServeEnd_burst (b : State) (o : Cause) (n : Option Nat) (s : State) :
    (reportServeEnd b o n s).port.burst = s.port.burst := by
  unfold reportServeEnd
  split
  · rfl
  · simp only; split <;> simp [reportExcluded]

/-! Isolation (R123). -/

@[simp] theorem dropRepairWork_burst (s : State) : (dropRepairWork s).port.burst = s.port.burst := by
  simp only [dropRepairWork, endAnswerJob, dropReceived]
  (repeat' split) <;> simp

@[simp] theorem dropRepairWork_timers (s : State) : (dropRepairWork s).copy.progress = s.copy.progress ∧
    (dropRepairWork s).copy.holdTimer = s.copy.holdTimer := by
  simp only [dropRepairWork, endAnswerJob, dropReceived]
  (repeat' split) <;> simp

theorem excludePeer_table {l : Lane} {s : State} (h : s.vote.table = []) : (excludePeer l s).vote.table = [] := by
  unfold excludePeer
  split <;> simp [h]

theorem endServingStep_table {o : Cause} {a : Option Cause} {s : State} (h : s.vote.table = []) :
    (endServingStep o a s).vote.table = [] := by
  cases hs : s.copy.serving with
  | none => rw [endServingStep_of_none hs, h]
  | some x =>
    rw [endServingStep_of_some hs]
    split
    · exact excludePeer_table (by simp [stopServing, h])
    · simp [stopServing, h]

theorem isolate_ends (c : Cause) (n : Option Nat) (s : State) :
    (isolate c n s).lane.retainedCause = some c ∧ (isolate c n s).vote.table = [] ∧
      (isolate c n s).copy.serving = none ∧ (isolate c n s).copy.repairs = [] := by
  have htable (u : State) (o : Cause) (a : Option Cause) : (endServingStep o a (emptyVote u)).vote.table = [] :=
    endServingStep_table rfl
  simp only [isolate]
  split <;> simp [htable]

/-- The isolation of a lane that serves nobody leaves the view of the other lanes and what belongs to serving. -/
theorem isolate_of_idle {c : Cause} {n : Option Nat} {s : State} (h : s.copy.serving = none) :
    (isolate c n s).copy.dirty = s.copy.dirty ∧ (isolate c n s).copy.cursor = s.copy.cursor ∧
      (isolate c n s).copy.catchUp = s.copy.catchUp ∧ (isolate c n s).copy.progress = s.copy.progress ∧
      (isolate c n s).copy.holdTimer = s.copy.holdTimer ∧
      (isolate c n s).lane.retainedServing = s.lane.retainedServing ∧
      (isolate c n s).vote.view = some (PerLane.set (viewOf s) (ownLane s) .excluded) := by
  have hidle : (emptyVote (assertHold (setLaneState .isolated (dropFoundCause s)))).copy.serving = none := by simp [h]
  have hview : viewOf (dropFoundCause s) = viewOf s := by simp [viewOf]
  have hown : ownLane (dropFoundCause s) = ownLane s := ownLane_congr (by simp)
  simp only [isolate, endServingStep_of_none hidle]
  split <;> simp [setLaneState_vote, hview, hown, mirrorOf]

theorem assertHold_burst {s : State} (h : s.port.burst = none) : (assertHold s).port.burst = none := by
  unfold assertHold
  split
  · exact h
  · simpa [giveDueAnswer_of_free h] using h

theorem isolate_burst {c : Cause} {n : Option Nat} {s : State} (h : s.port.burst = none) :
    (isolate c n s).port.burst = none := by
  have hhold : (assertHold (setLaneState .isolated s)).port.burst = none := assertHold_burst (by simpa using h)
  have hserving : (endServingStep .isolated (some .isolated)
      (emptyVote (assertHold (setLaneState .isolated s)))).port.burst = none := endServingStep_burst (by simpa using hhold)
  simp only [isolate, dropFoundCause_of_free h]
  split <;> simp [hserving, reportIsolated]

/-- The isolation of a lane whose port is free: HOLD rises, and an access that waits is dropped (R52, R123). -/
theorem isolate_of_free {c : Cause} {n : Option Nat} {s : State} (hb : s.port.burst = none) (hh : s.lines.hold = false) :
    (isolate c n s).lines = { s.lines with hold := true } ∧
      (isolate c n s).through = (if s.port.procWaiting then { access := none, merge := none } else s.through) := by
  obtain ⟨hlines, hthrough, -⟩ := assertHold_of_free (s := setLaneState .isolated s) (by simpa using hb) (by simpa using hh)
  simp only [isolate, dropFoundCause_of_free hb]
  split <;> simp [hlines, hthrough]

/-- An attempt failed with the port free leaves it free. -/
theorem failAttempt_burst {c : Cause} {b : Bool} {d : Option Cause} {s : State} (hb : s.port.burst = none) :
    (failAttempt c b d s).port.burst = none := by
  have hend : (endAttempt c b s).port.burst = none := by
    simp only [endAttempt, dropReceived]
    (repeat' split) <;> simp [hb]
  unfold failAttempt
  split
  · simp [dropFoundCause_of_free hend, hend, reportRestoreEnd]
  · exact hb

/-! A frame that stays in a control queue (R93, R148). -/

/-- A frame waits in the control queue of a port that is sending or in its gap. -/
def HasControl (p : PortId) (f : Frame) (s : State) : Prop :=
  f ∈ (getPort s p).control ∧ (getPort s p).transmitter ≠ .resting

theorem HasControl.of_port {p : PortId} {f : Frame} {s t : State} (h : HasControl p f s)
    (ht : getPort t p = getPort s p) : HasControl p f t := by
  rw [HasControl, ht]
  exact h

theorem HasControl.of_links {p : PortId} {f : Frame} {s t : State} (h : HasControl p f s)
    (h1 : t.link1 = s.link1) (h2 : t.link2 = s.link2) : HasControl p f t :=
  h.of_port (by cases p <;> simp [h1, h2])

theorem HasControl.of_offer {p : PortId} {f : Frame} {s : State} (r : Report) (h : HasControl p f s) :
    HasControl p f (offer r s) := h.of_port (by simp)

theorem HasControl.of_setPort {p q : PortId} {f : Frame} {s : State} {v : LinkPort} (h : HasControl p f s)
    (hv : ∀ g ∈ (getPort s q).control, g ∈ v.control) (ht : v.transmitter = (getPort s q).transmitter) :
    HasControl p f (setPort s q v) := by
  by_cases hq : p = q
  · subst hq
    obtain ⟨hf, hr⟩ := h
    exact ⟨by simpa using hv f hf, by simpa [ht] using hr⟩
  · exact h.of_port (getPort_setPort_of_ne _ _ hq)

theorem HasControl.of_freeSlot {p : PortId} {f : Frame} {s : State} (q : PortId) (h : HasControl p f s) :
    HasControl p f (freeSlot q s) := h.of_setPort (fun _ hg => hg) rfl

/-- Another frame offered to a port that is not resting starts nothing, so that what waits goes on waiting. -/
theorem HasControl.of_offerControl {p : PortId} {f : Frame} {s : State} (q : PortId) (g : Frame) (h : HasControl p f s) :
    HasControl p f (offerControl q g s) := by
  by_cases hq : p = q
  · subst hq
    by_cases ha : LinkPort.active (getPort s p) = true
    case neg => rw [offerControl, if_neg ha]; exact h
    case pos =>
      by_cases hr : (getPort s p).control.length < 8
      · rw [offerControl_of_room ha hr h.2]
        exact h.of_setPort (fun _ hg => List.mem_append_left _ hg) rfl
      · have hr' : ¬ (getPort s p).control.length < Config.controlDepth := hr
        rw [offerControl, if_pos ha, if_neg hr']
        exact .of_offer _ (h.of_setPort (v := { getPort s p with errors := _ }) (fun _ hg => hg) rfl)
  · exact h.of_port (getPort_offerControl_of_ne g s hq)

theorem HasControl.of_offerState {p : PortId} {f : Frame} {s : State} (h : HasControl p f s) :
    HasControl p f (offerState s) := (h.of_offerControl _ _).of_offerControl _ _

theorem HasControl.of_dropRepairWork {p : PortId} {f : Frame} {s : State} (h : HasControl p f s) :
    HasControl p f (dropRepairWork s) := by
  have hanswer {t : State} (g : HasControl p f t) : HasControl p f (endAnswerJob t) := by
    unfold endAnswerJob
    split
    · exact (g.of_links (t := withdraw .copy { t with copy := { t.copy with job := none } }) (by simp) (by simp)).of_freeSlot _
    · exact g
  unfold dropRepairWork
  split
  · exact (hanswer (h.of_links (t := dropReceived s) (by simp) (by simp))).of_links rfl rfl
  · exact (hanswer h).of_links rfl rfl

theorem HasControl.of_reportServeEnd {p : PortId} {f : Frame} {s : State} (b : State) (o : Cause) (n : Option Nat)
    (h : HasControl p f s) : HasControl p f (reportServeEnd b o n s) := h.of_links (by simp) (by simp)

/-- The isolation of a lane that serves nobody takes no frame from a control queue. -/
theorem HasControl.of_isolate {p : PortId} {f : Frame} {s : State} {c : Cause} {n : Option Nat} (h : HasControl p f s)
    (hs : s.copy.serving = none) : HasControl p f (isolate c n s) := by
  have hidle : (emptyVote (assertHold (setLaneState .isolated (dropFoundCause s)))).copy.serving = none := by simp [hs]
  have hlinks : HasControl p f (emptyVote (assertHold (setLaneState .isolated (dropFoundCause s)))) :=
    h.of_links (by simp) (by simp)
  simp only [isolate, endServingStep_of_none hidle]
  refine .of_offerState (.of_reportServeEnd _ _ _ (.of_offer _ ?_))
  split
  · exact hlinks.of_dropRepairWork.of_links (by simp) (by simp)
  · exact hlinks.of_dropRepairWork.of_links rfl rfl

/-! The class action of a bad block at the end of its burst (R6, R148, R149). -/

theorem copyClassAction_of_isolating {s : State} {b : Nat} {loc : Located} (hl : locate s b = some loc)
    (hc : loc.policy.cls = .voted ∨ (loc.policy.cls = .plain ∧ loc.policy.isolates = true)) (hr : running s = true) :
    copyClassAction b s = isolate .memory (some loc.index) s := by
  simp only [copyClassAction, blockCause, hl, (classCause_of_isolating s hc).1 hr, leave_of_running hr]

theorem copyClassAction_of_staying {s : State} {b : Nat} {loc : Located} (hl : locate s b = some loc)
    (hc : loc.policy.cls = .constant ∨ loc.policy.cls = .log ∨ (loc.policy.cls = .plain ∧ loc.policy.isolates = false)) :
    copyClassAction b s = classRepair loc b s := by
  simp only [copyClassAction, blockCause, hl, classCause_of_staying s hc]

theorem classRepair_of_other {s : State} {b : Nat} {loc : Located} (h : loc.policy.cls ≠ .constant) :
    classRepair loc b s = s := by simp [classRepair, h]

theorem getPort_classRepair (loc : Located) (b : Nat) (s : State) (p : PortId) :
    getPort (classRepair loc b s) p = getPort s p := by cases p <;> simp

theorem repairsAfter_of_constant {s : State} {b : Nat} {loc : Located} (hc : loc.policy.cls = .constant)
    (hr : running s = true) : repairsAfter loc b s =
      if b ∉ s.copy.repairs ∧ s.copy.repairs.length < 4 then s.copy.repairs ++ [b] else s.copy.repairs := by
  simp [repairsAfter, hc, hr]

theorem HasControl.of_classRepair {p : PortId} {f : Frame} {s : State} (loc : Located) (b : Nat) (h : HasControl p f s) :
    HasControl p f (classRepair loc b s) :=
  h.of_port (getPort_classRepair ..)

/-! The end of serving over a port with room (R93, R148). -/

theorem portTo_congr {s t : State} (h1 : t.link1.peer = s.link1.peer) (h2 : t.link2.peer = s.link2.peer) (l : Lane) :
    portTo t l = portTo s l := by simp only [portTo, h1, h2]

@[simp] theorem portTo_freeSlot (p : PortId) (s : State) (l : Lane) : portTo (freeSlot p s) l = portTo s l := by
  refine portTo_congr ?_ ?_ l <;> cases p <;> rfl

@[simp] theorem portTo_released (b : Burst) (s : State) (l : Lane) : portTo (released b s) l = portTo s l :=
  portTo_congr (by simp) (by simp) l

@[simp] theorem getPort_freeSlot (p : PortId) (s : State) : getPort (freeSlot p s) p =
    { getPort s p with reserved := (getPort s p).reserved - 1 } := getPort_setPort_self ..

/-- ABANDON to a joiner whose port has room waits in its control queue (R93, R148). -/
theorem abandonTo_hasControl {p : PortId} {joiner : Lane} {attempt : Nat} {c : Cause} {s : State}
    (hp : portTo s joiner = some p) (ha : LinkPort.active (getPort s p) = true) (hr : (getPort s p).control.length < 8)
    (ht : (getPort s p).transmitter ≠ .resting) :
    HasControl p (.abandon attempt c) (abandonTo joiner attempt (some c) (purgeFor joiner attempt s)) := by
  have hpurge : purgeFor joiner attempt s = purgeBulk p attempt s := by rw [purgeFor, hp]
  have hport : getPort (purgeBulk p attempt s) p =
      { getPort s p with bulk := (getPort s p).bulk.filter (fun f => !purged attempt f) } := getPort_setPort_self ..
  have hto : portTo (purgeBulk p attempt s) joiner = some p := by
    rw [← hp]
    refine portTo_congr ?_ ?_ joiner <;> cases p <;> rfl
  have hoffer : offerTo joiner (.abandon attempt c) (purgeBulk p attempt s) =
      offerControl p (.abandon attempt c) (purgeBulk p attempt s) := by rw [offerTo, hto]
  rw [hpurge, abandonTo, hoffer, offerControl_of_room (by rw [hport]; exact ha) (by rw [hport]; exact hr) (by rw [hport]; exact ht)]
  constructor
  · simp
  · simpa [hport] using ht

/-- Serving ended with DAMAGED while no request or burst of it waits (R148). -/
theorem endServingStep_hasControl {p : PortId} {joiner : Lane} {attempt : Nat} {o c : Cause} {s : State}
    (hs : s.copy.serving = some (joiner, attempt)) (hb : s.port.burst = none) (hj : s.copy.job = none)
    (hp : portTo s joiner = some p) (ha : LinkPort.active (getPort s p) = true) (hr : (getPort s p).control.length < 8)
    (ht : (getPort s p).transmitter ≠ .resting) : HasControl p (.abandon attempt c) (endServingStep o (some c) s) := by
  have hjob : endRestoreJob s = s := by rw [endRestoreJob_of_free hb, hj]
  have hstop : getPort (stopServing s) p = getPort s p := by cases p <;> rfl
  have hto : portTo (stopServing s) joiner = some p := hp
  have hwaits : HasControl p (.abandon attempt c) (abandonTo joiner attempt (some c) (purgeFor joiner attempt (stopServing s))) :=
    abandonTo_hasControl hto (by rw [hstop]; exact ha) (by rw [hstop]; exact hr) (by rw [hstop]; exact ht)
  rw [endServingStep_of_some hs, hjob]
  split
  · exact hwaits.of_links (by simp) (by simp)
  · exact hwaits

/-! The six ends of a burst, each from the state in which the port is free and the answer given. -/

/-- Nothing found: the LOG request and no more. -/
theorem burstEnd_nothing {s : State} {b : Burst} (he : b.atEnd = .nothing) (hn : NoVoteDue s) :
    voteIfComplete (endWork b.atEnd (released b s)) = released b s := by
  have hwork : endWork b.atEnd (released b s) = released b s := by rw [he]; rfl
  rw [hwork]
  exact voteIfComplete_of_none (hn.congr (by simp) (by simp))

theorem placed_released {s t : State} {b : Burst} (ht : t = placeLog (released b s)) :
    t = { s with lines := { s.lines with answer := if b.answer.isSome then b.answer else s.lines.answer },
                 through := if b.answer.isSome then { access := none, merge := none } else s.through,
                 port := t.port } ∧
      t.port.burst = none ∧ t.port.procWaiting = s.port.procWaiting ∧
      (∀ c, c ≠ .log → ageOf t.port c = ageOf s.port c) ∧ (s.log.queue ≠ [] → waits t.port .log = true) ∧
      (s.port.drain = some [] → t.port.drain = none ∧ t.port.afterDrain = true) ∧
      (s.port.drain ≠ some [] → t.port.drain = s.port.drain ∧ t.port.afterDrain = s.port.afterDrain) := by
  subst ht
  obtain ⟨-, hwaiting, hage, hdrained, hkept⟩ := releasePort_port s
  obtain ⟨hburst, hproc, hdrain, hafter, hages⟩ := placeLog_port (released b s)
  rw [released_port] at hdrain hafter hages
  refine ⟨State.ext ⟨by simp [released_lines], by simp, by simp [released_through], by simp⟩, by simp [hburst], by simp [hproc],
    fun c hc => (hages c hc).trans (hage c), fun hq => placeLog_waits (by simp) (by simpa using hq), fun hd => ?_, fun hd => ?_⟩
  · rw [hdrain, hafter]; exact hdrained hd
  · rw [hdrain, hafter]; exact hkept hd

/-- The LOG request leaves everything but the requests. -/
theorem placeLog_links (s : State) (p : PortId) : getPort (placeLog s) p = getPort s p := by cases p <;> simp

/-- A cause found isolates the lane after the answer (R52, R123). -/
theorem burstEnd_leaves {s : State} {b : Burst} {cause : Cause} {names : Option Nat} (he : b.atEnd = .leave cause names)
    (hr : running s = true) :
    voteIfComplete (endWork b.atEnd (released b s)) = isolate cause names (released b s) := by
  have hwork : endWork b.atEnd (released b s) = isolate cause names (released b s) := by
    rw [he]
    exact leave_of_running ((running_congr (by simp)).trans hr)
  rw [hwork]
  exact voteIfComplete_of_none (noVoteDue_of_empty (isolate_ends ..).2.1)

/-- A cause found in JOINING fails the attempt (R128). -/
theorem burstEnd_fails {s : State} {b : Burst} {cause : Cause} (he : b.atEnd = .failAttempt cause) (hn : NoVoteDue s) :
    voteIfComplete (endWork b.atEnd (released b s)) = failAttempt cause false none (released b s) := by
  have hwork : endWork b.atEnd (released b s) = failAttempt cause false none (released b s) := by rw [he]; rfl
  rw [hwork]
  exact voteIfComplete_of_none (hn.congr (by simp) (by simp))

/-- A block read for the restoration or for a FETCH fills its reserved slot (R93, R142, R149). -/
theorem burstEnd_fills {s : State} {b : Burst} {p : PortId} {f : Frame}
    (he : (∃ attempt n words, b.atEnd = .sendBlock p attempt n words ∧ f = .block attempt n words) ∨
      (∃ n words, b.atEnd = .sendFetched p n words ∧ f = .fetched n words)) (hn : NoVoteDue s) :
    voteIfComplete (endWork b.atEnd (released b s)) = fillSlot p f (released b s) := by
  have hwork : endWork b.atEnd (released b s) = fillSlot p f (released b s) := by
    obtain ⟨attempt, n, words, he, rfl⟩ | ⟨n, words, he, rfl⟩ := he <;> rw [he] <;> rfl
  rw [hwork]
  exact voteIfComplete_of_none (hn.congr (by simp) (by simp))

theorem getPort_fillSlot {p : PortId} {f : Frame} {s : State} (ha : LinkPort.active (getPort s p) = true)
    (h1 : 1 ≤ (getPort s p).reserved) (hr : (getPort s p).bulk.length + (getPort s p).reserved ≤ 4)
    (ht : (getPort s p).transmitter ≠ .resting) : getPort (fillSlot p f s) p =
      { getPort s p with reserved := (getPort s p).reserved - 1, bulk := (getPort s p).bulk ++ [f] } := by
  have hroom : (getPort (freeSlot p s) p).bulk.length + (getPort (freeSlot p s) p).reserved < 4 := by
    rw [getPort_freeSlot]
    show (getPort s p).bulk.length + ((getPort s p).reserved - 1) < 4
    omega
  rw [fillSlot, offerBulk_of_room (by rw [getPort_freeSlot]; exact ha) hroom (by rw [getPort_freeSlot]; exact ht),
    getPort_setPort_self, getPort_freeSlot]

/-- A bad block of a FETCH frees its slot, is refused and enters the repair list (R149, R150). -/
theorem burstEnd_refuses {s : State} {b : Burst} {p : PortId} {n : Nat} {loc : Located} (he : b.atEnd = .refuseFetched p n)
    (hl : locate s n = some loc) (hc : loc.policy.cls = .constant) (hn : NoVoteDue s) :
    voteIfComplete (endWork b.atEnd (released b s)) =
      classRepair loc n (offerControl p (.refuse (.fetch n) .damaged) (freeSlot p (released b s))) := by
  have hlocate : locate (offerControl p (.refuse (.fetch n) .damaged) (freeSlot p (released b s))) n = some loc :=
    (locate_congr (by simp) n).trans hl
  have hwork : endWork b.atEnd (released b s) =
      classRepair loc n (offerControl p (.refuse (.fetch n) .damaged) (freeSlot p (released b s))) := by
    rw [he]
    exact copyClassAction_of_staying hlocate (.inl hc)
  rw [hwork]
  exact voteIfComplete_of_none (hn.congr (by simp) (by simp))

/-- The state in which the class action of a bad block of the restoration is taken (R148). -/
def servingEnded (p : PortId) (s : State) : State := endServing .damaged (some .damaged) none (freeSlot p s)

/-- Serving over and done with, and the port free (R148). -/
structure ServingOver (s : State) : Prop where
  burst : s.port.burst = none
  serving : s.copy.serving = none
  dirty : s.copy.dirty = []
  cursor : s.copy.cursor = none
  catchUp : s.copy.catchUp = .none
  progress : s.copy.progress = none
  hold : s.copy.holdTimer = none
  retained : s.lane.retainedServing = false

theorem ServingOver.of_isolate {c : Cause} {n : Option Nat} {s : State} (h : ServingOver s) :
    ServingOver (isolate c n s) := by
  obtain ⟨hdirty, hcursor, hcatch, hprogress, hhold, hretained, -⟩ := isolate_of_idle (c := c) (n := n) h.serving
  exact ⟨isolate_burst h.burst, (isolate_ends ..).2.2.1, hdirty.trans h.dirty, hcursor.trans h.cursor,
    hcatch.trans h.catchUp, hprogress.trans h.progress, hhold.trans h.hold, hretained.trans h.retained⟩

theorem ServingOver.of_classRepair {s : State} (loc : Located) (b : Nat) (h : ServingOver s) :
    ServingOver (classRepair loc b s) := by
  have hcopy := classRepair_copy loc b s
  exact ⟨by simpa using h.burst, by rw [hcopy]; exact h.serving, by rw [hcopy]; exact h.dirty,
    by rw [hcopy]; exact h.cursor, by rw [hcopy]; exact h.catchUp, by rw [hcopy]; exact h.progress,
    by rw [hcopy]; exact h.hold, by simpa using h.retained⟩

/-- A bad block of the restoration ends serving (R148). -/
theorem servingEnded_over {p : PortId} {s : State} {joiner : Lane} {attempt : Nat}
    (hs : s.copy.serving = some (joiner, attempt)) (hb : s.port.burst = none) :
    ServingOver (servingEnded p s) ∧ standing (servingEnded p s) joiner = .excluded := by
  have hs' : (freeSlot p s).copy.serving = some (joiner, attempt) := by simpa using hs
  obtain ⟨hdirty, hcursor, hcatch, hprogress, hhold, hretained⟩ :=
    endServingStep_copy (o := .damaged) (a := some .damaged) (s := freeSlot p s) (by simp [hs])
  have hburst : (endServingStep .damaged (some .damaged) (freeSlot p s)).port.burst = none :=
    endServingStep_burst (by simpa using hb)
  have hserving := endServingStep_serving .damaged (some .damaged) (freeSlot p s)
  have hstand := endServingStep_standing (o := .damaged) (a := some .damaged) hs' rfl
  simp only [servingEnded, endServing]
  refine ⟨⟨by simpa using hburst, ?_, ?_, ?_, ?_, ?_, ?_, ?_⟩, ?_⟩
  case refine_8 => simpa only [standing, viewOf, reportServeEnd_frame] using hstand
  all_goals simpa only [reportServeEnd_frame]

theorem servingEnded_hasControl {p : PortId} {s : State} {joiner : Lane} {attempt : Nat}
    (hs : s.copy.serving = some (joiner, attempt)) (hb : s.port.burst = none) (hj : s.copy.job = none)
    (hp : portTo s joiner = some p) (ha : LinkPort.active (getPort s p) = true) (hr : (getPort s p).control.length < 8)
    (ht : (getPort s p).transmitter ≠ .resting) : HasControl p (.abandon attempt .damaged) (servingEnded p s) := by
  refine (endServingStep_hasControl (joiner := joiner) (s := freeSlot p s) ?_ ?_ ?_ ?_ ?_ ?_ ?_).of_reportServeEnd _ _ _
  all_goals simpa

theorem standing_isolate_of_ne {c : Cause} {n : Option Nat} {s : State} {l : Lane} (hs : s.copy.serving = none)
    (hl : l ≠ ownLane s) : standing (isolate c n s) l = standing s l := by
  have hview : viewOf (isolate c n s) = PerLane.set (viewOf s) (ownLane s) .excluded := by
    obtain ⟨-, -, -, -, -, -, hview⟩ := isolate_of_idle (c := c) (n := n) hs
    rw [viewOf, hview]
    rfl
  rw [standing, hview]
  exact PerLane.get_set_of_ne _ _ hl

/-- A bad block of the restoration: serving ended, then the class action of the block (R148). -/
theorem endWork_damaged {s : State} {b : Burst} {p : PortId} {n : Nat} (he : b.atEnd = .damaged p n true) :
    endWork b.atEnd (released b s) = copyClassAction n (servingEnded p (released b s)) := by
  rw [he]
  rfl

theorem copyClassAction_servingOver {s : State} {n : Nat} {loc : Located} {joiner : Lane} (hl : locate s n = some loc)
    (hr : running s = true) (h : ServingOver s) : ServingOver (copyClassAction n s) ∧
      (joiner ≠ ownLane s → standing (copyClassAction n s) joiner = standing s joiner) ∧
      (∀ p f, HasControl p f s → HasControl p f (copyClassAction n s)) := by
  by_cases hc : loc.policy.cls = .voted ∨ (loc.policy.cls = .plain ∧ loc.policy.isolates = true)
  · rw [copyClassAction_of_isolating hl hc hr]
    exact ⟨h.of_isolate, fun hj => standing_isolate_of_ne h.serving hj, fun _ _ hf => hf.of_isolate h.serving⟩
  · have hstay : loc.policy.cls = .constant ∨ loc.policy.cls = .log ∨
        (loc.policy.cls = .plain ∧ loc.policy.isolates = false) := by
      cases hcls : loc.policy.cls <;> simp_all
    rw [copyClassAction_of_staying hl hstay]
    exact ⟨h.of_classRepair loc n, fun _ => by simp [standing, viewOf], fun _ _ hf => hf.of_classRepair loc n⟩

theorem copyClassAction_outcome {s : State} {n : Nat} {loc : Located} (hl : locate s n = some loc)
    (hm : s.lane.state = .member) :
    (loc.policy.cls = .voted ∨ (loc.policy.cls = .plain ∧ loc.policy.isolates = true) →
      (copyClassAction n s).lane.state = .isolated ∧ (copyClassAction n s).lane.retainedCause = some .memory ∧
        (copyClassAction n s).lines.hold = true ∧ (copyClassAction n s).copy.repairs = []) ∧
    (loc.policy.cls = .constant → (copyClassAction n s).lane.state = .member ∧ (copyClassAction n s).copy.repairs =
      if n ∉ s.copy.repairs ∧ s.copy.repairs.length < 4 then s.copy.repairs ++ [n] else s.copy.repairs) ∧
    (loc.policy.cls = .log ∨ (loc.policy.cls = .plain ∧ loc.policy.isolates = false) →
      (copyClassAction n s).lane.state = .member ∧ (copyClassAction n s).copy.repairs = s.copy.repairs) := by
  have hr : running s = true := by simp [running, hm]
  refine ⟨fun hc => ?_, fun hc => ?_, fun hc => ?_⟩
  · rw [copyClassAction_of_isolating hl hc hr]
    obtain ⟨hcause, -, -, hrepairs⟩ := isolate_ends .memory (some loc.index) s
    obtain ⟨hstate, hhold⟩ := isolate_state .memory (some loc.index) s
    exact ⟨hstate, hcause, hhold, hrepairs⟩
  · rw [copyClassAction_of_staying hl (.inl hc), classRepair_copy, repairsAfter_of_constant hc hr]
    exact ⟨by simpa using hm, rfl⟩
  · have hother : loc.policy.cls ≠ .constant := by
      obtain h | ⟨h, -⟩ := hc <;> simp [h]
    rw [copyClassAction_of_staying hl (.inr hc), classRepair_of_other hother]
    exact ⟨hm, rfl⟩

/-- Settles O26: the six ends of a burst, each in the state in which the port is free and the answer given. -/
theorem burstEndAnswersThenLeaves : Obligations.BurstEndAnswersThenLeaves := by
  intro s b hb ho
  have hexec := exec_burstEnd hb ho
  obtain ⟨hfree, hwaiting⟩ := released_burst b s
  have hanswer (a : Answer) (ha : b.answer = some a) : (released b s).lines.answer = some a := by simp [released_lines, ha]
  refine ⟨fun he hn => ?nothing, fun cause names he hr hh => ?leaves, fun cause he hj hn => ?fails,
    fun p f he hn ha h1 hroom ht => ?fills, fun p n joiner attempt loc he hs hm hj hl => ?damaged,
    fun p n loc he hl hc hr hn ha hroom ht => ?refuses⟩
  case nothing =>
    rw [burstEnd_nothing he hn] at hexec
    exact ⟨_, hexec, placed_released rfl⟩
  case leaves =>
    rw [burstEnd_leaves he hr] at hexec
    have hheld : (released b s).lines.hold = false := by simpa using hh
    obtain ⟨hlines, hthrough⟩ := isolate_of_free (c := cause) (n := names) hfree hheld
    obtain ⟨hcause, htable, hserving, hrepairs⟩ := isolate_ends cause names (released b s)
    refine ⟨_, hexec, by rw [(placeLog_port _).1, isolate_burst hfree], by simp, by simp [hcause], by simp, by simp [htable],
      by simp [hserving], by simp [hrepairs], fun a ha => ?_, ?_, by simp, by simp, by simp, by simp, by simp⟩
    · simp [hlines, hanswer a ha]
    · have hplaced : (placeLog (isolate cause names (released b s))).through =
          (isolate cause names (released b s)).through := by simp
      rw [hplaced, hthrough, hwaiting, released_through]
      cases b.answer.isSome <;> cases s.port.procWaiting <;> rfl
  case fails =>
    rw [burstEnd_fails he hn] at hexec
    have hjoining : (released b s).lane.state = .joining := by simpa using hj
    obtain ⟨hphase, hreceived, hprogress⟩ := endAttempt_copy cause false (released b s)
    have hcopy := failAttempt_copy (c := cause) (b := false) (d := none) hjoining
    refine ⟨_, hexec, by rw [(placeLog_port _).1, failAttempt_burst hfree], by simp [failAttempt_state, hj],
      by simp [(failAttempt_lane hjoining).2], by simp [hcopy, hphase], by simp [hcopy, hreceived],
      by simp [hcopy, hprogress], by simp, fun a ha => by simp [hanswer a ha], by simp, by simp, by simp, by simp, by simp⟩
  case fills =>
    rw [burstEnd_fills he hn] at hexec
    refine ⟨_, hexec, ?_, by simp, by simp, by simp, by simp⟩
    rw [placeLog_links, getPort_fillSlot (by simpa using ha) (by simpa using h1) (by simpa using hroom) (by simpa using ht),
      getPort_released]
  case damaged =>
    rw [endWork_damaged he] at hexec
    obtain ⟨hover, hexcluded⟩ := servingEnded_over (p := p) (s := released b s) (joiner := joiner) (attempt := attempt)
      (by simpa using hs) hfree
    have hmember : (servingEnded p (released b s)).lane.state = .member := by simpa [servingEnded] using hm
    have hlocate : locate (servingEnded p (released b s)) n = some loc :=
      (locate_congr (by simp [servingEnded]) n).trans hl
    have hrepairs : (servingEnded p (released b s)).copy.repairs = s.copy.repairs := by simp [servingEnded]
    have hown : ownLane (servingEnded p (released b s)) = ownLane s := ownLane_congr (by simp [servingEnded])
    obtain ⟨hkept, hstanding, hcontrol⟩ := copyClassAction_servingOver (joiner := joiner) hlocate
      (by simp [running, hmember]) hover
    obtain ⟨hisolates, hconstant, hstays⟩ := copyClassAction_outcome hlocate hmember
    rw [hrepairs] at hconstant hstays
    refine ⟨_, _, hexec, rfl, hkept.burst, hkept.serving, hkept.dirty, hkept.cursor, hkept.catchUp, hkept.progress,
      hkept.hold, hkept.retained, fun hne => ?_, fun hp ha hroom ht => ?_, hisolates, hconstant, hstays,
      by simp [servingEnded], by simp [servingEnded], by simp [servingEnded], by simp [servingEnded]⟩
    · rw [hstanding (by rwa [hown]), hexcluded]
    · exact (hcontrol p _ (servingEnded_hasControl (by simpa using hs) hfree (by simpa using hj) (by simpa using hp)
        (by simpa using ha) (by simpa using hroom) (by simpa using ht))).1
  case refuses =>
    rw [burstEnd_refuses he hl hc hn] at hexec
    have hport := getPort_freeSlot p (released b s)
    rw [getPort_released] at hport
    rw [offerControl_of_room (by rw [hport]; exact ha) (by rw [hport]; exact hroom) (by rw [hport]; exact ht), hport] at hexec
    refine ⟨_, hexec, by simp [(placeLog_port _).1], ?_, ?_, by simp, by simp, by simp, by simp⟩
    · rw [placeLog_links, getPort_classRepair, getPort_setPort_self]
    · simp only [placeLog_frame, classRepair_copy]
      rw [repairsAfter_of_constant hc ((running_congr (by simp)).trans hr)]
      simp

end Sys2Proof.Machine
end

section
/-! The own mark (R13, R65, R99, R100, R104, R105, R114, R145). -/

namespace Sys2Proof.Machine

/-! The vote table (R101, R104). -/

theorem exists_mem_updateEntry {c : Word} {f : VoteEntry → VoteEntry} (hf : ∀ e, (f e).cycle = e.cycle)
    (table : List VoteEntry) : ∃ e ∈ updateEntry c f table, e.cycle = c := by
  unfold updateEntry
  split
  case isTrue h =>
    obtain ⟨x, hx, hc⟩ := List.any_eq_true.1 h
    have hc : x.cycle = c := by simpa using hc
    exact ⟨f x, List.mem_map.2 ⟨x, hx, if_pos hc⟩, (hf x).trans hc⟩
  case isFalse => exact ⟨f (earlyEntry c), by simp, hf _⟩

/-- An entry of the cycle after the update is an updated one: an old entry's, or a new early entry's. -/
theorem of_mem_updateEntry {c : Word} {f : VoteEntry → VoteEntry} {table : List VoteEntry} {e : VoteEntry}
    (he : e ∈ updateEntry c f table) (hc : e.cycle = c) :
    ∃ x, e = f x ∧ x.cycle = c ∧ (x ∈ table ∨ x = earlyEntry c ∧ ∀ y ∈ table, y.cycle ≠ c) := by
  unfold updateEntry at he
  split at he
  case isTrue =>
    obtain ⟨x, hx, rfl⟩ := List.mem_map.1 he
    by_cases hxc : x.cycle = c
    · exact ⟨x, if_pos hxc, hxc, .inl hx⟩
    · exact absurd (by simp [hxc] at hc) hxc
  case isFalse hnone =>
    have hother (y : VoteEntry) (hy : y ∈ table) : y.cycle ≠ c := fun hyc =>
      hnone (List.any_eq_true.2 ⟨y, hy, by simpa using hyc⟩)
    obtain he | he := List.mem_append.1 he
    · exact absurd hc (hother e he)
    · exact ⟨earlyEntry c, by simpa using he, rfl, .inr ⟨rfl, hother⟩⟩

/-- The entries of other cycles are kept. -/
theorem mem_updateEntry_of_ne {c : Word} {f : VoteEntry → VoteEntry} (hf : ∀ e, (f e).cycle = e.cycle)
    {table : List VoteEntry} {e : VoteEntry} (hc : e.cycle ≠ c) : e ∈ updateEntry c f table ↔ e ∈ table := by
  have hnew (x : VoteEntry) (hx : x.cycle = c) : e ≠ f x := by
    rintro rfl
    exact hc ((hf x).trans hx)
  unfold updateEntry
  split
  case isTrue =>
    rw [List.mem_map]
    constructor
    · rintro ⟨x, hx, rfl⟩
      by_cases hxc : x.cycle = c
      · simp [hxc, hf] at hc
      · simpa [hxc] using hx
    · exact fun he => ⟨e, he, if_neg hc⟩
  case isFalse => simp [hnew (earlyEntry c) rfl]

/-! Presence and completeness (R105). -/

theorem mem_votersOf {e : VoteEntry} {v : PerLane Bool} (hv : e.voters = some v) (l : Lane) :
    l ∈ votersOf e ↔ PerLane.get v l = true := by
  have hall : l ∈ allLanes := by cases l <;> decide
  simp [votersOf, hv, hall]

theorem isComplete_iff {e : VoteEntry} {v : PerLane Bool} (hv : e.voters = some v) (own : Lane) :
    isComplete own e = true ↔ ∀ l, PerLane.get v l = true → isPresent own e l = true := by
  simp [isComplete, lateVoters, hv, List.filter_eq_nil_iff, mem_votersOf hv]

/-- The entry as the own mark leaves it: own pairs, voter set, and whether the mark was taken in FORMING (R104). -/
def marked (s : State) (e : VoteEntry) : VoteEntry :=
  { e with own := some s.sig.live, voters := some (votersAtMark s), forming := decide (s.lane.state = .forming) }

@[simp] theorem marked_cycle (s : State) (e : VoteEntry) : (marked s e).cycle = e.cycle := rfl

theorem isPresent_marked (s : State) (e : VoteEntry) (l : Lane) :
    isPresent (ownLane s) (marked s e) l = (decide (l = ownLane s) || (PerLane.get e.peers l).isSome) := by
  by_cases h : l = ownLane s <;> simp [isPresent, marked, h]

/-- A marked entry is complete once the frame of every other voter is there (R105). -/
theorem isComplete_marked (s : State) (e : VoteEntry) : isComplete (ownLane s) (marked s e) = true ↔
    ∀ l, l ≠ ownLane s → PerLane.get (votersAtMark s) l = true → (PerLane.get e.peers l).isSome = true := by
  rw [isComplete_iff (v := votersAtMark s) rfl]
  simp only [isPresent_marked, Bool.or_eq_true, decide_eq_true_eq]
  exact forall_congr' fun l => by by_cases h : l = ownLane s <;> simp [h]

/-! What a vote leaves of the table (R105). -/

theorem excludePeer_cycles {l : Lane} {s : State} {e : VoteEntry} (he : e ∈ (excludePeer l s).vote.table) :
    ∃ x ∈ s.vote.table, x.cycle = e.cycle := by
  unfold excludePeer at he
  split at he
  · obtain ⟨x, hx, rfl⟩ : ∃ x ∈ s.vote.table, withoutVoter l x = e := by simpa using he
    exact ⟨x, hx, rfl⟩
  · exact ⟨e, by simpa using he, rfl⟩

theorem excludeAll_cycles {xs : List (Lane × Cause)} {s : State} {e : VoteEntry}
    (he : e ∈ (excludeAll xs s).vote.table) : ∃ x ∈ s.vote.table, x.cycle = e.cycle := by
  induction xs generalizing s with
  | nil => exact ⟨e, he, rfl⟩
  | cons y ys ih =>
    obtain ⟨x, hx, hxe⟩ := ih he
    obtain ⟨z, hz, hzx⟩ := excludePeer_cycles hx
    exact ⟨z, hz, hzx.trans hxe⟩

theorem isolate_window (c : Cause) (n : Option Nat) (s : State) : (isolate c n s).vote.window = none := by
  simp only [isolate]
  split <;> simp [emptyVote]

/-- What a vote hands on opens no entry and starts no window. -/
def OpensNoEntry (s t : State) : Prop :=
  (s.vote.window = none → t.vote.window = none) ∧ ∀ e ∈ t.vote.table, e ∈ s.vote.table

theorem leave_opensNoEntry (c : Cause) (n : Option Nat) (s : State) : OpensNoEntry s (leave c n s) := by
  unfold leave
  split
  · exact ⟨fun _ => isolate_window c n s, by simp [(isolate_ends c n s).2.1]⟩
  · exact ⟨id, fun _ => id⟩

theorem handOnVote_opensNoEntry (own : Lane) (g : Option Word) (e : VoteEntry) (rs : List SlotResult) (s : State) :
    OpensNoEntry s (handOnVote own g e rs s) := by
  unfold handOnVote
  split
  · exact leave_opensNoEntry ..
  · split
    · exact leave_opensNoEntry ..
    · split
      · exact ⟨fun h => by simpa using h, fun x hx => by simpa using hx⟩
      · split
        · exact leave_opensNoEntry ..
        · exact ⟨id, fun _ => id⟩

/-- The entry closed: its timer stopped, itself removed, and what the vote counts (R105, R108, R109). -/
def closeEntry (e : VoteEntry) (s : State) : State :=
  { s with vote := { s.vote with
      window := none
      table := s.vote.table.filter (fun x => decide (x.cycle ≠ e.cycle))
      lateCount := lateCountsAfter (ownLane s) e s.vote.lateCount
      lastLate := lastLateAfter (ownLane s) e s.vote.lastLate
      grace := graceAfter s.vote.grace e.cycle } }

/-- The peers that the vote of an entry excludes (R107, R108). -/
def outOf (e : VoteEntry) (s : State) : List (Lane × Cause) :=
  votedOut (ownLane s) e (slotResults (ownLane s) e) (settings s).lateThreshold
    (lateCountsAfter (ownLane s) e s.vote.lateCount)

/-- A vote: the entry closed, the exclusions and their reports made, and the consequence handed on (R105 to R109). -/
theorem castVote_eq (e : VoteEntry) (s : State) : ∃ u,
    castVote e s = handOnVote (ownLane s) s.vote.grace e (slotResults (ownLane s) e) u ∧
      u.vote = (excludeAll (outOf e s) (closeEntry e s)).vote := by
  have hexcluded (b : State) (xs : List (Lane × Cause)) (v : State) : (reportAllExcluded b xs v).vote = v.vote := by simp
  have hreport (rs : List SlotResult) (v : State) : (reportVote (ownLane s) e rs v).vote = v.vote := by simp [reportVote]
  refine ⟨_, rfl, ?_⟩
  rw [hexcluded]
  split
  · rfl
  · exact hreport ..

/-- A vote stops the window and removes its entry (R105). -/
theorem castVote_removes (e : VoteEntry) (s : State) :
    (castVote e s).vote.window = none ∧ ∀ x ∈ (castVote e s).vote.table, x.cycle ≠ e.cycle := by
  obtain ⟨u, hcast, hvote⟩ := castVote_eq e s
  obtain ⟨hwindow, htable⟩ := handOnVote_opensNoEntry (ownLane s) s.vote.grace e (slotResults (ownLane s) e) u
  rw [hcast]
  refine ⟨hwindow (by simp [hvote, closeEntry]), fun x hx => ?_⟩
  have hmem := htable x hx
  rw [hvote] at hmem
  obtain ⟨y, hy, hyx⟩ := excludeAll_cycles hmem
  rw [← hyx]
  simpa using (List.mem_filter.1 hy).2

/-! The vote of a lane that is the only voter (R105, R107, R114). -/

section
variable {e : VoteEntry} {s : State} (hv : votersOf e = [ownLane s]) (hp : e.own.isSome = true)
include hv hp

theorem presentVoters_of_sole : presentVoters (ownLane s) e = [ownLane s] := by simp [presentVoters, hv, isPresent, hp]

theorem lateVoters_of_sole : lateVoters (ownLane s) e = [] := by simp [lateVoters, hv, isPresent, hp]

/-- Every slot is unchecked. -/
theorem slotResults_of_sole : ∀ r ∈ slotResults (ownLane s) e, r = .unchecked := by
  intro r hr
  obtain ⟨j, -, rfl⟩ := List.mem_map.1 hr
  rw [presentVoters_of_sole hv hp]
  rfl

theorem lacksMajority_of_sole : lacksMajority (slotResults (ownLane s) e) = false := by
  have hall := slotResults_of_sole hv hp
  simp only [lacksMajority, List.any_eq_false]
  exact fun r hr => by simp [hall r hr]

theorem minorityLanes_of_sole : minorityLanes (slotResults (ownLane s) e) = [] := by
  have hall := slotResults_of_sole hv hp
  simp only [minorityLanes, List.filter_eq_nil_iff, List.any_eq_true, decide_eq_true_eq, not_exists, not_and]
  exact fun l _ r hr => by simp [hall r hr]

theorem lateCountsAfter_of_sole (counts : PerLane Nat) : lateCountsAfter (ownLane s) e counts = counts := by
  simp [lateCountsAfter, lateVoters_of_sole hv hp, presentVoters_of_sole hv hp]

theorem outOf_sole : outOf e s = [] := by
  have hnone (n : Nat) (counts : PerLane Nat) (l : Lane) :
      exclusionReason (ownLane s) e (slotResults (ownLane s) e) n counts l = none := by
    by_cases hl : l = ownLane s
    · simp [exclusionReason, hl]
    · simp [exclusionReason, hl, presentVoters_of_sole hv hp, lateVoters_of_sole hv hp]
  simp [outOf, votedOut, hnone]

theorem notSeen_of_sole (g : Option Word) : notSeen (ownLane s) g e = false := by
  simp only [notSeen, presentVoters_of_sole hv hp, List.any_cons, List.any_nil]
  split <;> simp

/-- The vote of the only voter ends a formation, or does nothing but close its entry. -/
theorem castVote_of_sole : castVote e s =
    if e.forming then endFormation (ownLane s) e (slotResults (ownLane s) e) (closeEntry e s) else closeEntry e s := by
  have hcast : castVote e s =
      handOnVote (ownLane s) s.vote.grace e (slotResults (ownLane s) e) (closeEntry e s) := by
    have hout : votedOut (ownLane s) e (slotResults (ownLane s) e) (settings s).lateThreshold
      (lateCountsAfter (ownLane s) e s.vote.lateCount) = [] := outOf_sole hv hp
    simp [castVote, hout, excludeAll, reportAllExcluded, lacksMajority_of_sole hv hp, minorityLanes_of_sole hv hp,
      lateVoters_of_sole hv hp, closeEntry]
  simp [hcast, handOnVote, lacksMajority_of_sole hv hp, minorityLanes_of_sole hv hp, notSeen_of_sole hv hp]

theorem partnersOf_sole (rs : List SlotResult) : partnersOf (ownLane s) e rs = [] := by
  simp [partnersOf, presentVoters_of_sole hv hp]

end

/-! The mark (R100). -/

/-- The lane after step 4 of R100: the snapshot taken, the entry marked, the frame offered. -/
def signed (u : State) : State := sendSignature (markEntry u)

theorem completeMark_eq (u : State) : completeMark u = markCopyEngine (restartSupervision (voteOrWait (signed u))) := rfl

@[simp] theorem signed_frame (u : State) :
    (signed u).lines = u.lines ∧ (signed u).loader = u.loader ∧ (signed u).through = u.through ∧
    (signed u).checker = u.checker ∧ (signed u).sram = u.sram ∧ (signed u).patrol = u.patrol ∧
    (signed u).lane = u.lane ∧ (signed u).copy = u.copy ∧ (signed u).clear = u.clear ∧
    (signed u).pending = u.pending ∧ (signed u).map.image = u.map.image := by
  simp [signed]

theorem signed_vote (u : State) : (signed u).vote = { u.vote with table := markedTable u } := by
  simp [signed, markEntry]

theorem signed_sig (u : State) : (signed u).sig = { u.sig with snapCycle := u.vote.counter, snap := u.sig.live } := by
  simp [signed, markEntry]

theorem signed_map (u : State) :
    (signed u).map = { u.map with lock := u.map.lock || decide (u.lane.state = .forming) } := by
  simp [signed, markEntry]

theorem ownLane_signed (u : State) : ownLane (signed u) = ownLane u := ownLane_congr (by simp)

/-- SIGNATURE in the control queue of a port that is sending (R93, R100). -/
theorem getPort_signed {u : State} {p : PortId} (ha : LinkPort.active (getPort u p) = true)
    (hr : (getPort u p).control.length < 8) (ht : (getPort u p).transmitter ≠ .resting) :
    getPort (signed u) p = { getPort u p with control := (getPort u p).control ++
      [.signature u.vote.counter u.lane.state (viewOf u) u.sig.live] } := by
  have hmarked (q : PortId) : getPort (markEntry u) q = getPort u q := by cases q <;> rfl
  have hsigned : signed u =
      offerBoth (.signature u.vote.counter u.lane.state (viewOf u) u.sig.live) (markEntry u) := rfl
  have hoffer (f : Frame) (v : State) (hv : getPort v p = getPort u p) : getPort (offerControl p f v) p =
      { getPort u p with control := (getPort u p).control ++ [f] } := by
    rw [offerControl_of_room (by rwa [hv]) (by rwa [hv]) (by rwa [hv]), getPort_setPort_self, hv]
  rw [hsigned, offerBoth]
  cases p with
  | link1 => rw [getPort_offerControl_of_ne _ _ (by decide), hoffer _ _ (hmarked _)]
  | link2 => exact hoffer _ _ ((getPort_offerControl_of_ne _ _ (by decide)).trans (hmarked _))

/-- The entry of the mark: an old one, or a new one, marked (R104). -/
theorem ownEntry_signed (u : State) : ∃ x, ownEntry (signed u) = some (marked u x) ∧ x.cycle = u.vote.counter ∧
    (x ∈ u.vote.table ∨ x = earlyEntry u.vote.counter ∧ ∀ y ∈ u.vote.table, y.cycle ≠ u.vote.counter) := by
  have hfind : ownEntry (signed u) = (markedTable u).find? (fun e => decide (e.cycle = u.vote.counter)) := by
    simp only [ownEntry, signed_vote]
  obtain ⟨e, he, hc⟩ := exists_mem_updateEntry (c := u.vote.counter) (marked_cycle u) u.vote.table
  obtain ⟨y, hy⟩ := Option.isSome_iff_exists.1
    (List.find?_isSome (p := fun e => decide (e.cycle = u.vote.counter)).2 ⟨e, he, by simpa using hc⟩)
  obtain ⟨x, rfl, hx, hmem⟩ := of_mem_updateEntry (List.mem_of_find?_eq_some hy) (by simpa using List.find?_some hy)
  exact ⟨x, hfind.trans hy, hx, hmem⟩

/-- The entry is voted in the step if it is complete (R105). -/
theorem voteOrWait_of_complete {u : State} {x : VoteEntry} (he : ownEntry (signed u) = some (marked u x))
    (hc : isComplete (ownLane u) (marked u x) = true) : voteOrWait (signed u) = castVote (marked u x) (signed u) := by
  simp only [voteOrWait, he, ownLane_signed, hc, if_true]

/-- The entry with its window running. -/
def waiting (e : VoteEntry) : VoteEntry := { e with window := true }

@[simp] theorem waiting_cycle (e : VoteEntry) : (waiting e).cycle = e.cycle := rfl

theorem voteOrWait_of_incomplete {u : State} {x : VoteEntry} (he : ownEntry (signed u) = some (marked u x))
    (hc : isComplete (ownLane u) (marked u x) = false) : voteOrWait (signed u) =
      { signed u with vote := { u.vote with
          window := some ((settings u).voteWindow * 1000)
          table := updateEntry u.vote.counter waiting (markedTable u) } } := by
  have hset : settings (signed u) = settings u := settings_congr (by simp)
  simp only [voteOrWait, he, ownLane_signed, hc, signed_vote, hset]
  rfl

theorem restartSupervision_of_running {s : State} (h : running s = true) : restartSupervision s =
    { s with vote := { s.vote with supervision := some ((settings s).cycleLimit * 1000) } } := by
  rw [restartSupervision, if_pos h]
  rfl

/-- The mark handed to the copy engine (R145). -/
theorem markCopyEngine_copy (s : State) : (markCopyEngine s).copy =
    if s.copy.serving.isSome = true ∧ s.copy.cursor = some .complete ∧ s.copy.catchUp = .none ∧
        s.copy.dirty.length ≤ (settings s).catchUpThreshold then
      { s.copy with catchUp := .hold, holdTimer := some ((settings s).holdLimit * 1000),
                    kept := some { cycle := s.sig.snapCycle, view := viewOf s, pairs := s.sig.snap } }
    else s.copy := by
  have hbegins : holdBegins s = true ↔ s.copy.serving.isSome = true ∧ s.copy.cursor = some .complete ∧
      s.copy.catchUp = .none ∧ s.copy.dirty.length ≤ (settings s).catchUpThreshold := by
    simp [holdBegins, and_assoc]
  unfold markCopyEngine
  by_cases h : holdBegins s = true
  · rw [if_pos h, if_pos (hbegins.1 h)]
    rfl
  · rw [if_neg h, if_neg (fun g => h (hbegins.2 g))]

theorem completeMark_congr {u v : State} (h : voteOrWait (signed u) = v) :
    completeMark u = markCopyEngine (restartSupervision v) := by rw [completeMark_eq, h]

theorem completeMark_sig_map (u : State) :
    (completeMark u).sig = { u.sig with snapCycle := u.vote.counter, snap := u.sig.live } ∧
      (completeMark u).map = { u.map with lock := u.map.lock || decide (u.lane.state = .forming) } := by
  rw [completeMark_eq]
  simp [signed_sig, signed_map]

/-! A mark whose entry waits (R100 step 5, R104). -/

/-- The vote table of a mark whose entry waits. -/
def waitingTable (u : State) : List VoteEntry := updateEntry u.vote.counter waiting (markedTable u)

theorem of_mem_waitingTable {u : State} {e : VoteEntry} (he : e ∈ waitingTable u) (hc : e.cycle = u.vote.counter) :
    ∃ x, e = waiting (marked u x) := by
  obtain ⟨m, hm, hmc⟩ := exists_mem_updateEntry (c := u.vote.counter) (marked_cycle u) u.vote.table
  obtain ⟨y, rfl, hy, hmem | ⟨-, hnone⟩⟩ := of_mem_updateEntry he hc
  · obtain ⟨x, rfl, -⟩ := of_mem_updateEntry hmem hy
    exact ⟨x, rfl⟩
  · exact absurd hmc (hnone m hm)

theorem exists_mem_waitingTable (u : State) : ∃ e ∈ waitingTable u, e.cycle = u.vote.counter :=
  exists_mem_updateEntry waiting_cycle _

theorem mem_waitingTable_of_ne {u : State} {e : VoteEntry} (hc : e.cycle ≠ u.vote.counter) :
    e ∈ waitingTable u ↔ e ∈ u.vote.table :=
  (mem_updateEntry_of_ne waiting_cycle hc).trans (mem_updateEntry_of_ne (marked_cycle u) hc)

/-- The mark of a lane that still misses a voter's frame: what it changes (R100, R145). -/
theorem completeMark_of_missing {u : State} {l : Lane} (hr : running u = true) (hl : l ≠ ownLane u)
    (hv : PerLane.get (votersAtMark u) l = true)
    (hmissing : ∀ e ∈ u.vote.table, e.cycle = u.vote.counter → PerLane.get e.peers l = none) :
    completeMark u = markCopyEngine { signed u with vote := { u.vote with
      window := some ((settings u).voteWindow * 1000), table := waitingTable u,
      supervision := some ((settings u).cycleLimit * 1000) } } := by
  obtain ⟨x, hentry, hx, hmem⟩ := ownEntry_signed u
  have hincomplete : isComplete (ownLane u) (marked u x) = false := by
    refine Bool.eq_false_iff.2 fun hcomplete => ?_
    have hpresent := (isComplete_marked u x).1 hcomplete l hl hv
    have hnone : PerLane.get x.peers l = none := by
      obtain h | ⟨rfl, -⟩ := hmem
      · exact hmissing x h hx
      · cases l <;> rfl
    simp [hnone] at hpresent
  rw [completeMark_congr (voteOrWait_of_incomplete hentry hincomplete),
    restartSupervision_of_running ((running_congr (by simp)).trans hr)]
  simp only [settings_congr (s := u) (t := { signed u with vote := _ }) (by simp)]
  rfl

/-! A mark whose entry is complete (R105). -/

theorem completeMark_of_present {u : State}
    (h : ∀ l, l ≠ ownLane u → PerLane.get (votersAtMark u) l = true →
      (∃ e ∈ u.vote.table, e.cycle = u.vote.counter) ∧
        ∀ e ∈ u.vote.table, e.cycle = u.vote.counter → (PerLane.get e.peers l).isSome = true) :
    ∃ x, x.cycle = u.vote.counter ∧
      completeMark u = markCopyEngine (restartSupervision (castVote (marked u x) (signed u))) := by
  obtain ⟨x, hentry, hx, hmem⟩ := ownEntry_signed u
  have hcomplete : isComplete (ownLane u) (marked u x) = true := by
    refine (isComplete_marked u x).2 fun l hl hv => ?_
    obtain ⟨⟨e, he, hec⟩, hpresent⟩ := h l hl hv
    obtain hx' | ⟨-, hnone⟩ := hmem
    · exact hpresent x hx' hx
    · exact absurd hec (hnone e he)
  exact ⟨x, hx, completeMark_congr (voteOrWait_of_complete hentry hcomplete)⟩

theorem votersAtMark_self (u : State) : PerLane.get (votersAtMark u) (ownLane u) = true := by
  cases h : ownLane u <;> simp [votersAtMark, PerLane.get, h]

theorem votersOf_marked_sole {u : State} {x : VoteEntry}
    (h : ∀ l, l ≠ ownLane u → PerLane.get (votersAtMark u) l = false) : votersOf (marked u x) = [ownLane u] := by
  have hself := votersAtMark_self u
  have hget (l : Lane) : PerLane.get (votersAtMark u) l = decide (l = ownLane u) := by
    by_cases hl : l = ownLane u
    · rw [hl, hself]; simp
    · rw [h l hl]; simp [hl]
  simp only [votersOf, marked, hget]
  cases ownLane u <;> rfl

/-- What the only voter's mark comes to: a formation ended in FORMING, else nothing but the entry closed (R114). -/
theorem castVote_marked_sole {u : State} {x : VoteEntry}
    (h : ∀ l, l ≠ ownLane u → PerLane.get (votersAtMark u) l = false) : castVote (marked u x) (signed u) =
      if u.lane.state = .forming then offerState (enterMember (closeEntry (marked u x) (signed u)))
      else closeEntry (marked u x) (signed u) := by
  have hv : votersOf (marked u x) = [ownLane (signed u)] := by rw [ownLane_signed]; exact votersOf_marked_sole h
  have hstate : (closeEntry (marked u x) (signed u)).lane.state = u.lane.state := by simp [closeEntry]
  rw [castVote_of_sole hv rfl]
  by_cases hf : u.lane.state = .forming
  · have hforming : (marked u x).forming = true := by simp [marked, hf]
    rw [if_pos hforming, if_pos hf, endFormation, if_pos (hstate.trans hf), partnersOf_sole hv rfl]
    rfl
  · have hforming : ¬ (marked u x).forming = true := by simp [marked, hf]
    rw [if_neg hforming, if_neg hf]

theorem exec_ownMark {s : State} (hr : running s = true) (hf : foundCause s = none) :
    exec .ownMark s = .next (settle (takeMark s)) := by
  have hmarks : marksCycle s = true := by simp [marksCycle, hr, hf]
  simp only [exec, execOwnMark, hmarks]
  rfl

theorem exec_ownMark_ignored {s : State} (h : running s = false ∨ (foundCause s).isSome = true) :
    exec .ownMark s = .next s := by
  have hmarks : ¬ marksCycle s = true := by
    obtain h | h := h
    · simp [marksCycle, h]
    · simp [marksCycle, Option.isNone_iff_eq_none, Option.isSome_iff_ne_none.1 h]
  simp only [exec, execOwnMark, if_neg hmarks]

theorem closeEarlier_of_none {s : State} (h : windowEntry s = none) : closeEarlier s = s := by simp [closeEarlier, h]

theorem closeEarlier_of_some {s : State} {e : VoteEntry} (h : windowEntry s = some e) : closeEarlier s = castVote e s := by
  simp [closeEarlier, h]

/-- What the mark of a lane that is its only voter leaves (R114). -/
theorem soleMark_outcome {u : State} (hr : running u = true)
    (h : ∀ l, l ≠ ownLane u → PerLane.get (votersAtMark u) l = false) :
    (completeMark u).lane.state = .member ∧ (completeMark u).vote.lateCount = u.vote.lateCount ∧
      (completeMark u).vote.supervision = some ((settings u).cycleLimit * 1000) ∧
      (u.lane.state = .forming → (completeMark u).lines.hold = false ∧ (completeMark u).lane.attempts = 0 ∧
        standing (completeMark u) (ownLane u) = .member) ∧
      (u.lane.state = .member → (completeMark u).lines = u.lines ∧ (completeMark u).vote.view = u.vote.view) := by
  obtain ⟨x, -, hmark⟩ := completeMark_of_present (u := u) fun l hl hv => by simp [h l hl] at hv
  have hv : votersOf (marked u x) = [ownLane (signed u)] := by rw [ownLane_signed]; exact votersOf_marked_sole h
  have hlate : (closeEntry (marked u x) (signed u)).vote.lateCount = u.vote.lateCount :=
    (lateCountsAfter_of_sole hv rfl _).trans (by simp [signed_vote])
  rw [castVote_marked_sole h] at hmark
  by_cases hf : u.lane.state = .forming
  · rw [if_pos hf] at hmark
    generalize hc : closeEntry (marked u x) (signed u) = c at hmark hlate
    have himage : c.map.image = u.map.image := by simp [← hc, closeEntry]
    have hown : ownLane c = ownLane u := ownLane_congr (by simp [← hc, closeEntry])
    have hset : settings (offerState (enterMember c)) = settings u := settings_congr (by simp [himage])
    rw [restartSupervision_of_running (by simp [running]), hset] at hmark
    rw [hmark]
    refine ⟨by simp, by simp [enterMember_vote, hlate], by simp, fun _ => ⟨by simp, by simp, ?_⟩, fun hm => by simp [hf] at hm⟩
    simp only [standing, viewOf, markCopyEngine_frame, offerState_frame, enterMember_vote, hown]
    exact PerLane.get_set_self ..
  · rw [if_neg hf] at hmark
    generalize hc : closeEntry (marked u x) (signed u) = c at hmark hlate
    have hm : u.lane.state = .member := by
      cases hs : u.lane.state <;> simp_all [running]
    have hmember : c.lane.state = .member := by simpa [← hc, closeEntry] using hm
    have hset : settings c = settings u := settings_congr (by simp [← hc, closeEntry])
    rw [restartSupervision_of_running (by simp [running, hmember]), hset] at hmark
    rw [hmark]
    exact ⟨by simpa using hmember, by simpa using hlate, by simp, fun hf' => absurd hf' hf,
      fun _ => ⟨by simp [← hc, closeEntry], by simp [← hc, closeEntry, signed_vote]⟩⟩

/-- What the mark of a lane that misses a voter's frame leaves (R100, R145). -/
theorem missingMark_outcome {u t : State} (ht : t = markCopyEngine { signed u with vote := { u.vote with
      window := some ((settings u).voteWindow * 1000), table := waitingTable u,
      supervision := some ((settings u).cycleLimit * 1000) } }) :
    t = { u with sig := t.sig, map := t.map, vote := t.vote, copy := t.copy, link1 := t.link1, link2 := t.link2,
                 log := t.log, port := t.port } ∧
      t.vote = { u.vote with window := some ((settings u).voteWindow * 1000), table := waitingTable u,
                             supervision := some ((settings u).cycleLimit * 1000) } ∧
      (∀ p, getPort t p = getPort (signed u) p) ∧
      t.copy = (if u.copy.serving.isSome = true ∧ u.copy.cursor = some .complete ∧ u.copy.catchUp = .none ∧
          u.copy.dirty.length ≤ (settings u).catchUpThreshold then
        { u.copy with catchUp := .hold, holdTimer := some ((settings u).holdLimit * 1000),
                      kept := some { cycle := u.vote.counter, view := viewOf u, pairs := u.sig.live } }
        else u.copy) := by
  subst ht
  refine ⟨State.ext (by simp), by simp, fun p => by cases p <;> simp, ?_⟩
  have hset (v : VoteUnit) : settings { signed u with vote := v } = settings u := settings_congr (by simp)
  rw [markCopyEngine_copy, hset]
  simp [signed_sig, viewOf]

/-- Settles O31: the mark after an entry whose window ran, its entry waiting or voted, and the lane that is its only voter. -/
theorem ownMarkOpensItsEntry : Obligations.OwnMarkOpensItsEntry := by
  intro s
  refine ⟨fun h => exec_ownMark_ignored (.inl h), fun h => exec_ownMark_ignored (.inr h), fun b cause names hb he => ?found,
    fun hr hf => ⟨takeMark s, closeEarlier (raiseCounter s), exec_ownMark hr hf, ?_⟩⟩
  case found => exact exec_ownMark_ignored (.inr (by simp [foundCause, hb, he, causeAtEnd]))
  have hwindow : windowEntry (raiseCounter s) = windowEntry s := rfl
  have hcount : (closeEarlier (raiseCounter s)).vote.counter = s.vote.counter + 1 :=
    (closeEarlier_frame _).2.2.2.2.2.2.2.2.2.2.1
  have hset : settings (closeEarlier (raiseCounter s)) = settings s := settings_congr (by simp [raiseCounter])
  have hown : ownLane (closeEarlier (raiseCounter s)) = ownLane s := ownLane_congr (by simp [raiseCounter])
  have hearlier (h : windowEntry s = none) : closeEarlier (raiseCounter s) = raiseCounter s :=
    closeEarlier_of_none (hwindow.trans h)
  have hvoted (e : VoteEntry) (h : windowEntry s = some e) : closeEarlier (raiseCounter s) = castVote e (raiseCounter s) :=
    closeEarlier_of_some (hwindow.trans h)
  have htaken : takeMark s = if running (closeEarlier (raiseCounter s)) then completeMark (closeEarlier (raiseCounter s))
      else closeEarlier (raiseCounter s) := rfl
  generalize hu : closeEarlier (raiseCounter s) = u at *
  refine ⟨?_, hcount, hearlier, hvoted, fun hstop => by rw [htaken, hstop]; rfl, fun hgoes => ?_⟩
  · rw [htaken]
    split <;> simp [hcount]
  rw [if_pos hgoes] at htaken
  rw [htaken, ← hown, ← hset]
  obtain ⟨hsig, hmap⟩ := completeMark_sig_map u
  refine ⟨hsig, hmap, fun ⟨l, hl, hv, hmissing⟩ => ?missing, fun hpresent => ?present, fun hsole => ?sole⟩
  case missing =>
    obtain ⟨hall, hvote, hports, hcopy⟩ := missingMark_outcome (completeMark_of_missing hgoes hl hv hmissing)
    refine ⟨hall, by rw [hvote], by rw [hvote], by rw [hvote], fun e he hc => ?_, ?_, fun e hc => ?_, fun p ha hroom ht => ?_,
      hcopy⟩
    · rw [hvote] at he
      obtain ⟨x, rfl⟩ := of_mem_waitingTable he hc
      exact ⟨rfl, rfl, rfl, rfl⟩
    · rw [hvote]
      exact exists_mem_waitingTable u
    · rw [hvote]
      exact mem_waitingTable_of_ne hc
    · rw [hports, getPort_signed ha hroom ht]
  case present =>
    obtain ⟨x, hx, hmark⟩ := completeMark_of_present hpresent
    obtain ⟨hclosed, htable⟩ := castVote_removes (marked u x) (signed u)
    rw [hmark]
    refine ⟨by simpa using hclosed, fun e he => ?_⟩
    rw [← hx]
    exact htable e (by simpa using he)
  case sole => exact soleMark_outcome hgoes hsole

end Sys2Proof.Machine
end

section
/-! The repeat and substitution tables (R34 to R38): every step keeps their depths, their counts, and no address twice. -/

namespace Sys2Proof.Machine

/-! One update of the repeat table (R35 to R37). -/

theorem substOf_eq_none {s : State} {a : Nat} : substOf s a = none ↔ ∀ e ∈ s.checker.substs, e.address ≠ a := by
  simp [substOf]

theorem repeatAfter_address (table : List RepeatEntry) (a : Nat) : (repeatAfter table a).address = a := by
  unfold repeatAfter; split <;> rfl

/-- The entry an update leaves has a count of R34. -/
theorem repeatAfter_count {table : List RepeatEntry} (a : Nat) (h : ∀ e ∈ table, 1 ≤ e.count ∧ e.count ≤ 3) :
    1 ≤ (repeatAfter table a).count ∧ (repeatAfter table a).count ≤ 3 := by
  unfold repeatAfter
  split
  case h_1 e he =>
    have := h e (List.mem_of_find?_eq_some he)
    simp only
    split <;> omega
  case h_2 => simp

theorem repeatOthers_sublist (table : List RepeatEntry) (a : Nat) : (repeatOthers table a).Sublist table := by
  unfold repeatOthers
  split
  · exact List.tail_sublist table
  · exact List.filter_sublist

theorem repeatOthers_address {table : List RepeatEntry} {a : Nat} : ∀ e ∈ repeatOthers table a, e.address ≠ a := by
  intro e he
  unfold repeatOthers at he
  split at he
  case isTrue h =>
    simp only [Bool.and_eq_true, Option.isNone_iff_eq_none, List.find?_eq_none, decide_eq_true_eq] at h
    exact h.1 e (List.mem_of_mem_tail he)
  case isFalse => simpa using (List.mem_filter.1 he).2

/-- Beside the entry updated there is room for seven others (R34, R35). -/
theorem repeatOthers_length {table : List RepeatEntry} (a : Nat) (h : table.length ≤ 8) :
    (repeatOthers table a).length ≤ 7 := by
  unfold repeatOthers
  split
  case isTrue => simp; omega
  case isFalse hn =>
    cases hf : table.find? (fun e => decide (e.address = a)) with
    | some e =>
      have hlt := (List.length_filter_lt_length_iff_exists (l := table) (p := fun x => decide (x.address ≠ a))).2
        ⟨e, List.mem_of_find?_eq_some hf, by simpa using List.find?_some hf⟩
      omega
    | none =>
      have hlt : table.length < 8 := Nat.lt_of_not_le fun hge => hn (by simp [hf, Config.repeatDepth, hge])
      exact le_trans (List.length_filter_le ..) (by omega)

theorem TableLaw.congr {s t : State} (h : TableLaw s) (hc : t.checker = s.checker) : TableLaw t := by
  unfold TableLaw at *; rw [hc]; exact h

/-- The law asks of the spare store no more than the addresses. -/
theorem TableLaw.of_addresses {s t : State} (h : TableLaw s) (hr : t.checker.repeats = s.checker.repeats)
    (ha : t.checker.substs.map (·.address) = s.checker.substs.map (·.address)) : TableLaw t := by
  have hlen : t.checker.substs.length = s.checker.substs.length := by simpa using congrArg List.length ha
  unfold TableLaw at *
  rw [hr, ha, hlen]
  exact h

/-- An update for a word that is not substituted keeps the law of the tables. -/
theorem repeatUpdate_tableLaw {s : State} {a : Nat} (h : TableLaw s) (ha : substOf s a = none) (v : Word) (o : Origin) :
    TableLaw { s with checker := (repeatUpdate s.checker a v o).1 } := by
  obtain ⟨hrep, hsub, hcount, hnd⟩ := h
  have hothers := repeatOthers_sublist s.checker.repeats a
  have hlen := repeatOthers_length a hrep
  have hcounts : ∀ e ∈ repeatOthers s.checker.repeats a, 1 ≤ e.count ∧ e.count ≤ 3 := fun e he =>
    hcount e (hothers.subset he)
  have hfresh : a ∉ (repeatOthers s.checker.repeats a).map (·.address) ++ s.checker.substs.map (·.address) := by
    simp only [List.mem_append, List.mem_map, not_or, not_exists, not_and]
    exact ⟨repeatOthers_address, substOf_eq_none.1 ha⟩
  have hnd' := List.nodup_cons.2 ⟨hfresh, hnd.sublist ((hothers.map (·.address)).append_right _)⟩
  have hback : ∀ e : RepeatEntry, e.address = a → 1 ≤ e.count ∧ e.count ≤ 3 →
      TableLaw { s with checker := { s.checker with repeats := repeatOthers s.checker.repeats a ++ [e] } } := by
    rintro e rfl he
    refine ⟨by simp [Config.repeatDepth]; omega, hsub, fun x hx => ?_, ?_⟩
    · obtain hx | hx := List.mem_append.1 hx
      · exact hcounts x hx
      · rwa [List.mem_singleton.1 hx]
    · simpa using List.nodup_middle.2 hnd'
  have hentry := repeatAfter_count a hcount
  simp only [repeatUpdate]
  split
  · split
    case isTrue hroom =>
      refine ⟨le_trans hlen (by decide), by simpa using hroom, hcounts, ?_⟩
      rw [List.map_append, ← List.append_assoc]
      exact List.nodup_append_comm.1 hnd'
    case isFalse =>
      split
      · exact hback _ (repeatAfter_address ..) hentry
      · exact hback _ (repeatAfter_address ..) hentry
  · exact hback _ (repeatAfter_address ..) hentry

/-! Words read and written. -/

theorem writeWord_tableLaw {s : State} (h : TableLaw s) (a : Nat) (v : Word) : TableLaw (writeWord a v s) := by
  unfold writeWord
  split
  case h_1 =>
    refine h.of_addresses rfl ?_
    rw [List.map_map]
    refine List.map_congr_left fun e _ => ?_
    simp only [Function.comp]
    split <;> rfl
  case h_2 => exact h.congr rfl

theorem noteCorrected_tableLaw {s : State} {a : Nat} (h : TableLaw s) (ha : substOf s a = none) (c : Client)
    (loc : Located) (v : Word) (y : Byte) (n : Nat) : TableLaw (noteCorrected c loc a v y n s) :=
  (repeatUpdate_tableLaw h ha v .correction).congr (noteCorrected_checker ..)

theorem substOf_none_of_corrected {s : State} {a n : Nat} {v : Word} {y : Byte} (h : readWord s a = .corrected v y n) :
    substOf s a = none := substOf_none_of_not_clean fun w => by simp [h]

theorem scrubWord_tableLaw {s : State} (h : TableLaw s) (c : Client) (loc : Located) (a : Nat) :
    TableLaw (scrubWord c loc a s).2 := by
  unfold scrubWord
  split
  case h_1 => exact h
  case h_2 hr => exact writeWord_tableLaw (noteCorrected_tableLaw h (substOf_none_of_corrected hr) ..) ..
  case h_3 | h_4 => exact h.congr (by simp)

theorem scrubWords_tableLaw {s : State} (h : TableLaw s) (c : Client) (loc : Located) (as : List Nat) :
    TableLaw (scrubWords c loc as s).2 := by
  induction as generalizing s with
  | nil => exact h
  | cons a as ih => exact ih (scrubWord_tableLaw h c loc a)

theorem fillWords_tableLaw {s : State} (h : TableLaw s) (v : Word) (as : List Nat) : TableLaw (fillWords v as s) := by
  induction as generalizing s with
  | nil => exact h
  | cons a as ih => exact ih (writeWord_tableLaw h a v)

theorem writeWords_tableLaw {s : State} (h : TableLaw s) (a : Nat) (vs : List Word) : TableLaw (writeWords a vs s) := by
  induction vs generalizing a s with
  | nil => exact h
  | cons v vs ih => exact ih (writeWord_tableLaw h a v) (a + 1)

theorem storeWord_tableLaw {s : State} (h : TableLaw s) (c : Client) (loc : Located) (a : Nat) (v : Word) :
    TableLaw (storeWord c loc a v s).2 := by
  unfold storeWord
  split
  · exact writeWord_tableLaw h a v
  split
  case h_1 => exact (writeWord_tableLaw h a v).congr (by simp)
  case h_2 old y n hr =>
    exact (writeWord_tableLaw (noteCorrected_tableLaw h (substOf_none_of_corrected hr) c loc old y n) a v).congr (by simp)
  case h_3 y _ =>
    exact (writeWord_tableLaw (h.congr (t := noteUncorrectable c loc a y s) (by simp)) a v).congr (by simp)
  case h_4 y l _ =>
    exact (writeWord_tableLaw (h.congr (t := noteAddressFault c loc a y l s) (by simp)) a v).congr (by simp)

theorem storeWords_tableLaw {s : State} (h : TableLaw s) (loc : Located) (a : Nat) (vs : List Word) :
    TableLaw (storeWords loc a vs s).2 := by
  induction vs generalizing a s with
  | nil => exact h
  | cons v vs ih => exact ih (storeWord_tableLaw h (.background .recv) loc a v) (a + 1)

/-! A repair (R152): a bad word is not substituted, and the others of its block stay so while one is written. -/

/-- No word but the one at address `a` has become substituted. -/
def SparesOnly (a : Nat) (s t : State) : Prop := ∀ b, b ≠ a → substOf s b = none → substOf t b = none

theorem SparesOnly.trans {a : Nat} {s t u : State} (h : SparesOnly a s t) (g : SparesOnly a t u) : SparesOnly a s u :=
  fun b hb hn => g b hb (h b hb hn)

theorem SparesOnly.of_frame {a : Nat} {s t : State} (h : t.checker = s.checker) : SparesOnly a s t := fun b _ hn => by
  rwa [substOf_congr (congrArg _ h)]

theorem repeatUpdate_sparesOnly (a : Nat) (v : Word) (o : Origin) {s t : State}
    (h : t.checker = (repeatUpdate s.checker a v o).1) : SparesOnly a s t := by
  intro b hb hn
  rw [substOf_eq_none] at hn ⊢
  intro e he
  rw [h] at he
  obtain hs | hs := repeatUpdate_substs s.checker a v o
  · exact hn e (hs ▸ he)
  · rw [hs, List.mem_append, List.mem_singleton] at he
    obtain he | rfl := he
    · exact hn e he
    · exact hb.symm

theorem writeWord_sparesOnly (a : Nat) (v : Word) (s : State) : SparesOnly a s (writeWord a v s) := fun b _ hn => by
  rw [substOf_writeWord, hn]; rfl

theorem rereadWord_sparesOnly (loc : Located) (a : Nat) (s : State) : SparesOnly a s (rereadWord loc a s).2 := by
  unfold rereadWord
  split
  case h_2 v y n _ =>
    exact (repeatUpdate_sparesOnly a v .correction (noteCorrected_checker ..)).trans (writeWord_sparesOnly a v _)
  case h_1 | h_3 | h_4 => exact .of_frame (by simp)

theorem repairWord_sparesOnly (loc : Located) (a : Nat) (v : Word) (s : State) : SparesOnly a s (repairWord loc a v s) :=
  ((repeatUpdate_sparesOnly a v .repair rfl).trans
    (writeWord_sparesOnly a v { s with checker := (repeatUpdate s.checker a v .repair).1 })).trans
    (.of_frame (by simp [repairWord]))

theorem rereadWord_tableLaw {s : State} (h : TableLaw s) (loc : Located) (a : Nat) : TableLaw (rereadWord loc a s).2 := by
  unfold rereadWord
  split
  case h_1 => exact h
  case h_2 hr => exact writeWord_tableLaw (noteCorrected_tableLaw h (substOf_none_of_corrected hr) ..) ..
  case h_3 | h_4 => exact h.congr (by simp)

theorem rereadWords_tableLaw {s : State} (h : TableLaw s) (loc : Located) (as : List Nat) :
    TableLaw (rereadWords loc as s).2 := by
  induction as generalizing s with
  | nil => exact h
  | cons a as ih => exact ih (rereadWord_tableLaw h loc a)

theorem rereadWords_substOf {loc : Located} {as : List Nat} {s : State} {b : Nat} (hb : b ∉ as)
    (h : substOf s b = none) : substOf (rereadWords loc as s).2 b = none := by
  induction as generalizing s with
  | nil => exact h
  | cons a as ih =>
    obtain ⟨hba, hb⟩ := not_or.1 (List.mem_cons.not.1 hb)
    exact ih hb (rereadWord_sparesOnly loc a s b hba h)

theorem rereadWord_bad {loc : Located} {a : Nat} {s : State} (h : (rereadWord loc a s).1 = none) :
    substOf (rereadWord loc a s).2 a = none := by
  have hbad : (∀ v, readWord s a ≠ .clean v) → substOf (raiseUncorrectable loc s) a = none :=
    substOf_none_of_not_clean
  unfold rereadWord at h ⊢
  split
  case h_1 hr | h_2 hr => simp [hr] at h
  case h_3 hr | h_4 hr => exact hbad fun w => by simp [hr]

/-- A word that the re-reading of a block finds bad is not substituted after it. -/
theorem rereadWords_bad {loc : Located} {as : List Nat} (has : as.Nodup) {s : State} {j a : Nat} (ha : as[j]? = some a)
    (hn : (rereadWords loc as s).1[j]? = some none) : substOf (rereadWords loc as s).2 a = none := by
  induction as generalizing s j with
  | nil => simp at ha
  | cons b as ih =>
    obtain ⟨hmem, hnd⟩ := List.nodup_cons.1 has
    cases j with
    | succ j => exact ih hnd (by simpa using ha) (by simpa [rereadWords] using hn)
    | zero =>
      obtain rfl : b = a := by simpa using ha
      refine rereadWords_substOf (as := as) hmem (rereadWord_bad ?_)
      simpa [rereadWords] using hn

theorem rereadWords_length (loc : Located) (as : List Nat) (s : State) : (rereadWords loc as s).1.length = as.length := by
  induction as generalizing s with
  | nil => rfl
  | cons a as ih => simp [rereadWords, ih]

theorem repairWord_tableLaw {s : State} {a : Nat} (h : TableLaw s) (ha : substOf s a = none) (loc : Located) (v : Word) :
    TableLaw (repairWord loc a v s) :=
  (writeWord_tableLaw (repeatUpdate_tableLaw h ha v .repair) a v).congr (by simp [repairWord])

theorem repairWords_tableLaw {loc : Located} {a : Nat} {rs : List (Option Word)} {ws : List Word} {s : State}
    (h : TableLaw s) (hbad : ∀ j, rs[j]? = some none → substOf s (a + j) = none) :
    TableLaw (repairWords loc a rs ws s) := by
  induction rs generalizing a ws s with
  | nil => cases ws <;> exact h
  | cons r rs ih =>
    have hrest (j : Nat) (hj : rs[j]? = some none) : substOf s (a + 1 + j) = none := by
      rw [show a + 1 + j = a + (j + 1) by omega]; exact hbad (j + 1) (by simpa using hj)
    cases ws with
    | nil => cases r <;> exact h
    | cons w ws =>
      cases r with
      | some _ => exact ih h hrest
      | none =>
        have hkept := repairWord_sparesOnly loc a w s
        exact ih (repairWord_tableLaw h (hbad 0 rfl) loc w) fun j hj => hkept _ (by omega) (hrest j hj)

theorem recvRepair_tableLaw {s : State} (h : TableLaw s) (b : Nat) (ws : List Word) : TableLaw (recvRepair b ws s) := by
  simp only [recvRepair]
  split
  case h_2 => exact h
  case h_1 loc _ =>
    have hread := rereadWords_tableLaw h loc (blockWords b)
    split
    · exact hread.congr (by simp)
    · have hbad (j : Nat) (hj : (rereadWords loc (blockWords b) s).1[j]? = some none) :
          substOf (rereadWords loc (blockWords b) s).2 (64 * b + j) = none := by
        have hlt : j < 64 := by
          simpa [rereadWords_length, blockWords] using (List.getElem?_eq_some_iff.1 hj).1
        exact rereadWords_bad (blockWords_nodup b) (by simp [blockWords, hlt]) hj
      exact (repairWords_tableLaw (loc := loc) (ws := ws) hread hbad).congr (by simp)

/-! The bursts. -/

theorem procRead_tableLaw {s : State} (h : TableLaw s) (loc : Located) (a : Nat) : TableLaw (procRead loc a s) := by
  unfold procRead
  split
  case h_2 v y n hr =>
    refine TableLaw.congr (s := writeWord a v (noteCorrected .proc loc a v y n s)) ?_ (by simp)
    exact writeWord_tableLaw (noteCorrected_tableLaw h (substOf_none_of_corrected hr) ..) ..
  case h_1 | h_3 | h_4 => exact h.congr (by simp)

theorem procFullWrite_tableLaw {s : State} (h : TableLaw s) (loc : Located) (a : Nat) (v : Word) :
    TableLaw (procFullWrite loc a v s) :=
  (storeWord_tableLaw h .proc loc a v).congr (procFullWrite_same loc a v s).2.2.2.1

theorem procMerge_tableLaw {s : State} (h : TableLaw s) (loc : Located) (acc : Access) (old : Word) :
    TableLaw (procMerge loc acc old s) := by
  let m : State := { s with through := { s.through with merge := some (mergeBytes old acc.data acc.enables) } }
  exact (writeWord_tableLaw (s := m) (h.congr rfl) acc.word (mergeBytes old acc.data acc.enables)).congr
    (by simp [procMerge, m])

theorem procPartialWrite_tableLaw {s : State} (h : TableLaw s) (loc : Located) (acc : Access) :
    TableLaw (procPartialWrite loc acc s) := by
  unfold procPartialWrite
  split
  case h_1 => exact procMerge_tableLaw h ..
  case h_2 hr => exact procMerge_tableLaw (noteCorrected_tableLaw h (substOf_none_of_corrected hr) ..) ..
  case h_3 | h_4 => exact h.congr (by simp [reportPartialRefused])

theorem grantProc_tableLaw {s : State} (h : TableLaw s) : TableLaw (grantProc s) := by
  unfold grantProc
  split
  · exact h
  split
  · exact h
  split
  · exact h.congr (by simp)
  case isFalse loc _ _ =>
    have hbegun : TableLaw (beginBurst .proc s) := h.congr rfl
    unfold procBurst
    split
    · split
      · exact procFullWrite_tableLaw hbegun ..
      · exact procPartialWrite_tableLaw hbegun ..
    · exact (procRead_tableLaw hbegun loc _).congr (carryEnables_frame ..).2.2.2.2.1

theorem grantPatrol_tableLaw {s : State} (h : TableLaw s) : TableLaw (grantPatrol s) := by
  have hbegun : TableLaw (beginBurst (.background .patrol) s) := h.congr rfl
  simp only [grantPatrol]
  split
  · exact hbegun
  split
  · exact hbegun
  case h_2 k _ _ loc _ =>
    exact (scrubWords_tableLaw hbegun (.background .patrol) loc (blockWords (loc.region.first + k))).congr (by simp)

theorem copyForRestore_tableLaw {s : State} (h : TableLaw s) (p : PortId) : TableLaw (copyForRestore p s) := by
  unfold copyForRestore
  split
  · split
    case h_1 b _ _ _ loc _ =>
      have htaken : TableLaw (takeBlock b s) := h.congr (by simp)
      exact (scrubWords_tableLaw htaken (.background .copy) loc (blockWords b)).congr (by simp)
    case h_2 => exact h.congr (by simp)
  · exact h.congr (by simp)

theorem copyForFetch_tableLaw {s : State} (h : TableLaw s) (p : PortId) : TableLaw (copyForFetch p s) := by
  unfold copyForFetch
  split
  · simp only
    split
    · refine TableLaw.congr (scrubWords_tableLaw ?_ _ _ _) (setAtEnd_frame ..).2.2.2.2.1
      exact h.congr rfl
    · exact h.congr (by simp)
  · exact h.congr (by simp)

theorem grantCopy_tableLaw {s : State} (h : TableLaw s) : TableLaw (grantCopy s) := by
  have hbegun : TableLaw (beginBurst (.background .copy) { s with copy := { s.copy with job := none } }) := h.congr rfl
  simp only [grantCopy]
  split
  · exact copyForRestore_tableLaw hbegun ..
  · exact copyForFetch_tableLaw hbegun ..
  · exact hbegun

theorem scanSlots_tableLaw {s : State} (h : TableLaw s) (loc : Located) (js : List Nat) :
    TableLaw (scanSlots loc js s) := by
  induction js generalizing s with
  | nil => exact h
  | cons j js ih =>
    refine ih ?_
    have hread := scrubWords_tableLaw h (.background .fill) loc
      ((List.range 8).map (fun k => 64 * loc.region.first + 8 * j + k))
    simp only [scanSlot]
    split
    · exact hread.congr (by simp)
    · exact hread

theorem clearBlock_tableLaw {s : State} (h : TableLaw s) (loc : Located) (b : Nat) : TableLaw (clearBlock loc b s) := by
  unfold clearBlock
  split
  · split
    · exact fillWords_tableLaw h ..
    · exact scanSlots_tableLaw h ..
  · exact fillWords_tableLaw h ..

theorem grantFill_tableLaw {s : State} (h : TableLaw s) : TableLaw (grantFill s) := by
  simp only [grantFill]
  split
  case h_2 => exact h.congr rfl
  case h_1 =>
    split
    case h_2 => exact h.congr rfl
    case h_1 =>
      refine clearBlock_tableLaw ?_ ..
      exact h.congr rfl

theorem grantRecv_tableLaw {s : State} (h : TableLaw s) : TableLaw (grantRecv s) := by
  have hbegun : TableLaw (beginBurst (.background .recv) { s with copy := { s.copy with received := none } }) :=
    h.congr rfl
  simp only [grantRecv]
  split
  case h_3 => exact hbegun
  case h_2 => exact recvRepair_tableLaw hbegun ..
  case h_1 b words _ =>
    simp only [recvBlock]
    split
    case h_2 => exact hbegun
    case h_1 loc _ =>
      have hstored := storeWords_tableLaw hbegun loc (64 * b) words
      split
      · exact hstored.congr (setAtEnd_frame ..).2.2.2.2.1
      · exact hstored

theorem owePulse_tableLaw {s : State} (h : TableLaw s) : TableLaw (owePulse s) := h.congr (by simp)

theorem grantLog_tableLaw {s : State} (h : TableLaw s) : TableLaw (grantLog s) := by
  have hwritten (a : Nat) (ws : List Word) {l : LogWriter} {t : State} (ht : TableLaw t) :
      TableLaw { writeWords a ws t with log := l } := (writeWords_tableLaw ht a ws).congr rfl
  simp only [grantLog]
  split
  · refine owePulse_tableLaw (hwritten _ _ ?_)
    exact h.congr rfl
  · exact h.congr rfl

theorem grantBackground_tableLaw {s : State} (h : TableLaw s) (b : Background) : TableLaw (grantBackground b s) := by
  cases b <;> simp only [grantBackground]
  case log => exact grantLog_tableLaw h
  case recv => exact grantRecv_tableLaw h
  case fill => exact grantFill_tableLaw h
  case copy => exact grantCopy_tableLaw h
  case patrol => exact grantPatrol_tableLaw h

theorem settle_tableLaw {s : State} (h : TableLaw s) : TableLaw (settle s) := by
  have hcarry (c : Choice) {s : State} (h : TableLaw s) : TableLaw (carryOut c s) := by
    unfold carryOut
    split
    · exact grantProc_tableLaw (h.congr rfl)
    · refine grantBackground_tableLaw ?_ _
      exact h.congr rfl
    · exact h.congr rfl
  have hdecide {s : State} (h : TableLaw s) : TableLaw (arbitrate s) := by
    unfold arbitrate
    split
    · exact hcarry _ h
    · exact h
  exact hdecide (hdecide h)

/-- No effect of a command changes the tables before the arbiter decides. -/
theorem effect_checker {c : Instr} {s u : State} (h : Effect c s u) : u.checker = s.checker := by
  cases h <;> simp

end Sys2Proof.Machine
end

section
/-! The report queue and the link ports (R85, R90, R93, R163): every step keeps their depths and the range of the error
counts. -/

namespace Sys2Proof.Machine

/-- A change that keeps the depth of the report queue and the law of both ports. -/
structure KeepsQueues (s t : State) : Prop where
  reports : ReportLaw s → ReportLaw t
  links : LinkLaw s → LinkLaw t

theorem KeepsQueues.refl (s : State) : KeepsQueues s s := ⟨id, id⟩

theorem KeepsQueues.trans {s t u : State} (h : KeepsQueues s t) (g : KeepsQueues t u) : KeepsQueues s u :=
  ⟨g.reports ∘ h.reports, g.links ∘ h.links⟩

/-- A further change of other fields. -/
theorem KeepsQueues.frame {s t u : State} (h : KeepsQueues s t) (g : u.log.queue = t.log.queue ∧ u.link1 = t.link1 ∧
    u.link2 = t.link2) : KeepsQueues s u := by
  obtain ⟨hq, h1, h2⟩ := g
  refine h.trans ⟨fun hr => ?_, fun hl => ?_⟩
  · unfold ReportLaw at *; rwa [hq]
  · unfold LinkLaw at *; rwa [h1, h2]

theorem KeepsQueues.of_frame {s t : State} (g : t.log.queue = s.log.queue ∧ t.link1 = s.link1 ∧ t.link2 = s.link2) :
    KeepsQueues s t := (KeepsQueues.refl s).frame g

/-! Reports (R163). -/

theorem KeepsQueues.then_offer {s t : State} (h : KeepsQueues s t) (r : Report) : KeepsQueues s (offer r t) :=
  h.trans ⟨offer_reportLaw r, fun hl => by unfold LinkLaw at *; simpa using hl⟩

theorem KeepsQueues.then_report {s t : State} (h : KeepsQueues s t) (k : RecordKind) (n : Option Nat) (w d e : Word) :
    KeepsQueues s (report k n w d e t) := h.then_offer _

/-! Link ports (R85, R93, R94). -/

theorem LinkLaw.portLaw {s : State} (h : LinkLaw s) (p : PortId) : PortLaw (getPort s p) := by
  cases p
  · exact h.1
  · exact h.2

theorem KeepsQueues.then_setPort {s t : State} (h : KeepsQueues s t) (p : PortId) {v : LinkPort}
    (hv : PortLaw (getPort t p) → PortLaw v) : KeepsQueues s (setPort t p v) := by
  refine h.trans ⟨fun hr => by cases p <;> exact hr, fun hl => ?_⟩
  have := hv (hl.portLaw p)
  cases p
  · exact ⟨this, hl.2⟩
  · exact ⟨hl.1, this⟩

/-- Starting a frame takes it off its queue. -/
theorem startNext_portLaw {v : LinkPort} (n d : Nat) (h : PortLaw v) : PortLaw (startNext n d v) := by
  obtain ⟨hcontrol, hbulk, hrest⟩ := h
  unfold startNext
  split
  · split
    case h_1 f rest hc => exact ⟨by rw [hc] at hcontrol; simp at hcontrol ⊢; omega, hbulk, hrest⟩
    case h_2 =>
      split
      case h_1 f rest hb => exact ⟨hcontrol, by rw [hb] at hbulk; simp at hbulk ⊢; omega, hrest⟩
      case h_2 => exact ⟨hcontrol, hbulk, hrest⟩
  · exact ⟨hcontrol, hbulk, hrest⟩

theorem KeepsQueues.then_startPort {s t : State} (h : KeepsQueues s t) (p : PortId) : KeepsQueues s (startPort p t) :=
  h.then_setPort p (startNext_portLaw _ _)

theorem raise255_le (n : Nat) : raise255 n ≤ 255 := by unfold raise255; split <;> omega

theorem raiseError_portLaw {v : LinkPort} (k : LinkErrorKind) (h : PortLaw v) :
    PortLaw { v with errors := raiseError v.errors k } := by
  obtain ⟨hcontrol, hbulk, hreceived, hcheck, hform, hoverrun, hfull⟩ := h
  cases k
  case check => exact ⟨hcontrol, hbulk, hreceived, raise255_le _, hform, hoverrun, hfull⟩
  case form => exact ⟨hcontrol, hbulk, hreceived, hcheck, raise255_le _, hoverrun, hfull⟩
  case overrun => exact ⟨hcontrol, hbulk, hreceived, hcheck, hform, raise255_le _, hfull⟩
  case txFull => exact ⟨hcontrol, hbulk, hreceived, hcheck, hform, hoverrun, raise255_le _⟩

theorem KeepsQueues.then_linkError {s t : State} (h : KeepsQueues s t) (p : PortId) (k : LinkErrorKind)
    (r : Option FormReason) (x y : Nat × Bool) : KeepsQueues s (linkError p k r x y t) :=
  (h.then_setPort p (raiseError_portLaw k)).then_report ..

theorem appendControl_portLaw {v : LinkPort} (f : Frame) (hroom : v.control.length < Config.controlDepth)
    (h : PortLaw v) : PortLaw { v with control := v.control ++ [f] } := by
  obtain ⟨-, hrest⟩ := h
  exact ⟨by rw [List.length_append]; exact hroom, hrest⟩

theorem bulkFree_iff {v : LinkPort} : bulkFree v = true ↔ v.bulk.length + v.reserved < Config.bulkDepth := by
  simp [bulkFree]

theorem appendBulk_portLaw {v : LinkPort} (f : Frame) (hroom : bulkFree v = true) (h : PortLaw v) :
    PortLaw { v with bulk := v.bulk ++ [f] } := by
  obtain ⟨hcontrol, -, hrest⟩ := h
  have hlt := bulkFree_iff.1 hroom
  refine ⟨hcontrol, ?_, hrest⟩
  rw [List.length_append, List.length_singleton]
  change v.bulk.length + 1 + v.reserved ≤ _
  omega

theorem reserve_portLaw {v : LinkPort} (hroom : bulkFree v = true) (h : PortLaw v) :
    PortLaw { v with reserved := v.reserved + 1 } := by
  obtain ⟨hcontrol, -, hrest⟩ := h
  exact ⟨hcontrol, bulkFree_iff.1 hroom, hrest⟩

theorem KeepsQueues.then_offerControl {s t : State} (h : KeepsQueues s t) (p : PortId) (f : Frame) :
    KeepsQueues s (offerControl p f t) := by
  unfold offerControl
  split
  case isFalse => exact h
  case isTrue =>
    split
    case isTrue hroom =>
      exact (h.then_setPort p (appendControl_portLaw f hroom)).then_startPort p
    case isFalse => exact h.then_linkError ..

theorem KeepsQueues.then_offerBulk {s t : State} (h : KeepsQueues s t) (p : PortId) (f : Frame) :
    KeepsQueues s (offerBulk p f t) := by
  unfold offerBulk
  split
  case isFalse => exact h
  case isTrue =>
    split
    case isTrue hroom =>
      exact (h.then_setPort p (appendBulk_portLaw f hroom)).then_startPort p
    case isFalse => exact h.then_linkError ..

theorem KeepsQueues.then_freeSlot {s t : State} (h : KeepsQueues s t) (p : PortId) : KeepsQueues s (freeSlot p t) :=
  h.then_setPort p fun ⟨hcontrol, hbulk, hrest⟩ =>
    ⟨hcontrol, le_trans (Nat.add_le_add_left (Nat.sub_le ..) _) hbulk, hrest⟩

/-- A slot is reserved where one is free. -/
theorem KeepsQueues.then_reserveSlot {s t : State} (h : KeepsQueues s t) {p : PortId}
    (hp : bulkFree (getPort t p) = true) : KeepsQueues s (reserveSlot p t) := h.then_setPort p (reserve_portLaw hp)

theorem KeepsQueues.then_offerBoth {s t : State} (h : KeepsQueues s t) (f : Frame) : KeepsQueues s (offerBoth f t) :=
  (h.then_offerControl .link1 f).then_offerControl .link2 f

theorem KeepsQueues.then_offerState {s t : State} (h : KeepsQueues s t) : KeepsQueues s (offerState t) :=
  h.then_offerBoth _

theorem KeepsQueues.then_offerTo {s t : State} (h : KeepsQueues s t) (l : Lane) (f : Frame) :
    KeepsQueues s (offerTo l f t) := by
  unfold offerTo
  split
  · exact h.then_offerControl ..
  · exact h

theorem KeepsQueues.then_purgeBulk {s t : State} (h : KeepsQueues s t) (p : PortId) (n : Nat) :
    KeepsQueues s (purgeBulk p n t) :=
  h.then_setPort p fun ⟨hcontrol, hbulk, hrest⟩ =>
    ⟨hcontrol, le_trans (Nat.add_le_add_right (List.length_filter_le _ _) _) hbulk, hrest⟩

/-! The end of serving (R95, R148). -/

theorem endRestoreJob_queues (s : State) : KeepsQueues s (endRestoreJob s) := by
  unfold endRestoreJob
  extract_lets _ u
  have hu : KeepsQueues s u := by
    unfold u
    split
    · exact .then_freeSlot (.of_frame (by simp)) _
    · exact .refl s
  clear_value u
  split
  · split
    · exact .then_freeSlot (hu.frame (by simp)) _
    · exact .then_freeSlot (hu.frame (by simp)) _
    · exact hu
  · exact hu

theorem excludePeer_queues (l : Lane) (s : State) : KeepsQueues s (excludePeer l s) := .of_frame (by simp)

theorem endServingStep_queues (c : Cause) (d : Option Cause) (s : State) : KeepsQueues s (endServingStep c d s) := by
  unfold endServingStep
  split
  case h_1 => exact .refl s
  case h_2 joiner attempt _ =>
    extract_lets u _ _ v w x
    have hv : KeepsQueues s v := (endRestoreJob_queues s).frame (by simp [v, u])
    have hw : KeepsQueues s w := by
      unfold w
      split
      · exact hv.then_purgeBulk ..
      · exact hv
    have hx : KeepsQueues s x := by
      unfold x
      split
      · exact hw.then_offerTo ..
      · exact hw
    split
    · exact hx.trans (excludePeer_queues ..)
    · exact hx

theorem KeepsQueues.then_reportExcluded {s t : State} (h : KeepsQueues s t) (l : Lane) (c : Cause) (w : Word) :
    KeepsQueues s (reportExcluded l c w t) := h.then_report ..

theorem KeepsQueues.then_reportServeEnd {s t : State} (h : KeepsQueues s t) (b : State) (c : Cause) (n : Option Nat) :
    KeepsQueues s (reportServeEnd b c n t) := by
  unfold reportServeEnd
  split
  · exact h
  · simp only
    split
    · exact (h.then_report ..).then_reportExcluded ..
    · exact h.then_report ..

theorem endServing_queues (c : Cause) (d : Option Cause) (n : Option Nat) (s : State) :
    KeepsQueues s (endServing c d n s) := (endServingStep_queues c d s).then_reportServeEnd ..

/-! Lane control (R121 to R128, R131, R132, R137, R138). -/

theorem dropRepairWork_queues (s : State) : KeepsQueues s (dropRepairWork s) := by
  unfold dropRepairWork
  extract_lets u v
  have hu : KeepsQueues s u := by
    unfold u
    split <;> exact .of_frame (by simp)
  have hv : KeepsQueues s v := by
    unfold v endAnswerJob
    split
    · exact .then_freeSlot (hu.frame (by simp)) _
    · exact hu
  exact hv.frame (by simp)

theorem isolate_queues (c : Cause) (n : Option Nat) (s : State) : KeepsQueues s (isolate c n s) := by
  unfold isolate
  extract_lets s1 s2 s3 s4 s5 _ s6 s7 s8 s9
  have h3 : KeepsQueues s s3 := .of_frame (by simp [s1, s2, s3])
  have h6 : KeepsQueues s s6 := ((h3.trans (endServingStep_queues ..)).trans (dropRepairWork_queues s4)).frame
    (by simp [s5, s6])
  have h7 : KeepsQueues s s7 := by
    unfold s7
    split
    · exact h6.frame (by simp)
    · exact h6
  exact ((h7.then_offer _).then_reportServeEnd ..).then_offerState

theorem leave_queues (c : Cause) (n : Option Nat) (s : State) : KeepsQueues s (leave c n s) := by
  unfold leave
  split
  · exact isolate_queues ..
  · exact .refl s

theorem askPeer_queues (l : Lane) (s : State) : KeepsQueues s (askPeer l s) := by
  simp only [askPeer]
  split
  · exact .then_offerTo (.of_frame (by simp)) ..
  · exact .of_frame (by simp)

theorem enterRequest_queues (s : State) : KeepsQueues s (enterRequest s) := by
  simp only [enterRequest]
  split
  · exact .trans (.of_frame (by simp)) (askPeer_queues ..)
  · exact .of_frame (by simp)

theorem endJoinerClear_queues (s : State) : KeepsQueues s (endJoinerClear s) := by
  simp only [endJoinerClear]
  split
  · exact .trans (.of_frame (by simp)) (enterRequest_queues _)
  · exact .of_frame (by simp)

theorem startAttempt_queues (s : State) : KeepsQueues s (startAttempt s) := by
  unfold startAttempt
  extract_lets _ s1 s2 s3 _ s4 s5
  have h1 : KeepsQueues s s1 := .of_frame (by simp [s1])
  have h5 : KeepsQueues s s5 := (h1.trans (dropRepairWork_queues s1)).frame (by simp [s5, s4, s3, s2, clearStart])
  split
  · exact h5.trans (endJoinerClear_queues s5)
  · exact h5

theorem enterJoining_queues (g : Trigger) (s : State) : KeepsQueues s (enterJoining g s) := by
  unfold enterJoining
  extract_lets s1 _ s2 s3 s4
  have h3 : KeepsQueues s s3 := .of_frame (by simp [s1, s2, s3])
  exact ((h3.then_report ..).trans (startAttempt_queues s4)).then_offerState

theorem hearMember_queues (s : State) : KeepsQueues s (hearMember s) := by
  unfold hearMember
  split
  · exact isolate_queues ..
  · split
    · exact leave_queues ..
    · exact enterJoining_queues ..

theorem endAttempt_queues (c : Cause) (b : Bool) (s : State) : KeepsQueues s (endAttempt c b s) := by
  unfold endAttempt
  extract_lets _ s1 s2
  have h1 : KeepsQueues s s1 := .of_frame (by simp [s1])
  have h2 : KeepsQueues s s2 := by
    unfold s2
    split
    · split
      · exact h1
      · exact h1.then_offerTo ..
    · exact h1
  exact h2.frame (by simp)

theorem failAttempt_queues (c : Cause) (b : Bool) (d : Option Cause) (s : State) :
    KeepsQueues s (failAttempt c b d s) := by
  unfold failAttempt
  split
  · exact (KeepsQueues.then_report ((endAttempt_queues c b s).frame (by simp)) ..).then_offerState
  · exact .refl s

theorem askOther_queues (b : Bool) (s : State) : KeepsQueues s (askOther b s) := by
  unfold askOther
  split
  · exact .trans (.of_frame (by simp)) (askPeer_queues ..)
  · exact failAttempt_queues ..

theorem admission_queues (x : Snapshot) (s : State) : KeepsQueues s (admission x s) := by
  unfold admission
  extract_lets _ s1 _ _ _ s2 s3
  have h1 : KeepsQueues s s1 := by
    unfold s1
    split
    · exact .then_offerTo (.of_frame (by simp)) ..
    · exact .refl s
  have h3 : KeepsQueues s s3 := h1.frame (by simp [s3, s2])
  exact (h3.then_report ..).then_offerState

/-! The vote (R105 to R109, R114). -/

theorem endFormation_queues (own : Lane) (e : VoteEntry) (rs : List SlotResult) (s : State) :
    KeepsQueues s (endFormation own e rs s) := by
  unfold endFormation
  split
  · exact KeepsQueues.then_offerState (.of_frame (by simp))
  · exact .refl s

theorem handOnVote_queues (own : Lane) (g : Option Word) (e : VoteEntry) (rs : List SlotResult) (s : State) :
    KeepsQueues s (handOnVote own g e rs s) := by
  unfold handOnVote
  split
  · exact leave_queues ..
  split
  · exact leave_queues ..
  split
  · exact endFormation_queues ..
  split
  · exact leave_queues ..
  · exact .refl s

theorem KeepsQueues.then_reportAllExcluded {s t : State} (h : KeepsQueues s t) (b : State) (out : List (Lane × Cause)) :
    KeepsQueues s (reportAllExcluded b out t) := by
  induction out generalizing t with
  | nil => exact h
  | cons x out ih =>
    refine ih ?_
    split
    · exact h.then_reportExcluded ..
    · exact h

theorem castVote_queues (e : VoteEntry) (s : State) : KeepsQueues s (castVote e s) := by
  unfold castVote
  extract_lets own rs counts out _ s1 s2 clean s3 s4
  have h2 : KeepsQueues s s2 := .of_frame (by simp [s1, s2])
  have h3 : KeepsQueues s s3 := by
    unfold s3
    split
    · exact h2
    · exact h2.then_report ..
  exact (h3.then_reportAllExcluded ..).trans (handOnVote_queues ..)

theorem voteIfComplete_queues (s : State) : KeepsQueues s (voteIfComplete s) := by
  unfold voteIfComplete
  split
  · exact castVote_queues ..
  · exact .refl s

theorem KeepsQueues.then_vote {s t : State} (h : KeepsQueues s t) : KeepsQueues s (voteIfComplete t) :=
  h.trans (voteIfComplete_queues t)

/-! The bursts. -/

theorem KeepsQueues.then_writeWord {s t : State} (h : KeepsQueues s t) (a : Nat) (v : Word) :
    KeepsQueues s (writeWord a v t) := h.frame (by simp)

theorem KeepsQueues.then_applyDelta {s t : State} (h : KeepsQueues s t) (loc : Located) (a : Nat) (v w : Word) :
    KeepsQueues s (applyDelta loc a v w t) := h.frame (by simp)

theorem KeepsQueues.then_setBroken {s t : State} (h : KeepsQueues s t) (loc : Located) :
    KeepsQueues s (setBroken loc t) := h.frame (by simp)

theorem KeepsQueues.then_setAtEnd {s t : State} (h : KeepsQueues s t) (e : AtEnd) : KeepsQueues s (setAtEnd e t) :=
  h.frame (by simp)

theorem KeepsQueues.then_answerAccess {s t : State} (h : KeepsQueues s t) (x : Answer) :
    KeepsQueues s (answerAccess x t) := h.frame (by simp)

theorem KeepsQueues.then_closeRepair {s t : State} (h : KeepsQueues s t) (b : Nat) :
    KeepsQueues s (closeRepair b t) := h.frame (by simp)

theorem KeepsQueues.then_setDueAnswer {s t : State} (h : KeepsQueues s t) (x : Answer) :
    KeepsQueues s (setDueAnswer x t) := h.frame (by simp)

theorem KeepsQueues.then_procMerge {s t : State} (h : KeepsQueues s t) (loc : Located) (x : Access) (v : Word) :
    KeepsQueues s (procMerge loc x v t) := h.frame (by simp [procMerge])

theorem KeepsQueues.then_reportNews {s t : State} (h : KeepsQueues s t) (n : RepeatNews) (i a : Nat) (v : Word)
    (o : Origin) : KeepsQueues s (reportNews n i a v o t) := by
  unfold reportNews
  split
  · exact h
  · exact h.then_report ..
  · exact h.then_report ..

theorem noteCorrected_queues (c : Client) (loc : Located) (a : Nat) (v : Word) (y : Byte) (n : Nat) (s : State) :
    KeepsQueues s (noteCorrected c loc a v y n s) := by
  rw [noteCorrected_eq]
  refine .then_reportNews ?_ ..
  split
  · exact .then_report (.of_frame (by simp [flagReported, enterCorrected, apply_ite])) ..
  · exact .of_frame (by simp [enterCorrected])

theorem noteUncorrectable_queues (c : Client) (loc : Located) (a : Nat) (y : Byte) (s : State) :
    KeepsQueues s (noteUncorrectable c loc a y s) := .then_report (.of_frame (by simp)) ..

theorem noteAddressFault_queues (c : Client) (loc : Located) (a : Nat) (y : Byte) (n : Nat) (s : State) :
    KeepsQueues s (noteAddressFault c loc a y n s) := .then_report (.of_frame (by simp)) ..

theorem scrubWord_queues (c : Client) (loc : Located) (a : Nat) (s : State) :
    KeepsQueues s (scrubWord c loc a s).2 := by
  unfold scrubWord
  split
  · exact .refl s
  · exact (noteCorrected_queues ..).then_writeWord ..
  · exact noteUncorrectable_queues ..
  · exact noteAddressFault_queues ..

theorem scrubWords_queues (c : Client) (loc : Located) (as : List Nat) (s : State) :
    KeepsQueues s (scrubWords c loc as s).2 := by
  induction as generalizing s with
  | nil => exact .refl s
  | cons a as ih => exact (scrubWord_queues c loc a s).trans (ih _)

theorem storeWord_queues (c : Client) (loc : Located) (a : Nat) (v : Word) (s : State) :
    KeepsQueues s (storeWord c loc a v s).2 := by
  unfold storeWord
  split
  · exact .of_frame (by simp)
  split
  · exact .of_frame (by simp)
  · exact ((noteCorrected_queues ..).then_writeWord ..).then_applyDelta ..
  · exact ((noteUncorrectable_queues ..).then_writeWord ..).then_setBroken _
  · exact ((noteAddressFault_queues ..).then_writeWord ..).then_setBroken _

theorem storeWords_queues (loc : Located) (a : Nat) (vs : List Word) (s : State) :
    KeepsQueues s (storeWords loc a vs s).2 := by
  induction vs generalizing a s with
  | nil => exact .refl s
  | cons v vs ih => exact (storeWord_queues (.background .recv) loc a v s).trans (ih ..)

theorem rereadWords_queues (loc : Located) (as : List Nat) (s : State) : KeepsQueues s (rereadWords loc as s).2 := by
  induction as generalizing s with
  | nil => exact .refl s
  | cons a as ih =>
    refine .trans ?_ (ih _)
    unfold rereadWord
    split
    · exact .refl s
    · exact (noteCorrected_queues ..).then_writeWord ..
    · exact .of_frame (by simp)
    · exact .of_frame (by simp)

theorem repairWord_queues (loc : Located) (a : Nat) (v : Word) (s : State) : KeepsQueues s (repairWord loc a v s) :=
  .then_reportNews (.of_frame (by simp)) ..

theorem repairWords_queues (loc : Located) (a : Nat) (rs : List (Option Word)) (ws : List Word) (s : State) :
    KeepsQueues s (repairWords loc a rs ws s) := by
  induction rs generalizing a ws s with
  | nil => cases ws <;> exact .refl s
  | cons r rs ih =>
    cases ws with
    | nil => cases r <;> exact .refl s
    | cons w ws =>
      cases r with
      | some _ => exact ih ..
      | none => exact (repairWord_queues loc a w s).trans (ih ..)

theorem classRepair_queues (loc : Located) (b : Nat) (s : State) : KeepsQueues s (classRepair loc b s) := by
  unfold classRepair offerRepair
  split
  · split
    · exact .refl s
    split
    · exact .of_frame (by simp)
    · exact (KeepsQueues.refl s).then_report ..
  · exact .refl s

theorem procClassAction_queues (loc : Located) (b : Nat) (s : State) : KeepsQueues s (procClassAction loc b s) :=
  .trans (.of_frame (by simp)) (classRepair_queues loc b (setAtEnd (classCause s loc) s))

theorem procRead_queues (loc : Located) (a : Nat) (s : State) : KeepsQueues s (procRead loc a s) := by
  unfold procRead
  split
  · exact .of_frame (by simp)
  · exact ((noteCorrected_queues ..).then_writeWord ..).then_setDueAnswer _
  · exact ((noteUncorrectable_queues ..).trans (procClassAction_queues ..)).then_setDueAnswer _
  · exact ((noteAddressFault_queues ..).trans (procClassAction_queues ..)).then_setDueAnswer _

theorem procFullWrite_queues (loc : Located) (a : Nat) (v : Word) (s : State) :
    KeepsQueues s (procFullWrite loc a v s) := by
  have h := storeWord_queues .proc loc a v s
  simp only [procFullWrite]
  split <;> exact h.frame (by simp)

theorem procPartialWrite_queues (loc : Located) (acc : Access) (s : State) :
    KeepsQueues s (procPartialWrite loc acc s) := by
  unfold procPartialWrite
  split
  · exact (KeepsQueues.refl s).then_procMerge ..
  · exact (noteCorrected_queues ..).then_procMerge ..
  · exact (((noteUncorrectable_queues ..).then_report ..).trans (procClassAction_queues ..)).then_setDueAnswer _
  · exact (((noteAddressFault_queues ..).then_report ..).trans (procClassAction_queues ..)).then_setDueAnswer _

/-- The byte enables that reports carry leave their number alone. -/
theorem KeepsQueues.then_carryEnables {s t : State} (h : KeepsQueues s t) (x : Access) (b : State) :
    KeepsQueues s (carryEnables x b t) := by
  refine h.trans ⟨fun hr => ?_, fun hl => hl⟩
  unfold ReportLaw at *
  rwa [carryEnables_queue_length]

theorem refuseAccess_queues (x : Access) (r : RefusalReason) (s : State) : KeepsQueues s (refuseAccess x r s) :=
  ((KeepsQueues.refl s).then_offer _).then_answerAccess _

theorem grantProc_queues (s : State) : KeepsQueues s (grantProc s) := by
  unfold grantProc
  split
  · exact .refl s
  split
  · exact .refl s
  split
  · exact refuseAccess_queues ..
  · refine .trans (t := beginBurst .proc s) (.of_frame (by simp)) ?_
    unfold procBurst
    split
    · split
      · exact procFullWrite_queues ..
      · exact procPartialWrite_queues ..
    · exact (procRead_queues ..).then_carryEnables ..

theorem regionEnd_queues (loc : Located) (s : State) : KeepsQueues s (regionEnd loc s) := by
  unfold regionEnd
  split
  · split
    · exact .refl s
    split
    · unfold regionCompare
      split
      · exact .refl s
      · exact ((KeepsQueues.refl s).then_report ..).then_setAtEnd _
    · exact .refl s
  · exact .refl s

theorem advanceCursor_queues (loc : Located) (k : Nat) (s : State) : KeepsQueues s (advanceCursor loc k s) := by
  simp only [advanceCursor]
  split
  · exact .of_frame (by simp)
  split
  · exact (regionEnd_queues loc s).frame (by simp)
  · exact (regionEnd_queues loc s).frame (by simp)

theorem dealWithBlock_queues (loc : Located) (k : Nat) (ws : List (Option Word)) (s : State) :
    KeepsQueues s (dealWithBlock loc k ws s) := by
  unfold dealWithBlock
  extract_lets _ u
  have hu : KeepsQueues s u := by
    unfold u
    split
    · exact .of_frame (by simp)
    · exact .refl s
  split
  · exact hu
  · exact .trans (hu.frame (by simp)) (classRepair_queues ..)

theorem grantPatrol_queues (s : State) : KeepsQueues s (grantPatrol s) := by
  simp only [grantPatrol]
  split
  · exact .of_frame (by simp)
  split
  · exact .of_frame (by simp)
  · refine .trans (t := beginBurst (.background .patrol) s) (.of_frame (by simp)) ?_
    exact ((scrubWords_queues ..).trans (dealWithBlock_queues ..)).trans (advanceCursor_queues ..)

theorem copyForRestore_queues (p : PortId) (s : State) : KeepsQueues s (copyForRestore p s) := by
  unfold copyForRestore
  split
  case h_1 b _ _ =>
    split
    · refine .trans (t := takeBlock b s) (.of_frame (by simp)) ?_
      exact (scrubWords_queues ..).then_setAtEnd _
    · exact (KeepsQueues.refl s).then_freeSlot p
  case h_2 => exact (KeepsQueues.refl s).then_freeSlot p

theorem copyForFetch_queues (p : PortId) (s : State) : KeepsQueues s (copyForFetch p s) := by
  unfold copyForFetch
  split
  case h_1 b _ =>
    extract_lets _ u
    have hu : KeepsQueues s u := .of_frame ⟨rfl, rfl, rfl⟩
    split
    · exact (hu.trans (scrubWords_queues ..)).then_setAtEnd _
    · exact hu.then_freeSlot p
  case h_2 => exact (KeepsQueues.refl s).then_freeSlot p

theorem grantCopy_queues (s : State) : KeepsQueues s (grantCopy s) := by
  unfold grantCopy
  extract_lets _ u
  have hu : KeepsQueues s u := .of_frame ⟨rfl, rfl, rfl⟩
  split
  · exact hu.trans (copyForRestore_queues ..)
  · exact hu.trans (copyForFetch_queues ..)
  · exact hu

theorem scanSlots_queues (loc : Located) (js : List Nat) (s : State) : KeepsQueues s (scanSlots loc js s) := by
  induction js generalizing s with
  | nil => exact .refl s
  | cons j js ih =>
    have hread := scrubWords_queues (.background .fill) loc
      ((List.range 8).map (fun k => 64 * loc.region.first + 8 * j + k)) s
    refine .trans ?_ (ih _)
    simp only [scanSlot]
    split
    · exact hread.frame (by simp)
    · exact hread

theorem clearBlock_queues (loc : Located) (b : Nat) (s : State) : KeepsQueues s (clearBlock loc b s) := by
  unfold clearBlock
  split
  · split
    · exact .of_frame (by simp)
    · exact scanSlots_queues ..
  · exact .of_frame (by simp)

theorem grantFill_queues (s : State) : KeepsQueues s (grantFill s) := by
  simp only [grantFill]
  split
  · split
    · refine .trans ?_ (clearBlock_queues ..)
      exact .of_frame ⟨rfl, rfl, rfl⟩
    · exact .of_frame ⟨rfl, rfl, rfl⟩
  · exact .of_frame ⟨rfl, rfl, rfl⟩

theorem recvRepair_queues (b : Nat) (ws : List Word) (s : State) : KeepsQueues s (recvRepair b ws s) := by
  simp only [recvRepair]
  split
  case h_2 => exact .refl s
  case h_1 loc _ =>
    have hread := rereadWords_queues loc (blockWords b) s
    split
    · exact ((hread.then_closeRepair b).then_report ..).then_setAtEnd _
    · exact ((hread.trans (repairWords_queues ..)).then_closeRepair b).then_report ..

theorem grantRecv_queues (s : State) : KeepsQueues s (grantRecv s) := by
  unfold grantRecv
  extract_lets _ u
  have hu : KeepsQueues s u := .of_frame ⟨rfl, rfl, rfl⟩
  split
  · refine hu.trans ?_
    simp only [recvBlock]
    split
    · split
      · exact (storeWords_queues ..).then_setAtEnd _
      · exact storeWords_queues ..
    · exact .refl u
  · exact hu.trans (recvRepair_queues ..)
  · exact hu

@[simp] theorem owePulse_queue (s : State) : (owePulse s).log.queue = s.log.queue := by
  simp only [owePulse]; split <;> rfl

/-- A LOG burst takes the head report off the queue (R165). -/
theorem grantLog_queues (s : State) : KeepsQueues s (grantLog s) := by
  simp only [grantLog]
  split
  case h_1 n r rest region hq _ =>
    refine ⟨fun hr => ?_, fun hl => ?_⟩
    · have hq' : s.log.queue = (n, r) :: rest := hq
      unfold ReportLaw at *
      rw [hq'] at hr
      simpa using Nat.le_of_succ_le hr
    · unfold LinkLaw at *
      simpa using hl
  case h_2 => exact .of_frame ⟨rfl, rfl, rfl⟩

theorem grantBackground_queues (b : Background) (s : State) : KeepsQueues s (grantBackground b s) := by
  cases b <;> simp only [grantBackground]
  case log => exact grantLog_queues s
  case recv => exact grantRecv_queues s
  case fill => exact grantFill_queues s
  case copy => exact grantCopy_queues s
  case patrol => exact grantPatrol_queues s

theorem settle_queues (s : State) : KeepsQueues s (settle s) := by
  have hcarry (c : Choice) (s : State) : KeepsQueues s (carryOut c s) := by
    unfold carryOut
    split
    · exact .trans (.of_frame (by simp)) (grantProc_queues _)
    · exact .trans (.of_frame (by simp)) (grantBackground_queues ..)
    · exact .of_frame (by simp)
  have hdecide (s : State) : KeepsQueues s (arbitrate s) := by
    unfold arbitrate
    split
    · exact hcarry ..
    · exact .refl s
  exact (hdecide s).trans (hdecide _)

/-! The end of a burst (R41, R160). -/

theorem copyClassAction_queues (b : Nat) (s : State) : KeepsQueues s (copyClassAction b s) := by
  unfold copyClassAction
  split
  · exact leave_queues ..
  · split
    · exact classRepair_queues ..
    · exact .refl s

theorem endWork_queues (e : AtEnd) (s : State) : KeepsQueues s (endWork e s) := by
  have hfree (p : PortId) : KeepsQueues s (freeSlot p s) := (KeepsQueues.refl s).then_freeSlot p
  cases e with
  | nothing => exact .refl s
  | leave c n => exact leave_queues ..
  | failAttempt c => exact failAttempt_queues ..
  | sendBlock p attempt b words => exact (hfree p).then_offerBulk ..
  | damaged p b live =>
    cases live with
    | true => exact ((hfree p).trans (endServing_queues ..)).trans (copyClassAction_queues b _)
    | false => exact copyClassAction_queues b s
  | sendFetched p b words => exact (hfree p).then_offerBulk ..
  | refuseFetched p b => exact ((hfree p).then_offerControl ..).trans (copyClassAction_queues b _)

theorem reportClamped_queues (s : State) : KeepsQueues s (reportClamped s) := by
  unfold reportClamped
  split
  · split
    · exact (KeepsQueues.refl s).then_report ..
    · exact .refl s
  · exact .refl s

theorem endStartingClear_queues (s : State) : KeepsQueues s (endStartingClear s) := by
  unfold endStartingClear
  extract_lets _ s1 s2 _ s3
  have h1 : KeepsQueues s s1 := .then_report (.of_frame (by simp [startWriter])) ..
  have h3 : KeepsQueues s s3 := (h1.trans (reportClamped_queues s1)).then_offerState.frame (by simp [s3, s2])
  split
  · exact h3.trans (hearMember_queues s3)
  · exact h3

theorem fillGoesOn_queues (s : State) : KeepsQueues s (fillGoesOn s) := by
  unfold fillGoesOn
  split
  · exact .of_frame (by simp)
  · exact endJoinerClear_queues s
  · exact endStartingClear_queues s
  · exact .refl s

theorem endBurst_queues (b : Burst) (s : State) : KeepsQueues s (endBurst b s) := by
  unfold endBurst
  extract_lets s1 s2 s3 s4
  have h2 : KeepsQueues s s2 := by
    unfold s2
    split <;> exact .of_frame (by simp [s1])
  have h3 : KeepsQueues s s3 := (h2.trans (endWork_queues b.atEnd s2)).then_vote
  have h4 : KeepsQueues s s4 := by
    unfold s4
    split
    · exact h3.trans (fillGoesOn_queues s3)
    · exact h3
  exact h4.frame (by simp)

/-! Deliveries (R92, R102, R112, R121, R132 to R152). -/

theorem arrive_queues {p : PortId} {f : Frame} {rest : List Frame} {s : State} (h : (getPort s p).received = f :: rest)
    (l : Lane) : KeepsQueues s (arrive p rest l s) := by
  have htake : KeepsQueues s (setPort s p { getPort s p with received := rest }) :=
    (KeepsQueues.refl s).then_setPort p fun ⟨hcontrol, hbulk, hreceived, herrors⟩ =>
      ⟨hcontrol, hbulk, by rw [h] at hreceived; exact Nat.le_of_succ_le hreceived, herrors⟩
  exact htake.frame (by simp [arrive])

theorem excludeByState_queues (l : Lane) (x : LaneState) (w : Word) (s : State) :
    KeepsQueues s (excludeByState l x w s) := by
  unfold excludeByState
  split
  · exact (excludePeer_queues l s).then_reportExcluded ..
  · exact .refl s

theorem takeSignature_queues (l : Lane) (c : Word) (f : PeerFrame) (s : State) :
    KeepsQueues s (takeSignature l c f s) := by
  unfold takeSignature
  split
  · exact .of_frame (by simp)
  · exact .of_frame (by simp)
  · exact (KeepsQueues.refl s).then_report ..
  · unfold reportPeerLate
    split
    · exact (KeepsQueues.refl s).then_report ..
    · exact .refl s

theorem discover_queues (x : LaneState) (b : Bool) (s : State) : KeepsQueues s (discover x b s) := by
  unfold discover
  split
  · exact hearMember_queues s
  · exact .refl s

theorem signatureArrives_queues (l : Lane) (c : Word) (f : PeerFrame) (s : State) :
    KeepsQueues s (signatureArrives l c f s) := by
  unfold signatureArrives
  extract_lets s1 partner s2
  have h1 : KeepsQueues s s1 := .of_frame (by simp [s1])
  have h2 : KeepsQueues s s2 := by
    unfold s2
    split
    · exact ((h1.trans (excludeByState_queues ..)).trans (takeSignature_queues ..)).then_vote
    · exact h1
  exact h2.trans (discover_queues ..)

theorem stateArrives_queues (l : Lane) (x : LaneState) (w : Word) (s : State) :
    KeepsQueues s (stateArrives l x w s) :=
  .trans (t := hear l x s) (.of_frame (by simp))
    ((excludeByState_queues l x w (hear l x s)).then_vote.trans (discover_queues ..))

theorem noticeArrives_queues (l : Lane) (w : Word) (s : State) : KeepsQueues s (noticeArrives l w s) := by
  unfold noticeArrives
  split
  · exact .refl s
  · exact .then_vote (.of_frame (by simp))

theorem acceptJoin_queues (p : PortId) (l : Lane) (n : Nat) (s : State) : KeepsQueues s (acceptJoin p l n s) := by
  unfold acceptJoin
  extract_lets s1 _ _ s2 s3
  have h1 : KeepsQueues s s1 := (KeepsQueues.refl s).then_offerControl ..
  have h3 : KeepsQueues s s3 := h1.frame (by simp [s3, s2, standJoining, apply_ite])
  exact (h3.then_report ..).then_vote

theorem joinArrives_queues (p : PortId) (l : Lane) (n : Nat) (x : Pair) (s : State) :
    KeepsQueues s (joinArrives p l n x s) := by
  unfold joinArrives
  split
  · exact (KeepsQueues.refl s).then_offerControl ..
  · exact (endServing_queues ..).trans (acceptJoin_queues ..)
  · exact acceptJoin_queues ..

theorem askRepair_queues (b : Nat) (l : Lane) (o : Bool) (s : State) : KeepsQueues s (askRepair b l o s) :=
  .then_offerTo (.of_frame (by simp)) ..

theorem failRepair_queues (b : Nat) (last : Option Lane) (reason : RepairReason) (s : State) :
    KeepsQueues s (failRepair b last reason s) := .then_report (.of_frame (by simp)) ..

theorem repairNext_queues (r : Repair) (reason : RepairReason) (s : State) : KeepsQueues s (repairNext r reason s) := by
  unfold repairNext
  split
  · exact askRepair_queues ..
  · exact failRepair_queues ..

theorem refuseArrives_queues (l : Lane) (x : RefuseSubject) (r : RefuseReason) (s : State) :
    KeepsQueues s (refuseArrives l x r s) := by
  unfold refuseArrives
  split
  · split
    · exact askOther_queues ..
    · exact .refl s
  · split
    · split
      · exact repairNext_queues ..
      · exact .refl s
    · exact .refl s

theorem KeepsQueues.then_offerNaks {s t : State} (h : KeepsQueues s t) (p : PortId) (n : Nat) (bs : List Nat) :
    KeepsQueues s (offerNaks p n bs t) := by
  induction bs generalizing t with
  | nil => exact h
  | cons b bs ih => exact ih (h.then_offerControl ..)

theorem checkExpected_queues (p : PortId) (n b : Nat) (s : State) : KeepsQueues s (checkExpected p n b s) := by
  simp only [checkExpected]
  split
  case h_1 e _ =>
    split
    · exact .refl s
    · exact ((KeepsQueues.refl s).then_offerNaks p n (skippedBlocks s e b)).frame (by simp)
  case h_2 => exact .refl s

theorem blockArrives_queues (p : PortId) (l : Lane) (n b : Nat) (ws : List Word) (s : State) :
    KeepsQueues s (blockArrives p l n b ws s) := by
  simp only [blockArrives]
  split
  · exact (checkExpected_queues p n b s).frame (by simp)
  · exact .refl s

theorem admittedArrives_queues (l : Lane) (n : Nat) (w : Word) (s : State) :
    KeepsQueues s (admittedArrives l n w s) := by
  unfold admittedArrives offerNotice
  split
  case isFalse => exact .refl s
  case isTrue =>
    have hmember : KeepsQueues s (memberByFrame l (w + 1) (endServing .admitted none none s)) :=
      (endServing_queues .admitted none none s).frame (by simp)
    split
    · exact (hmember.then_offerTo ..).then_vote
    · exact hmember.then_vote

theorem mismatchArrives_queues (l : Lane) (n k : Nat) (s : State) : KeepsQueues s (mismatchArrives l n k s) := by
  unfold mismatchArrives
  split
  · exact (endServing_queues ..).then_vote
  · exact .refl s

theorem abandonArrives_queues (l : Lane) (n : Nat) (c : Cause) (s : State) :
    KeepsQueues s (abandonArrives l n c s) := by
  unfold abandonArrives
  split
  · split
    · exact failAttempt_queues ..
    · exact .refl s
  · split
    · exact leave_queues ..
    · split
      · exact (endServing_queues ..).then_vote
      · exact .refl s
  · exact .refl s

theorem fetchArrives_queues (p : PortId) (b : Nat) (s : State) : KeepsQueues s (fetchArrives p b s) := by
  unfold fetchArrives
  split
  · split
    · exact .of_frame ⟨rfl, rfl, rfl⟩
    · exact (KeepsQueues.refl s).then_offerControl ..
  · exact (KeepsQueues.refl s).then_offerControl ..

theorem acceptArrives_queues (l : Lane) (n : Nat) (s : State) : KeepsQueues s (acceptArrives l n s) :=
  .of_frame (by simp)

theorem nakArrives_queues (l : Lane) (n b : Nat) (s : State) : KeepsQueues s (nakArrives l n b s) :=
  .of_frame (by simp)

theorem admitArrives_queues (l : Lane) (n : Nat) (x : Snapshot) (s : State) : KeepsQueues s (admitArrives l n x s) :=
  .of_frame (by simp)

theorem fetchedArrives_queues (l : Lane) (b : Nat) (ws : List Word) (s : State) :
    KeepsQueues s (fetchedArrives l b ws s) := .of_frame (by simp)

/-! The other commands. -/

theorem silentInRequest_queues (s : State) : KeepsQueues s (silentInRequest s) := by
  unfold silentInRequest
  refine .trans ?_ (askOther_queues ..)
  split
  · exact (KeepsQueues.refl s).then_offerTo ..
  · exact .refl s

theorem progressExpires_queues (s : State) : KeepsQueues s (progressExpires s) := by
  unfold progressExpires
  split
  · exact silentInRequest_queues s
  · exact failAttempt_queues ..
  · exact failAttempt_queues ..
  · split
    · exact (endServing_queues ..).then_vote
    · exact .refl s

theorem holdExpires_queues (s : State) : KeepsQueues s (holdExpires s) := by
  unfold holdExpires
  split
  · simp only [holdRunsOut]
    split
    · exact .then_vote (.trans (.of_frame (by simp)) (endServing_queues ..))
    · exact .of_frame ⟨rfl, rfl, rfl⟩
  · exact (endServing_queues ..).then_vote
  · exact .refl s

theorem verifyAdmit_queues (x : Snapshot) (s : State) : KeepsQueues s (verifyAdmit x s) := by
  unfold verifyAdmit
  split
  · exact admission_queues ..
  · unfold mismatchFound
    refine .trans ?_ (failAttempt_queues ..)
    split
    · exact (KeepsQueues.refl s).then_offerTo ..
    · exact .refl s

theorem takeMark_queues (s : State) : KeepsQueues s (takeMark s) := by
  have hclose : KeepsQueues s (closeEarlier (raiseCounter s)) := by
    refine .trans (t := raiseCounter s) (.of_frame (by simp)) ?_
    unfold closeEarlier
    split
    · exact castVote_queues ..
    · exact .refl _
  have hvote (t : State) : KeepsQueues t (voteOrWait t) := by
    unfold voteOrWait
    split
    · split
      · exact castVote_queues ..
      · exact .of_frame ⟨rfl, rfl, rfl⟩
    · exact .refl t
  simp only [takeMark]
  split
  · have hmark : KeepsQueues s (markEntry (closeEarlier (raiseCounter s))) := hclose.frame (by simp)
    have hvoted := KeepsQueues.trans (t := sendSignature (markEntry (closeEarlier (raiseCounter s))))
      (hmark.then_offerBoth _) (hvote _)
    exact hvoted.frame (by simp [completeMark])
  · exact hclose

theorem retryExpires_queues (s : State) : KeepsQueues s (retryExpires s) := by
  unfold retryExpires
  split
  · exact .of_frame ⟨rfl, rfl, rfl⟩
  · exact .trans (.of_frame (by simp)) (enterJoining_queues ..)

theorem takeAccess_queues (x : Access) (s : State) : KeepsQueues s (takeAccess x s) := by
  unfold takeAccess
  split
  · exact refuseAccess_queues ..
  · exact .of_frame ⟨rfl, rfl, rfl⟩

/-- A COPY request reserves a slot that is free (R142). -/
theorem copyDue_bulkFree {s : State} {j : CopyJob} (h : copyDue s = some j) :
    bulkFree (getPort s (CopyJob.port j)) = true := by
  unfold copyDue at h
  split at h
  · cases h
  split at h
  case h_1 hx => cases h; exact List.find?_some (p := fun x : PortId × Nat => bulkFree (getPort s x.1)) hx
  case h_2 =>
    split at h
    · split at h
      · split at h
        · cases h; assumption
        · cases h
      · cases h
    · cases h

theorem copyRequest_queues {s : State} {j : CopyJob} (h : copyDue s = some j) : KeepsQueues s
    (place .copy (reserveSlot (CopyJob.port j) { s with copy := { s.copy with job := some j } })) := by
  have hjob : KeepsQueues s { s with copy := { s.copy with job := some j } } := .of_frame (by simp)
  have hfree := copyDue_bulkFree h
  have hreserved := hjob.then_reserveSlot (p := CopyJob.port j)
    (by cases hp : CopyJob.port j <;> simpa [hp] using hfree)
  exact hreserved.frame (by simp)

theorem acceptFrame_queues (p : PortId) (k n : Byte) (f : Frame) (s : State) : KeepsQueues s (acceptFrame p k n f s) := by
  unfold acceptFrame
  split
  case isTrue hroom =>
    refine (KeepsQueues.refl s).then_setPort p fun ⟨hcontrol, hbulk, _, herrors⟩ => ⟨hcontrol, hbulk, ?_, herrors⟩
    rw [List.length_append]
    exact hroom
  case isFalse => exact (KeepsQueues.refl s).then_linkError ..

theorem frameWhole_queues (p : PortId) (k : FrameKind) (n : Byte) (xs ys : List Byte) (c : Nat) (s : State) :
    KeepsQueues s (frameWhole p k n xs ys c s) := by
  simp only [frameWhole]
  split
  · split
    · exact acceptFrame_queues ..
    · exact (KeepsQueues.refl s).then_linkError ..
  · exact (KeepsQueues.refl s).then_linkError ..

/-- A change of a port that leaves its queues and its error counts. -/
theorem setPort_queues (s : State) (p : PortId) {v : LinkPort} (h : v.control = (getPort s p).control ∧
    v.bulk = (getPort s p).bulk ∧ v.reserved = (getPort s p).reserved ∧ v.received = (getPort s p).received ∧
    v.errors = (getPort s p).errors) : KeepsQueues s (setPort s p v) := by
  obtain ⟨hcontrol, hbulk, hreserved, hreceived, herrors⟩ := h
  refine (KeepsQueues.refl s).then_setPort p fun hp => ?_
  unfold PortLaw at *
  rwa [hcontrol, hbulk, hreserved, hreceived, herrors]

theorem hunt_queues (p : PortId) (s : State) : KeepsQueues s (hunt p s) :=
  setPort_queues s p ⟨rfl, rfl, rfl, rfl, rfl⟩

theorem setTransmitter_queues (p : PortId) (x : Transmitter) (s : State) :
    KeepsQueues s (setPort s p { getPort s p with transmitter := x }) := setPort_queues s p ⟨rfl, rfl, rfl, rfl, rfl⟩

theorem acceptImage_queues (im : Image) (s : State) : KeepsQueues s (acceptImage im s) := by
  refine .trans (t := loadTables im s) ?_ (.of_frame (by simp [acceptImage]))
  exact ⟨id, fun ⟨h1, h2⟩ => ⟨h1, h2⟩⟩

theorem offerAdmit_queues (p : PortId) (n : Nat) (x : Snapshot) (s : State) : KeepsQueues s (offerAdmit p n x s) := by
  have h := (KeepsQueues.refl s).then_offerBulk p (.admitSnapshot n x.cycle x.view x.pairs)
  exact h.frame (by simp [offerAdmit])

theorem effect_queues {c : Instr} {s u : State} (h : Effect c s u) : KeepsQueues s u := by
  cases h with
  | imageAccepted => exact acceptImage_queues ..
  | accessTaken => exact takeAccess_queues ..
  | burstEnd => exact endBurst_queues ..
  | copyRequest h => exact copyRequest_queues h
  | ownMark => exact takeMark_queues s
  | voteWindowExpiry => exact castVote_queues ..
  | cycleSupervisionExpiry => exact leave_queues ..
  | formationWindowExpiry => exact KeepsQueues.then_offerState (.of_frame (by simp))
  | retryTimerExpiry => exact retryExpires_queues s
  | restoreEdge => exact .trans (.of_frame (by simp)) (enterJoining_queues ..)
  | supplyLowActive => exact .trans (.of_frame (by simp)) (failAttempt_queues ..)
  | supplyLowRetry => exact .trans (.of_frame (by simp)) (enterJoining_queues ..)
  | progressTimerExpiry => exact .trans (.of_frame (by simp)) (progressExpires_queues _)
  | holdTimerExpiry => exact .trans (.of_frame (by simp)) (holdExpires_queues _)
  | repairTimerExpiry => exact repairNext_queues ..
  | admitOffer => exact offerAdmit_queues ..
  | admitVerify => exact verifyAdmit_queues ..
  | repairStart =>
    unfold startRepair
    split
    · exact askRepair_queues ..
    · exact failRepair_queues ..
  | frameReceived => exact (hunt_queues ..).trans (frameWhole_queues ..)
  | frameEnvelopeError => exact (hunt_queues ..).then_linkError ..
  | transmitFrameEnd => exact setTransmitter_queues ..
  | frameStart => exact setPort_queues _ _ ⟨rfl, rfl, rfl, rfl, rfl⟩
  | gapEnd => exact (setTransmitter_queues ..).then_startPort _
  | signatureDelivery h => exact (arrive_queues h _).trans (signatureArrives_queues ..)
  | stateDelivery h => exact (arrive_queues h _).trans (stateArrives_queues ..)
  | noticeDelivery h => exact (arrive_queues h _).trans (noticeArrives_queues ..)
  | joinDelivery h => exact (arrive_queues h _).trans (joinArrives_queues ..)
  | acceptDelivery h => exact (arrive_queues h _).trans (acceptArrives_queues ..)
  | refuseDelivery h => exact (arrive_queues h _).trans (refuseArrives_queues ..)
  | blockDelivery h => exact (arrive_queues h _).trans (blockArrives_queues ..)
  | nakDelivery h => exact (arrive_queues h _).trans (nakArrives_queues ..)
  | admitDelivery h => exact (arrive_queues h _).trans (admitArrives_queues ..)
  | admittedDelivery h => exact (arrive_queues h _).trans (admittedArrives_queues ..)
  | mismatchDelivery h => exact (arrive_queues h _).trans (mismatchArrives_queues ..)
  | abandonDelivery h => exact (arrive_queues h _).trans (abandonArrives_queues ..)
  | fetchDelivery h => exact (arrive_queues h _).trans (fetchArrives_queues ..)
  | fetchedDelivery h => exact (arrive_queues h _).trans (fetchedArrives_queues ..)
  | _ => exact .of_frame (by simp)

/-- A reset empties every table and queue (R38, R85, R162). -/
theorem exec_reset_empties {c : Instr} {s t : State} (h : exec c s = .next t) (hc : isReset c = true) :
    TableLaw t ∧ ReportLaw t ∧ LinkLaw t := by
  have hport : PortLaw .afterReset := by simp [PortLaw, LinkPort.afterReset]
  cases c with
  | powerReset | pinReset =>
    cases h
    exact ⟨⟨Nat.zero_le _, Nat.zero_le _, nofun, List.nodup_nil⟩, Nat.zero_le _, hport, hport⟩
  | _ => cases hc

theorem exec_depths {c : Instr} {s t : State} (h : exec c s = .next t) :
    (TableLaw s → TableLaw t) ∧ KeepsQueues s t := by
  cases hc : isReset c with
  | true =>
    obtain ⟨htables, hreports, hlinks⟩ := exec_reset_empties h hc
    exact ⟨fun _ => htables, fun _ => hreports, fun _ => hlinks⟩
  | false =>
    obtain rfl | ⟨u, rfl, hu⟩ := exec_cases h hc
    · exact ⟨id, .refl _⟩
    · exact ⟨fun ht => settle_tableLaw (ht.congr (effect_checker hu)), (effect_queues hu).trans (settle_queues u)⟩

theorem tick_queues (s : State) : KeepsQueues s (tick s) := ⟨id, id⟩

/-- Settles O56: each effect keeps the queues and leaves the tables, and each grant keeps both. -/
theorem everyStepKeepsTheTables : Obligations.EveryStepKeepsTheTables := by
  intro s t h
  suffices hkeeps : (TableLaw s → TableLaw t) ∧ KeepsQueues s t from
    ⟨fun htables hreports => ⟨hkeeps.1 htables, hkeeps.2.reports hreports⟩, hkeeps.2.links⟩
  unfold step at h
  split at h
  case h_1 c rest _ =>
    obtain ⟨htables, hqueues⟩ := exec_depths h
    exact ⟨fun ht => htables (ht.congr rfl), .trans (.of_frame (by simp)) hqueues⟩
  case h_2 =>
    cases h
    unfold idle
    split
    · exact ⟨id, .of_frame (by simp)⟩
    · exact ⟨id, tick_queues s⟩

end Sys2Proof.Machine
end

section
/-! Check codes and syndromes (R17, R18, R19, R171). -/

namespace Sys2Proof.Machine

/-! The exclusive-or of columns. -/

theorem columnSum_zero (cs : List Byte) : columnSum cs 0 = 0 := by
  induction cs with
  | nil => rfl
  | cons c cs ih => simp [columnSum, ih]

/-- Column `i` belongs to bit `i`. -/
theorem columnSum_eq_foldl (cs : List Byte) (n : Nat) : columnSum cs n =
    ((List.range cs.length).map (fun i => if n.testBit i then cs.getD i 0 else 0)).foldl (· ^^^ ·) 0 := by
  induction cs generalizing n with
  | nil => rfl
  | cons c cs ih =>
    rw [columnSum, ih, List.length_cons, List.range_succ_eq_map, List.map_cons, List.map_map, List.foldl_cons,
      BitVec.xor_comm 0, List.foldl_assoc]
    congr 1
    · simp [Nat.testBit_zero]
    · congr 1
      refine List.map_congr_left fun i _ => ?_
      simp [Nat.testBit_succ]

/-- The exclusive-or of columns is additive in the number. -/
theorem columnSum_xor (cs : List Byte) (m n : Nat) :
    columnSum cs (m ^^^ n) = columnSum cs m ^^^ columnSum cs n := by
  induction cs generalizing m n with
  | nil => simp [columnSum]
  | cons c cs ih =>
    have hbit : (if (m ^^^ n) % 2 = 1 then c else 0) = (if m % 2 = 1 then c else 0) ^^^ (if n % 2 = 1 then c else 0) := by
      rw [if_congr Nat.xor_mod_two_eq_one rfl rfl]
      by_cases hm : m % 2 = 1 <;> by_cases hn : n % 2 = 1 <;> simp [hm, hn]
    simp only [columnSum, Nat.xor_div_two, ih, hbit]
    ac_rfl

theorem columnSum_two_pow (cs : List Byte) (i : Nat) : columnSum cs (2 ^ i) = cs.getD i 0 := by
  induction cs generalizing i with
  | nil => rfl
  | cons c cs ih =>
    cases i with
    | zero => simp [columnSum, columnSum_zero]
    | succ i => simp [columnSum, Nat.pow_succ, ih]

/-! The table of R171. -/

theorem columns_nodup : (dataColumns ++ checkColumns ++ addressValues).Nodup := by decide

theorem zero_not_mem_columns : (0 : Byte) ∉ dataColumns ++ checkColumns ++ addressValues := by decide

/-- The number of one bits of a value. -/
def weight (c : Byte) : Nat := (List.range 8).countP (fun i => c.getLsbD i)

theorem weight_column_odd : ∀ c ∈ dataColumns ++ checkColumns, weight c % 2 = 1 := by decide

theorem weight_address_even : ∀ c ∈ addressValues, weight c % 2 = 0 := by decide

theorem countP_xor_mod_two (p q : Nat → Bool) (l : List Nat) :
    l.countP (fun i => p i ^^ q i) % 2 = (l.countP p + l.countP q) % 2 := by
  induction l with
  | nil => rfl
  | cons i l ih =>
    simp only [List.countP_cons]
    cases p i <;> cases q i <;> simp <;> omega

theorem weight_xor (c d : Byte) : weight (c ^^^ d) % 2 = (weight c + weight d) % 2 := by
  simp only [weight, BitVec.getLsbD_xor]
  exact countP_xor_mod_two ..

/-- The exclusive-or of two different columns of data or check bits is neither zero nor such a column (R18). -/
theorem xor_columns {c d : Byte} (hc : c ∈ dataColumns ++ checkColumns) (hd : d ∈ dataColumns ++ checkColumns)
    (hne : c ≠ d) : c ^^^ d ≠ 0 ∧ c ^^^ d ∉ dataColumns ++ checkColumns := by
  refine ⟨fun h => hne (BitVec.xor_eq_zero_iff.1 h), fun h => ?_⟩
  have := weight_xor c d
  have := weight_column_odd _ hc
  have := weight_column_odd _ hd
  have := weight_column_odd _ h
  omega

/-! The outcome of a read (R18, R19). -/

theorem columnIndex_of_getElem? {cs : List Byte} (h : cs.Nodup) {i : Nat} {v : Byte} (hi : cs[i]? = some v) :
    columnIndex cs v = some i := by
  obtain ⟨hlt, rfl⟩ := List.getElem?_eq_some_iff.1 hi
  refine List.findIdx?_eq_some_iff_getElem.2 ⟨hlt, by simp, fun j hj => ?_⟩
  have hne : cs[j] ≠ cs[i] := fun he => absurd ((h.getElem_inj_iff).1 he) (by omega)
  simpa using hne

theorem columnIndex_of_not_mem {cs : List Byte} {v : Byte} (h : v ∉ cs) : columnIndex cs v = none := by
  refine List.findIdx?_eq_none_iff.2 fun c hc => ?_
  simpa using fun he : c = v => h (he ▸ hc)

section
variable {lines address : Nat} {cell : SramCell}

theorem classifyCell_of_zero (h : syndrome lines address cell = 0) :
    classifyCell lines address cell = .clean (cellData cell) := by
  simp [classifyCell, h]

theorem classifyCell_of_data {i : Nat} (h : dataColumns[i]? = some (syndrome lines address cell)) :
    classifyCell lines address cell =
      .corrected (cellData cell ^^^ (1#32 <<< i)) (syndrome lines address cell) i := by
  have hmem := List.mem_of_getElem? h
  have hne : syndrome lines address cell ≠ 0 := fun h0 => zero_not_mem_columns (by simp [← h0, hmem])
  simp only [classifyCell, if_neg hne, columnIndex_of_getElem? (by decide) h]

theorem classifyCell_of_check {i : Nat} (h : checkColumns[i]? = some (syndrome lines address cell)) :
    classifyCell lines address cell = .corrected (cellData cell) (syndrome lines address cell) (32 + i) := by
  have hmem := List.mem_of_getElem? h
  have hne : syndrome lines address cell ≠ 0 := fun h0 => zero_not_mem_columns (by simp [← h0, hmem])
  have hdata : syndrome lines address cell ∉ dataColumns := fun hd =>
    (List.disjoint_of_nodup_append columns_nodup.of_append_left) hd hmem
  simp only [classifyCell, if_neg hne, columnIndex_of_not_mem hdata, columnIndex_of_getElem? (by decide) h]

/-- Beside the columns the address lines decide. -/
theorem classifyCell_of_not_column (hne : syndrome lines address cell ≠ 0)
    (hcol : syndrome lines address cell ∉ dataColumns ++ checkColumns) : classifyCell lines address cell =
      (columnIndex (addressValues.take lines) (syndrome lines address cell)).elim
        (.uncorrectable (cellData cell) (syndrome lines address cell))
        (.address (cellData cell) (syndrome lines address cell)) := by
  obtain ⟨hdata, hcheck⟩ := not_or.1 (List.mem_append.not.1 hcol)
  simp only [classifyCell, if_neg hne, columnIndex_of_not_mem hdata, columnIndex_of_not_mem hcheck]
  cases columnIndex (addressValues.take lines) (syndrome lines address cell) <;> rfl

theorem classifyCell_of_line {l : Nat} (hl : l < lines) (h : addressValues[l]? = some (syndrome lines address cell)) :
    classifyCell lines address cell = .address (cellData cell) (syndrome lines address cell) l := by
  have hmem := List.mem_of_getElem? h
  have htake : (addressValues.take lines)[l]? = some (syndrome lines address cell) := by
    rw [List.getElem?_take_of_lt hl, h]
  have hnd : (addressValues.take lines).Nodup := columns_nodup.of_append_right.sublist (List.take_sublist ..)
  rw [classifyCell_of_not_column (fun h0 => zero_not_mem_columns (by simp [← h0, hmem]))
    fun hcol => (List.disjoint_of_nodup_append columns_nodup) hcol hmem, columnIndex_of_getElem? hnd htake]
  rfl

theorem classifyCell_of_none (hne : syndrome lines address cell ≠ 0) (hdata : syndrome lines address cell ∉ dataColumns)
    (hcheck : syndrome lines address cell ∉ checkColumns)
    (hline : syndrome lines address cell ∉ addressValues.take lines) :
    classifyCell lines address cell = .uncorrectable (cellData cell) (syndrome lines address cell) := by
  rw [classifyCell_of_not_column hne (by simp [hdata, hcheck]), columnIndex_of_not_mem hline]
  rfl

end

/-! Wrong bits and wrong lines. -/

theorem cellData_xor (x y : SramCell) : cellData (x ^^^ y) = cellData x ^^^ cellData y := BitVec.setWidth_xor

theorem cellCheck_xor (x y : SramCell) : cellCheck (x ^^^ y) = cellCheck x ^^^ cellCheck y := by
  rw [cellCheck, BitVec.ushiftRight_xor_distrib, BitVec.setWidth_xor]; rfl

/-- What wrong bits add to the syndrome. -/
def errorSyndrome (e : SramCell) : Byte := columnSum dataColumns (cellData e).toNat ^^^ cellCheck e

theorem syndrome_xor (lines address : Nat) (cell e : SramCell) :
    syndrome lines address (cell ^^^ e) = syndrome lines address cell ^^^ errorSyndrome e := by
  simp only [syndrome, checkCode, errorSyndrome, cellData_xor, cellCheck_xor, BitVec.toNat_xor, columnSum_xor]
  ac_rfl

/-- One wrong bit adds its column. -/
theorem errorSyndrome_bit : ∀ i < 40, errorSyndrome (1#40 <<< i) = (dataColumns ++ checkColumns).getD i 0 := by decide

theorem cellData_bit : ∀ i < 40, cellData (1#40 <<< i) = if i < 32 then 1#32 <<< i else 0 := by decide

theorem syndrome_encodeCell (lines address : Nat) (v : Word) :
    syndrome lines address (encodeCell lines address v) = 0 := by
  simp [syndrome, cellData_encodeCell, cellCheck_encodeCell]

theorem syndrome_bit {i : Nat} (hi : i < 40) (lines address : Nat) (v : Word) :
    syndrome lines address (encodeCell lines address v ^^^ (1#40 <<< i)) = (dataColumns ++ checkColumns).getD i 0 := by
  rw [syndrome_xor, syndrome_encodeCell, errorSyndrome_bit i hi]
  exact BitVec.zero_xor

/-- One wrong bit is corrected (R18, R19). -/
theorem classifyCell_bit {i : Nat} (hi : i < 40) (lines address : Nat) (v : Word) :
    classifyCell lines address (encodeCell lines address v ^^^ (1#40 <<< i)) =
      .corrected v ((dataColumns ++ checkColumns).getD i 0) i := by
  have hsyn := syndrome_bit hi lines address v
  have hvalue : cellData (encodeCell lines address v ^^^ (1#40 <<< i)) = v ^^^ if i < 32 then 1#32 <<< i else 0 := by
    rw [cellData_xor, cellData_encodeCell, cellData_bit i hi]
  have hcol : (dataColumns ++ checkColumns)[i]? = some ((dataColumns ++ checkColumns).getD i 0) := by
    rw [List.getD_eq_getElem?_getD, List.getElem?_eq_getElem (show i < (dataColumns ++ checkColumns).length from hi)]; rfl
  by_cases hdata : i < 32
  · rw [List.getElem?_append_left (show i < dataColumns.length from hdata)] at hcol
    rw [classifyCell_of_data (by rw [hsyn]; exact hcol), hsyn, hvalue, if_pos hdata, BitVec.xor_assoc, BitVec.xor_self,
      BitVec.xor_zero]
  · rw [List.getElem?_append_right (show dataColumns.length ≤ i from Nat.not_lt.1 hdata)] at hcol
    rw [classifyCell_of_check (by rw [hsyn]; exact hcol), hsyn, hvalue, if_neg hdata, show v ^^^ 0 = v from BitVec.xor_zero,
      show 32 + (i - dataColumns.length) = i from Nat.add_sub_of_le (Nat.not_lt.1 hdata)]

/-- Two wrong bits are never taken for one (R18). -/
theorem classifyCell_two_bits {i j : Nat} (hij : i < j) (hj : j < 40) (lines address : Nat) (v : Word) :
    (∃ raw syn, classifyCell lines address (encodeCell lines address v ^^^ (1#40 <<< i) ^^^ (1#40 <<< j)) =
        .uncorrectable raw syn) ∨
      ∃ raw syn l, classifyCell lines address (encodeCell lines address v ^^^ (1#40 <<< i) ^^^ (1#40 <<< j)) =
        .address raw syn l := by
  have hcol (k : Nat) (hk : k < 40) : (dataColumns ++ checkColumns).getD k 0 = (dataColumns ++ checkColumns)[k]'hk :=
    List.getD_eq_getElem _ _ _
  have hne : (dataColumns ++ checkColumns).getD i 0 ≠ (dataColumns ++ checkColumns).getD j 0 := by
    rw [hcol i (by omega), hcol j hj]
    exact fun he => absurd (columns_nodup.of_append_left.getElem_inj_iff.1 he) (by omega)
  obtain ⟨hzero, hnot⟩ := xor_columns (by rw [hcol i (by omega)]; exact List.getElem_mem _)
    (by rw [hcol j hj]; exact List.getElem_mem _) hne
  have hsyn : syndrome lines address (encodeCell lines address v ^^^ (1#40 <<< i) ^^^ (1#40 <<< j)) =
      (dataColumns ++ checkColumns).getD i 0 ^^^ (dataColumns ++ checkColumns).getD j 0 := by
    rw [syndrome_xor, syndrome_bit (by omega), errorSyndrome_bit j hj]
  rw [← hsyn] at hzero hnot
  rw [classifyCell_of_not_column hzero hnot]
  cases columnIndex (addressValues.take lines) _ with
  | some l => exact .inr ⟨_, _, _, rfl⟩
  | none => exact .inl ⟨_, _, rfl⟩

/-- An address line that differs adds its value to the check code (R17). -/
theorem checkCode_line {lines l : Nat} (hl : l < lines) (address : Nat) (v : Word) :
    checkCode lines (address ^^^ 2 ^ l) v = checkCode lines address v ^^^ addressValues.getD l 0 := by
  have hvalue : (addressValues.take lines).getD l 0 = addressValues.getD l 0 := by
    simp [List.getD_eq_getElem?_getD, List.getElem?_take_of_lt hl]
  rw [checkCode, checkCode, columnSum_xor, columnSum_two_pow, hvalue, BitVec.xor_assoc]

/-- Settles O9: the wrong line adds its address value to the syndrome, which is zero else. -/
theorem wrongAddressLineIsSeen : Obligations.WrongAddressLineIsSeen := by
  intro lines address v l hl hlines _
  have hlen : l < addressValues.length := lt_of_lt_of_le hl hlines
  have hsyn : syndrome lines (address ^^^ 2 ^ l) (encodeCell lines address v) = addressValues.getD l 0 := by
    rw [syndrome, cellData_encodeCell, cellCheck_encodeCell, checkCode_line hl, BitVec.xor_comm, ← BitVec.xor_assoc,
      BitVec.xor_self, BitVec.zero_xor]
  have hplace : addressValues[l]? = some (addressValues.getD l 0) := by
    rw [List.getElem?_eq_getElem hlen, List.getD_eq_getElem _ _ hlen]
  rw [classifyCell_of_line hl (by rw [hsyn]; exact hplace), hsyn, cellData_encodeCell]

/-- Settles O8: the outcome by the syndrome's place in the table, and what wrong bits add to it. -/
theorem wrongBitsAreClassified : Obligations.WrongBitsAreClassified := by
  refine ⟨weight_column_odd, weight_address_even, columns_nodup, zero_not_mem_columns, ?_, wrongAddressLineIsSeen,
    fun lines address v i hi => ⟨classifyCell_bit hi lines address v, fun j hij hj => classifyCell_two_bits hij hj ..⟩⟩
  rintro lines address cell _ _ rfl rfl
  exact ⟨classifyCell_of_zero, fun _ => classifyCell_of_data, fun _ => classifyCell_of_check,
    fun _ => classifyCell_of_line, classifyCell_of_none⟩

/-- Settles O7: column after column, and the syndrome of a stored word is zero. -/
theorem storedWordReadsClean : Obligations.StoredWordReadsClean := by
  refine ⟨fun lines address v hlines => ?_, classifyCell_encodeCell⟩
  have hlen : (addressValues.take lines).length = lines := by
    rw [List.length_take]; exact Nat.min_eq_left hlines
  rw [checkCode, columnSum_eq_foldl, columnSum_eq_foldl, hlen]
  congr 2
  refine List.map_congr_left fun l hl => ?_
  simp [List.getD_eq_getElem?_getD, List.getElem?_take_of_lt (List.mem_range.1 hl)]

end Sys2Proof.Machine
end

section
/-! Resets and the laws at reset (R38, R53, R153). -/

namespace Sys2Proof.Machine

/-- Both link ports stand at their reset value (R85). -/
theorem getPort_afterReset (k : ResetKind) (straps : BitVec 2) (low : Bool) (m : List (Nat × SramCell))
    (x : LaneState) (c : Option Cause) (b : Bool) (q : List Instr) (p : PortId) :
    getPort (State.afterReset k straps low m x c b q) p = LinkPort.afterReset := by cases p <;> rfl

theorem cutSram_of_free {s : State} (h : s.port.burst = none) (n : Nat) : cutSram n s = s.sram := by
  simp only [cutSram, h]

/-- Settles O3: both resets leave `State.afterReset`, whose fields are read off. -/
theorem resetsEnterStarting : Obligations.ResetsEnterStarting := by
  intro s straps written
  refine ⟨_, _, rfl, rfl, rfl, rfl, rfl, rfl, rfl, rfl, rfl, fun h => cutSram_of_free h written, rfl, rfl,
    fun v hv => ?_⟩
  obtain ⟨k, m, x, c, b, rfl⟩ : ∃ k m x c b, v = State.afterReset k straps s.lines.supplyLow m x c b s.pending := by
    obtain rfl | rfl := hv <;> exact ⟨_, _, _, _, _, rfl⟩
  exact ⟨rfl, rfl, rfl, rfl, rfl, rfl, rfl, getPort_afterReset k straps _ m x c b _, rfl, rfl, rfl, rfl, rfl, rfl⟩

theorem afterReset_portLaw : PortLaw LinkPort.afterReset := by simp [PortLaw, LinkPort.afterReset]

/-- Settles O52: nothing is loaded, queued, served or timed right after power-on. -/
theorem lawsHoldAtReset : Obligations.LawsHoldAtReset := by
  have himage : State.reset.map.image = none := rfl
  have hburst : State.reset.port.burst = none := rfl
  have hlanes : laneCount State.reset = 0 := rfl
  refine ⟨reset_sramCanonical, ?cut, rfl, rfl, ?tables, Nat.zero_le _, ⟨afterReset_portLaw, afterReset_portLaw⟩, ?votes,
    ?mirror, ?serving, ?repairs, ?map, ?pairs, ?start, ?absent⟩
  case cut => simp [CutLaw, hburst]
  case tables => simp [TableLaw, State.reset, State.afterReset]
  case votes => simp [VoteTableLaw, State.reset, State.afterReset]
  case mirror =>
    refine ⟨rfl, fun p => ?_, by simp [State.reset, State.afterReset]⟩
    simp [State.reset, getPort_afterReset, LinkPort.afterReset]
  case serving => simp [ServingLaw, State.reset, State.afterReset]
  case repairs => simp [RepairLaw, State.reset, State.afterReset]
  case map => simp [MapLaw, himage]
  case pairs => simp [PairLaw, State.reset, State.afterReset]
  case start => simp [StartLaw, State.reset, State.afterReset]
  case absent => exact ⟨fun _ => ⟨rfl, rfl⟩, fun h => absurd (hlanes.symm.trans h) (by decide)⟩

end Sys2Proof.Machine
end

section
/-! The dirty queue (R32, R143). -/

namespace Sys2Proof.Machine

/-- Settles O18: by the conditions under which the block is appended. -/
theorem processorWritesMarkBlocksDirty : Obligations.ProcessorWritesMarkBlocksDirty := by
  intro s loc block
  change _ = { s with copy := { s.copy with dirty :=
    if loc.copyable = true ∧ s.copy.serving.isSome = true ∧ block ∉ s.copy.dirty ∧ behindCursor s block = true
    then s.copy.dirty ++ [block] else s.copy.dirty } }
  unfold handToCopyEngine appendDirty
  by_cases hcopy : loc.copyable = true
  · by_cases hmark : s.copy.serving.isSome = true ∧ block ∉ s.copy.dirty ∧ behindCursor s block = true
    · obtain ⟨hserving, hnew, hbehind⟩ := hmark
      simp [hcopy, hserving, hnew, hbehind]
    · have hnot : ¬ (s.copy.serving.isSome && behindCursor s block && !s.copy.dirty.contains block) = true := by
        simpa [and_comm, and_left_comm] using hmark
      rw [if_pos hcopy, if_neg hnot, if_neg fun h => hmark h.2]
  · rw [if_neg hcopy, if_neg fun h => hcopy h.1]

end Sys2Proof.Machine
end

section
/-! Partial processor writes (R22, R28 to R30, R32, R58). -/

namespace Sys2Proof.Machine

/-! The merge of the enabled bytes (R28). -/

/-- The mask of the bits of the enabled bytes. -/
def enabledMask (e : BitVec 4) : Word :=
  (if e.getLsbD 0 then 0x000000FF#32 else 0) ||| (if e.getLsbD 1 then 0x0000FF00#32 else 0) |||
    (if e.getLsbD 2 then 0x00FF0000#32 else 0) ||| (if e.getLsbD 3 then 0xFF000000#32 else 0)

theorem mergeBytes_eq (old new : Word) (e : BitVec 4) :
    mergeBytes old new e = (old &&& ~~~(enabledMask e)) ||| (new &&& enabledMask e) := rfl

theorem enabledMask_getLsbD : ∀ e : BitVec 4, ∀ k < 4, ∀ i < 8, (enabledMask e).getLsbD (8 * k + i) = e.getLsbD k := by
  decide

theorem mergeBytes_getLsbD (old new : Word) (e : BitVec 4) {k i : Nat} (hk : k < 4) (hi : i < 8) :
    (mergeBytes old new e).getLsbD (8 * k + i) =
      if e.getLsbD k = true then new.getLsbD (8 * k + i) else old.getLsbD (8 * k + i) := by
  have hlt : 8 * k + i < 32 := by omega
  rw [mergeBytes_eq, BitVec.getLsbD_or, BitVec.getLsbD_and, BitVec.getLsbD_and, BitVec.getLsbD_not,
    enabledMask_getLsbD e k hk i hi]
  cases e.getLsbD k <;> simp [hlt]

/-! What a merge does (R28, R30, R32). -/

theorem applyDelta_congr {s t : State} (h : t.sig = s.sig ∧ t.patrol = s.patrol) (loc : Located) (a : Nat) (v w : Word) :
    (applyDelta loc a v w t).sig = (applyDelta loc a v w s).sig ∧
      (applyDelta loc a v w t).patrol = (applyDelta loc a v w s).patrol := by
  unfold applyDelta; split <;> simp [h]

theorem procMerge_same (loc : Located) (acc : Access) (old : Word) (s : State) :
    (procMerge loc acc old s).sig = (applyDelta loc acc.word old (mergeBytes old acc.data acc.enables) s).sig ∧
      (procMerge loc acc old s).patrol = (applyDelta loc acc.word old (mergeBytes old acc.data acc.enables) s).patrol ∧
      (procMerge loc acc old s).copy = { s.copy with dirty := (handToCopyEngine loc (blockOf acc.word) s).copy.dirty } := by
  simp only [procMerge, setDueAnswer_frame, handToCopyEngine_frame]
  refine ⟨(applyDelta_congr (by simp) ..).1, (applyDelta_congr (by simp) ..).2, ?_⟩
  rw [handToCopyEngine_copy, handToCopyEngine_dirty_congr (s := s) (by simp)]
  simp

theorem procMerge_burst {loc : Located} {acc : Access} {old : Word} {s : State} {c : Client}
    (h : s.port.burst = some ⟨c, none, .nothing, []⟩) :
    ∃ w, (procMerge loc acc old s).port.burst = some ⟨c, some ⟨none, false⟩, .nothing, w⟩ := by
  obtain ⟨w, hw⟩ := (writeWord_burstGoesOn acc.word (mergeBytes old acc.data acc.enables) { s with through :=
    { s.through with merge := some (mergeBytes old acc.data acc.enables) } }).of_some h
  exact ⟨w, by simp [procMerge, setDueAnswer, hw]⟩

theorem procMerge_reads {loc : Located} {acc : Access} {old : Word} {s : State} (h : sramCanonical s.sram = true) :
    readWord (procMerge loc acc old s) acc.word = .clean (mergeBytes old acc.data acc.enables) := by
  rw [← readWord_writeWord_self (s := { s with through :=
    { s.through with merge := some (mergeBytes old acc.data acc.enables) } }) acc.word _ h]
  exact readWord_of_frame (by simp [procMerge]) _

/-! What a partial write does (R28, R29). -/

/-- Over a good old word the bytes are merged, after a correction is noted (R28). -/
theorem procPartialWrite_of_good {loc : Located} {acc : Access} {old : Word} {s : State}
    (h : readWord s acc.word = .clean old ∨ ∃ y n, readWord s acc.word = .corrected old y n) :
    ∃ u, procPartialWrite loc acc s = procMerge loc acc old u ∧ u.port.burst = s.port.burst ∧
      u.sram = s.sram ∧ u.sig = s.sig ∧ u.patrol = s.patrol ∧ u.copy = s.copy := by
  obtain h | ⟨y, n, h⟩ := h
  · exact ⟨s, by simp [procPartialWrite, h], rfl, rfl, rfl, rfl, rfl⟩
  · exact ⟨noteCorrected .proc loc acc.word old y n s, by simp [procPartialWrite, h], by simp⟩

/-- Over a bad old word the write is refused and the class action follows (R29). -/
theorem procPartialWrite_of_bad {loc : Located} {acc : Access} {raw : Word} {y : Byte} {s : State}
    (h : readWord s acc.word = .uncorrectable raw y ∨ ∃ l, readWord s acc.word = .address raw y l) :
    ∃ u, procPartialWrite loc acc s = setDueAnswer ⟨none, true⟩ (procClassAction loc (blockOf acc.word) u) ∧
      u.port.burst = s.port.burst ∧ u.sram = s.sram ∧ u.checker = s.checker ∧ u.sig = s.sig ∧
      u.patrol = s.patrol ∧ u.copy = s.copy ∧ u.lane = s.lane := by
  obtain h | ⟨l, h⟩ := h
  · exact ⟨reportPartialRefused loc acc 3 (noteUncorrectable .proc loc acc.word y s), by simp only [procPartialWrite, h],
      by simp [reportPartialRefused, noteUncorrectable]⟩
  · exact ⟨reportPartialRefused loc acc 4 (noteAddressFault .proc loc acc.word y l s), by simp only [procPartialWrite, h],
      by simp [reportPartialRefused, noteAddressFault]⟩

/-- A word read is good or bad. -/
theorem readWord_good_or_bad (s : State) (a : Nat) :
    (∃ old, readWord s a = .clean old ∨ ∃ y n, readWord s a = .corrected old y n) ∨
      ∃ raw y, readWord s a = .uncorrectable raw y ∨ ∃ l, readWord s a = .address raw y l := by
  cases readWord s a <;> simp

/-- A partial write changes no more of the signatures, the patrol and the copy engine than this. -/
theorem procPartialWrite_same (loc : Located) (acc : Access) (s : State) :
    (procPartialWrite loc acc s).sig = { s.sig with live := (procPartialWrite loc acc s).sig.live } ∧
      (procPartialWrite loc acc s).patrol =
        { s.patrol with accumulator := (procPartialWrite loc acc s).patrol.accumulator } ∧
      (procPartialWrite loc acc s).copy = { s.copy with
        dirty := (procPartialWrite loc acc s).copy.dirty, repairs := (procPartialWrite loc acc s).copy.repairs } := by
  obtain ⟨old, h⟩ | ⟨raw, y, h⟩ := readWord_good_or_bad s acc.word
  · obtain ⟨u, hu, -, -, usig, upatrol, ucopy⟩ := procPartialWrite_of_good (loc := loc) h
    obtain ⟨msig, mpatrol, mcopy⟩ := procMerge_same loc acc old u
    rw [hu, msig, mpatrol, mcopy, ← usig, ← upatrol, ucopy]
    exact ⟨applyDelta_sig .., applyDelta_patrol .., rfl⟩
  · obtain ⟨u, hu, -, -, -, usig, upatrol, ucopy, -⟩ := procPartialWrite_of_bad (loc := loc) h
    rw [hu]
    simp [procClassAction_copy, usig, upatrol, ucopy]

/-- The burst of a partial write owes an answer. -/
theorem procPartialWrite_burst {loc : Located} {acc : Access} {s : State} {c : Client}
    (h : s.port.burst = some ⟨c, none, .nothing, []⟩) :
    ∃ e w a, (procPartialWrite loc acc s).port.burst = some ⟨c, some a, e, w⟩ := by
  obtain ⟨old, hr⟩ | ⟨raw, y, hr⟩ := readWord_good_or_bad s acc.word
  · obtain ⟨u, hu, uburst, -⟩ := procPartialWrite_of_good (loc := loc) hr
    obtain ⟨w, hw⟩ := procMerge_burst (loc := loc) (acc := acc) (old := old) (uburst.trans h)
    exact ⟨_, w, _, by rw [hu, hw]⟩
  · obtain ⟨u, hu, uburst, -⟩ := procPartialWrite_of_bad (loc := loc) hr
    exact ⟨_, _, _, by rw [hu, setDueAnswer_burst _ (procClassAction_burst (uburst.trans h))]⟩

theorem procPartialWrite_procWaiting (loc : Located) (acc : Access) (s : State) :
    (procPartialWrite loc acc s).port.procWaiting = s.port.procWaiting := by
  unfold procPartialWrite
  split <;> simp [procClassAction, reportPartialRefused, noteUncorrectable, noteAddressFault]

/-- Settles O17: over a good old word by the merge, over a bad one by the refusal. -/
theorem partialWriteMergesOrIsRefused : Obligations.PartialWriteMergesOrIsRefused := by
  intro s address data enables loc ht hq hs hne hl hr
  have hexec := fun b => exec_accessTaken_quiet (b := b) ht hq hl hr
  generalize hacc : accessOf address true enables data = acc at *
  have hword : acc.word = address.toNat / 4 := by rw [← hacc]; rfl
  have hdata : acc.data = data := by rw [← hacc]; rfl
  have henables : acc.enables = enables := by rw [← hacc]; rfl
  generalize hbegun : beginBurst .proc (granted acc s) = begun at *
  have hpartial : procBurst loc acc begun = procPartialWrite loc acc begun := by
    have hwrite : acc.isWrite = true := by rw [← hacc]; rfl
    rw [procBurst, if_pos hwrite, if_neg (by rw [henables]; exact hne)]
  have hreads (a : Nat) : readWord begun a = readWord s a := by rw [← hbegun]; exact readWord_begun acc s a
  have hburst : begun.port.burst = some ⟨.proc, none, .nothing, []⟩ := by rw [← hbegun]; rfl
  have hframe : begun.sig = s.sig ∧ begun.patrol = s.patrol ∧ begun.copy = s.copy ∧ begun.sram = s.sram ∧
      begun.checker = s.checker ∧ begun.lane = s.lane := by simp [← hbegun, granted]
  obtain ⟨hsig, hpatrol, hcopy, hsram, hchecker, hlane⟩ := hframe
  rw [hpartial] at hexec
  obtain ⟨e, w, a, hw⟩ := procPartialWrite_burst (loc := loc) (acc := acc) hburst
  obtain ⟨tsig, tpatrol, tcopy⟩ := procPartialWrite_same loc acc begun
  rw [← hword]
  refine ⟨procPartialWrite loc acc begun, e, w, a, hexec _ hw, ?frame, hw, ?waiting, ?others,
    fun old hold => ?good, fun raw syn hbad => ?bad⟩
  case frame =>
    refine State.ext ?_
    rw [tsig, tpatrol, tcopy, hsig, hpatrol, hcopy]
    simp [← hbegun, granted]
  case waiting => rw [procPartialWrite_procWaiting, ← hbegun]; simp [granted]
  case others =>
    have hbegins : TouchesOnly acc.word s begun := .of_frame (by simp [← hbegun, granted])
    exact (hbegins.trans (procPartialWrite_touchesOnly loc acc begun)).others
  case good =>
    rw [← hreads] at hold
    obtain ⟨u, hu, uburst, usram, usig, upatrol, ucopy⟩ := procPartialWrite_of_good (loc := loc) hold
    obtain ⟨msig, mpatrol, mcopy⟩ := procMerge_same loc acc old u
    obtain ⟨w', hw'⟩ := procMerge_burst (loc := loc) (acc := acc) (old := old) (uburst.trans hburst)
    rw [hu, hw'] at hw
    cases hw
    rw [hu, msig, mpatrol, mcopy, hdata, henables]
    refine ⟨mergeBytes old data enables, rfl, rfl, fun k hk i hi => mergeBytes_getLsbD old data enables hk hi, ?_, ?_,
      fun hplain => ?_, fun k hk => ?_⟩
    · rw [procMerge_reads (by rw [usram, hsram]; exact hs), hdata, henables]
    · exact handToCopyEngine_dirty_congr (ucopy.trans hcopy) loc _
    · simp [applyDelta, hplain, usig, upatrol, hsig, hpatrol]
    · simp [applyDelta, hk, usig, hsig, positionIn]
  case bad =>
    rw [← hreads] at hbad
    obtain ⟨u, hu, uburst, usram, uchecker, usig, upatrol, ucopy, ulane⟩ := procPartialWrite_of_bad (loc := loc) hbad
    rw [hu, setDueAnswer_burst _ (procClassAction_burst (uburst.trans hburst))] at hw
    cases hw
    rw [hu]
    refine ⟨rfl, rfl, by simp [usram, hsram], by simp [uchecker, hchecker], by simp [usig, hsig],
      by simp [upatrol, hpatrol], by simp [ucopy, hcopy], fun hrun hvoted => ?_⟩
    rw [classCause_congr (congrArg LaneControl.state (ulane.trans hlane))]
    exact (classCause_of_isolating s (.inl hvoted)).1 hrun

end Sys2Proof.Machine
end

section
/-! The repair of a CONSTANT block (R35, R60, R152). -/

namespace Sys2Proof.Machine

/-! The local block re-read: over a block without CORRECTED words only the counts change. -/

/-- No word at these addresses reads CORRECTED. -/
def Uncorrected (s : State) (as : List Nat) : Prop := ∀ a ∈ as, ∀ v y n, readWord s a ≠ .corrected v y n

theorem rereadWord_of_uncorrected {loc : Located} {a : Nat} {s : State} (h : ∀ v y n, readWord s a ≠ .corrected v y n) :
    (rereadWord loc a s).1 = goodValue (readWord s a) ∧ (rereadWord loc a s).2.checker = s.checker ∧
      (rereadWord loc a s).2.sram = s.sram ∧ (rereadWord loc a s).2.port = s.port := by
  unfold rereadWord
  cases hr : readWord s a with
  | clean v => exact ⟨rfl, rfl, rfl, rfl⟩
  | corrected v y n => exact absurd hr (h v y n)
  | uncorrectable raw y | address raw y l => simp [goodValue]

theorem rereadWords_of_uncorrected {loc : Located} {as : List Nat} {s : State} (h : Uncorrected s as) :
    (rereadWords loc as s).1 = as.map (fun a => goodValue (readWord s a)) ∧
      (rereadWords loc as s).2.checker = s.checker ∧ (rereadWords loc as s).2.sram = s.sram ∧
      (rereadWords loc as s).2.port = s.port := by
  induction as generalizing s with
  | nil => exact ⟨rfl, rfl, rfl, rfl⟩
  | cons a as ih =>
    obtain ⟨hvalue, hchecker, hsram, hport⟩ := rereadWord_of_uncorrected (loc := loc) (h a List.mem_cons_self)
    have hreads := readWord_of_frame (s := s) (t := (rereadWord loc a s).2) (by simp [hchecker, hsram])
    obtain ⟨ivalues, ichecker, isram, iport⟩ := ih (s := (rereadWord loc a s).2) fun b hb => by
      rw [hreads]; exact h b (List.mem_cons_of_mem _ hb)
    simp only [rereadWords, List.map_cons]
    refine ⟨?_, ichecker.trans hchecker, isram.trans hsram, iport.trans hport⟩
    rw [hvalue, ivalues]
    simp only [hreads]

/-! The comparison with the fetched words. -/

theorem firstDiffering_eq_none {p : Nat} {vs : List (Option Word)} {ws : List Word} (h : vs.length = ws.length) :
    firstDiffering p vs ws = none ↔ ∀ (j : Nat) (v : Word), vs[j]? = some (some v) → ws[j]? = some v := by
  induction vs generalizing p ws with
  | nil => simp [firstDiffering]
  | cons x vs ih =>
    obtain _ | ⟨w, ws⟩ := ws
    · simp at h
    have hrest := ih (p := p + 1) (ws := ws) (by simpa using h)
    have hsplit : (∀ (j : Nat) (v : Word), (x :: vs)[j]? = some (some v) → (w :: ws)[j]? = some v) ↔
        (∀ v, x = some v → v = w) ∧ ∀ (j : Nat) (v : Word), vs[j]? = some (some v) → ws[j]? = some v := by
      refine ⟨fun g => ⟨fun v hv => ?_, fun j v => by simpa using g (j + 1) v⟩, fun ⟨hx, g⟩ j v hj => ?_⟩
      · simpa [hv, eq_comm] using g 0 v
      · cases j with
        | zero => simp [hx v (by simpa using hj)]
        | succ j => simpa using g j v (by simpa using hj)
    rw [hsplit, ← hrest]
    cases x with
    | none => simp [firstDiffering]
    | some v => by_cases hv : v = w <;> simp [firstDiffering, hv]

theorem goodValue_of_uncorrected {x : ReadOutcome} (h : ∀ v y n, x ≠ .corrected v y n) (v : Word) :
    goodValue x = some v ↔ x = .clean v := by
  cases x with
  | corrected u y n => exact absurd rfl (h u y n)
  | clean u | uncorrectable u y | address u y l => simp [goodValue]

section
variable {s : State} {b : Nat} (h : Uncorrected s (blockWords b)) (loc : Located)
include h

theorem uncorrected_block {j : Nat} (hj : j < 64) : ∀ v y n, readWord s (64 * b + j) ≠ .corrected v y n :=
  h _ (mem_blockWords.2 ⟨by omega, by omega⟩)

theorem rereadBlock_getElem? {j : Nat} (hj : j < 64) :
    (rereadWords loc (blockWords b) s).1[j]? = some (goodValue (readWord s (64 * b + j))) := by
  rw [(rereadWords_of_uncorrected h).1]
  simp [blockWords, hj]

theorem rereadBlock_length : (rereadWords loc (blockWords b) s).1.length = 64 := by
  rw [(rereadWords_of_uncorrected h).1]
  simp [blockWords]

/-- No good word of the block differs exactly if every CLEAN word is as fetched. -/
theorem firstDiffering_rereadBlock {words : List Word} (hlen : words.length = 64) :
    firstDiffering 0 (rereadWords loc (blockWords b) s).1 words = none ↔
      ∀ j v, j < 64 → readWord s (64 * b + j) = .clean v → words[j]? = some v := by
  have hsize := rereadBlock_length h loc
  rw [firstDiffering_eq_none (hsize.trans hlen.symm)]
  refine forall_congr' fun j => forall_congr' fun v => ?_
  by_cases hj : j < 64
  · rw [rereadBlock_getElem? h loc hj, Option.some_inj, goodValue_of_uncorrected (uncorrected_block h hj)]
    exact ⟨fun g _ => g, fun g => g hj⟩
  · rw [List.getElem?_eq_none (by omega)]
    simp [hj]

end

/-! The bad words written (R35, R152). -/

theorem repairWord_touchesOnly (loc : Located) (a : Nat) (v : Word) (s : State) :
    TouchesOnly a s (repairWord loc a v s) :=
  ((repeatUpdate_touchesOnly a v .repair s).trans (writeWord_touchesOnly a v _)).frame (by simp [repairWord])

theorem repairWord_reads {s : State} (loc : Located) (a : Nat) (v : Word) (h : sramCanonical s.sram = true) :
    readWord (repairWord loc a v s) a = .clean v := by
  rw [← readWord_writeWord_self (s := { s with checker := (repeatUpdate s.checker a v .repair).1 }) a v h]
  exact readWord_of_frame (by simp [repairWord]) a

theorem repairWord_canonical {s : State} (loc : Located) (a : Nat) (v : Word) (h : sramCanonical s.sram = true) :
    sramCanonical (repairWord loc a v s).sram = true := by
  simpa [repairWord] using
    writeWord_canonical (s := { s with checker := (repeatUpdate s.checker a v .repair).1 }) a v h

theorem repairWord_burstGoesOn (loc : Located) (a : Nat) (v : Word) (s : State) :
    BurstGoesOn s (repairWord loc a v s) :=
  (writeWord_burstGoesOn a v { s with checker := (repeatUpdate s.checker a v .repair).1 }).trans
    (.of_eq (by simp only [repairWord, reportNews]; split <;> simp))

theorem repairWords_burstGoesOn (loc : Located) (a : Nat) (vs : List (Option Word)) (ws : List Word) (s : State) :
    BurstGoesOn s (repairWords loc a vs ws s) := by
  induction vs generalizing a ws s with
  | nil => exact .of_eq (by simp [repairWords])
  | cons x vs ih =>
    obtain _ | ⟨w, ws⟩ := ws
    · exact .of_eq (by simp [repairWords])
    cases x with
    | none => exact (repairWord_burstGoesOn loc a w s).trans (ih ..)
    | some v => exact ih ..

/-- Every word reads as before but the bad ones of the run. -/
theorem repairWords_keeps {loc : Located} {a b : Nat} {vs : List (Option Word)} {ws : List Word} {s : State}
    (h : ∀ j, vs[j]? = some none → b ≠ a + j) : readWord (repairWords loc a vs ws s) b = readWord s b := by
  induction vs generalizing a ws s with
  | nil => simp [repairWords]
  | cons x vs ih =>
    obtain _ | ⟨w, ws⟩ := ws
    · simp [repairWords]
    have hrest (j : Nat) (hj : vs[j]? = some none) : b ≠ a + 1 + j := by
      have := h (j + 1) (by simpa using hj)
      omega
    cases x with
    | none => exact (ih hrest).trans ((repairWord_touchesOnly loc a w s).others b (h 0 rfl))
    | some v => exact ih hrest

/-- A bad word of the run reads as fetched. -/
theorem repairWords_reads {loc : Located} {a j : Nat} {vs : List (Option Word)} {ws : List Word} {w : Word} {s : State}
    (h : sramCanonical s.sram = true) (hv : vs[j]? = some none) (hw : ws[j]? = some w) :
    readWord (repairWords loc a vs ws s) (a + j) = .clean w := by
  induction vs generalizing a j ws s with
  | nil => simp at hv
  | cons x vs ih =>
    obtain _ | ⟨u, ws⟩ := ws
    · simp at hw
    cases j with
    | zero =>
      obtain rfl : x = none := by simpa using hv
      obtain rfl : u = w := by simpa using hw
      exact (repairWords_keeps (a := a + 1) (vs := vs) fun j _ => by omega).trans (repairWord_reads loc a u h)
    | succ j =>
      rw [← Nat.add_assoc, Nat.add_right_comm]
      cases x with
      | none => exact ih (repairWord_canonical loc a u h) (by simpa using hv) (by simpa using hw)
      | some v => exact ih h (by simpa using hv) (by simpa using hw)

/-- The block after its bad words are written. -/
def repairedBlock (loc : Located) (b : Nat) (words : List Word) (s : State) : State :=
  repairWords loc (64 * b) (rereadWords loc (blockWords b) s).1 words (rereadWords loc (blockWords b) s).2

section
variable {s : State} {b : Nat} (h : Uncorrected s (blockWords b)) (loc : Located)
include h

theorem readWord_rereadBlock (a : Nat) : readWord (rereadWords loc (blockWords b) s).2 a = readWord s a := by
  obtain ⟨-, hchecker, hsram, -⟩ := rereadWords_of_uncorrected (loc := loc) h
  exact readWord_of_frame (by simp [hchecker, hsram]) a

/-- A word that is no bad word of the block reads as before. -/
theorem repairedBlock_keeps {a : Nat} (words : List Word)
    (ha : ∀ j < 64, a = 64 * b + j → goodValue (readWord s a) ≠ none) :
    readWord (repairedBlock loc b words s) a = readWord s a := by
  refine (repairWords_keeps fun j hj hja => ?_).trans (readWord_rereadBlock h loc a)
  have hlt : j < 64 := rereadBlock_length h loc ▸ (List.getElem?_eq_some_iff.1 hj).1
  rw [rereadBlock_getElem? h loc hlt, ← hja] at hj
  exact ha j hlt hja (Option.some.inj hj)

/-- If the good words are as fetched, the whole block is as fetched after the writing of the bad ones. -/
theorem repairedBlock_reads {words : List Word} (hlen : words.length = 64) (hs : sramCanonical s.sram = true)
    (hwords : ∀ j v, j < 64 → readWord s (64 * b + j) = .clean v → words[j]? = some v) {j : Nat} {v : Word}
    (hj : words[j]? = some v) : readWord (repairedBlock loc b words s) (64 * b + j) = .clean v := by
  have hlt : j < 64 := hlen ▸ (List.getElem?_eq_some_iff.1 hj).1
  cases hgood : goodValue (readWord s (64 * b + j)) with
  | none =>
    refine repairWords_reads ?_ ?_ hj
    · rw [(rereadWords_of_uncorrected h).2.2.1]; exact hs
    · rw [rereadBlock_getElem? h loc hlt, hgood]
  | some u =>
    rw [repairedBlock_keeps h loc words fun _ _ _ => by simp [hgood]]
    have hclean := (goodValue_of_uncorrected (uncorrected_block h hlt) u).1 hgood
    rw [hclean, ← Option.some.inj ((hwords j u hlt hclean).symm.trans hj)]

theorem repairedBlock_burst {c : Client} (words : List Word) (hb : s.port.burst = some ⟨c, none, .nothing, []⟩) :
    ∃ w, (repairedBlock loc b words s).port.burst = some ⟨c, none, .nothing, w⟩ := by
  obtain ⟨-, -, -, hport⟩ := rereadWords_of_uncorrected (loc := loc) h
  exact (repairWords_burstGoesOn loc (64 * b) _ words _).of_some (by rw [hport]; exact hb)

end

/-! The burst of a repair (R152). -/

theorem recvRepair_of_agreeing {b : Nat} {words : List Word} {s : State} {loc : Located} (hl : locate s b = some loc)
    (h : firstDiffering 0 (rereadWords loc (blockWords b) s).1 words = none) : ∃ k d v, recvRepair b words s =
      report k (some loc.index) (placeWord b) d v (closeRepair b (repairedBlock loc b words s)) := by
  simp only [recvRepair, hl, h]
  exact ⟨_, _, _, rfl⟩

theorem recvRepair_of_differing {b : Nat} {words : List Word} {s : State} {loc : Located} (hl : locate s b = some loc)
    (h : firstDiffering 0 (rereadWords loc (blockWords b) s).1 words ≠ none) : ∃ k d v, recvRepair b words s =
      setAtEnd (.leave .repairDisagree none) (report k (some loc.index) (placeWord b) d v
        (closeRepair b (rereadWords loc (blockWords b) s).2)) := by
  obtain ⟨⟨p, v⟩, hp⟩ := Option.ne_none_iff_exists'.1 h
  simp only [recvRepair, hl, hp]
  exact ⟨_, _, _, rfl⟩

theorem recvRepair_copy {b : Nat} {words : List Word} {s : State} {loc : Located} (hl : locate s b = some loc) :
    (recvRepair b words s).copy = (closeRepair b s).copy := by
  simp only [recvRepair, hl]
  split <;> simp [closeRepair]

/-- The state in which a RECV burst begins: the received block is cleared (R134). -/
def recvBegun (s : State) : State :=
  beginBurst (.background .recv) { s with copy := { s.copy with received := none } }

@[simp] theorem recvBegun_frame (s : State) : (recvBegun s).checker = s.checker ∧ (recvBegun s).sram = s.sram :=
  ⟨rfl, rfl⟩

theorem readWord_recvBegun (s : State) (a : Nat) : readWord (recvBegun s) a = readWord s a :=
  readWord_of_frame (s := s) (t := recvBegun s) ⟨rfl, rfl, rfl⟩ a

/-- A repair changes nothing else of the state. -/
theorem recvRepair_begun {b : Nat} {words : List Word} {s : State} {loc : Located} (hl : locate s b = some loc) :
    recvRepair b words (recvBegun s) = { s with
      map := (recvRepair b words (recvBegun s)).map, checker := (recvRepair b words (recvBegun s)).checker
      sram := (recvRepair b words (recvBegun s)).sram, log := (recvRepair b words (recvBegun s)).log
      port := (recvRepair b words (recvBegun s)).port
      copy := { s.copy with received := none, repair := none,
                            repairs := s.copy.repairs.filter (fun x => decide (x ≠ b)) } } := by
  have hlb : locate (recvBegun s) b = some loc := hl
  refine State.ext ?_
  rw [recvRepair_copy hlb]
  simp [recvBegun, closeRepair]

/-- Settles O23: by whether a good word of the block differs from its fetched one. -/
theorem repairBurstWritesTheBadWords : Obligations.RepairBurstWritesTheBadWords := by
  intro s b words loc hreceived hlen hl hs hnc
  have hgrant : grantRecv s = recvRepair b words (recvBegun s) := by simp only [grantRecv, hreceived, recvBegun]
  have hframe := recvRepair_begun (words := words) hl
  have hlb : locate (recvBegun s) b = some loc := hl
  have hburst : (recvBegun s).port.burst = some ⟨.background .recv, none, .nothing, []⟩ := rfl
  have hfree : Uncorrected (recvBegun s) (blockWords b) := fun a ha v y n => by
    obtain ⟨hlo, hhi⟩ := mem_blockWords.1 ha
    have := hnc (a - 64 * b) (by omega) v y n
    rwa [Nat.add_sub_of_le hlo] at this
  have hagree := firstDiffering_rereadBlock hfree loc hlen
  by_cases hdiff : firstDiffering 0 (rereadWords loc (blockWords b) (recvBegun s)).1 words = none
  · obtain ⟨k, d, v, hresult⟩ := recvRepair_of_agreeing hlb hdiff
    obtain ⟨w, hw⟩ := repairedBlock_burst hfree loc words hburst
    have hsame := readWord_of_frame (s := repairedBlock loc b words (recvBegun s)) (t := recvRepair b words (recvBegun s))
      (by simp [hresult])
    have hwords := hagree.1 hdiff
    refine ⟨_, .nothing, w, hgrant, hframe, by simpa [hresult] using hw, fun a ha => ?others, fun _ =>
      ⟨rfl, fun j v hj => (hsame _).trans (repairedBlock_reads hfree loc hlen hs hwords hj)⟩,
      fun ⟨j, v, hj, hr, hne⟩ => absurd (hwords j v hj hr) hne⟩
    case others =>
      rw [hsame, repairedBlock_keeps hfree loc words fun j hj h => absurd (by omega) ha, readWord_recvBegun]
  · obtain ⟨k, d, v, hresult⟩ := recvRepair_of_differing hlb hdiff
    obtain ⟨-, hchecker, hsram, hport⟩ := rereadWords_of_uncorrected (loc := loc) hfree
    have hsame := readWord_of_frame (s := (rereadWords loc (blockWords b) (recvBegun s)).2)
      (t := recvRepair b words (recvBegun s)) (by simp [hresult])
    refine ⟨_, .leave .repairDisagree none, [], hgrant, hframe, ?burst, fun a _ => ?others,
      fun h => absurd (hagree.2 h) hdiff, fun _ => ⟨rfl, rfl, ?sram, ?checker⟩⟩
    case burst => simp [hresult, setAtEnd, hport, hburst]
    case others => rw [hsame, readWord_rereadBlock hfree, readWord_recvBegun]
    case sram => simp [hresult, hsram]
    case checker => simp [hresult, hchecker]

end Sys2Proof.Machine
end

section
/-! SUPPORT. What the burst in progress has overwritten (R41, R53): nothing but the word writes of a burst adds to it,
and only a burst's end takes it away. -/

namespace Sys2Proof.Machine

/-! Requests, frames and answers. -/

@[simp] theorem setAtEnd_overwritten (e : AtEnd) (s : State) :
    (setAtEnd e s).port.burst.map Burst.overwritten = s.port.burst.map Burst.overwritten := by
  cases h : s.port.burst <;> simp [setAtEnd, h]

@[simp] theorem setDueAnswer_overwritten (a : Answer) (s : State) :
    (setDueAnswer a s).port.burst.map Burst.overwritten = s.port.burst.map Burst.overwritten := by
  cases h : s.port.burst <;> simp [setDueAnswer, h]

@[simp] theorem giveDueAnswer_overwritten (s : State) :
    (giveDueAnswer s).port.burst.map Burst.overwritten = s.port.burst.map Burst.overwritten := by
  unfold giveDueAnswer
  (repeat' split) <;> simp_all

@[simp] theorem assertHold_overwritten (s : State) :
    (assertHold s).port.burst.map Burst.overwritten = s.port.burst.map Burst.overwritten := by
  unfold assertHold; split <;> simp

@[simp] theorem linkError_burst (p : PortId) (k : LinkErrorKind) (r : Option FormReason) (x y : Nat × Bool)
    (s : State) : (linkError p k r x y s).port.burst = s.port.burst := by simp [linkError]

@[simp] theorem offerBulk_burst (p : PortId) (f : Frame) (s : State) : (offerBulk p f s).port.burst = s.port.burst := by
  unfold offerBulk; (repeat' split) <;> simp [txFull]

@[simp] theorem fillSlot_burst (p : PortId) (f : Frame) (s : State) : (fillSlot p f s).port.burst = s.port.burst := by
  simp [fillSlot]

@[simp] theorem offerBoth_burst (f : Frame) (s : State) : (offerBoth f s).port.burst = s.port.burst := by
  simp [offerBoth, offerControl_burst]

/-! Lane control and the copy engine. -/

@[simp] theorem dropFoundCause_overwritten (s : State) :
    (dropFoundCause s).port.burst.map Burst.overwritten = s.port.burst.map Burst.overwritten := by
  unfold dropFoundCause; (repeat' split) <;> simp

@[simp] theorem endRestoreJob_overwritten (s : State) :
    (endRestoreJob s).port.burst.map Burst.overwritten = s.port.burst.map Burst.overwritten := by
  simp only [endRestoreJob]
  (repeat' split) <;> simp

@[simp] theorem endServingStep_overwritten (o : Cause) (a : Option Cause) (s : State) :
    (endServingStep o a s).port.burst.map Burst.overwritten = s.port.burst.map Burst.overwritten := by
  cases hs : s.copy.serving with
  | none => rw [endServingStep_of_none hs]
  | some x => rw [endServingStep_of_some hs]; split <;> simp [stopServing]

@[simp] theorem endServing_overwritten (o : Cause) (a : Option Cause) (n : Option Nat) (s : State) :
    (endServing o a n s).port.burst.map Burst.overwritten = s.port.burst.map Burst.overwritten := by
  simp [endServing]

@[simp] theorem dropReceived_burst (s : State) : (dropReceived s).port.burst = s.port.burst := by
  unfold dropReceived; split <;> simp

@[simp] theorem isolate_overwritten (c : Cause) (n : Option Nat) (s : State) :
    (isolate c n s).port.burst.map Burst.overwritten = s.port.burst.map Burst.overwritten := by
  simp only [isolate]
  split <;> simp [reportIsolated, emptyVote]

@[simp] theorem leave_overwritten (c : Cause) (n : Option Nat) (s : State) :
    (leave c n s).port.burst.map Burst.overwritten = s.port.burst.map Burst.overwritten := by
  unfold leave; split <;> simp

@[simp] theorem askPeer_burst (l : Lane) (s : State) : (askPeer l s).port.burst = s.port.burst := by
  simp only [askPeer]; split <;> simp

@[simp] theorem endJoinerClear_burst (s : State) : (endJoinerClear s).port.burst = s.port.burst := by
  simp only [endJoinerClear, enterRequest]; (repeat' split) <;> simp

@[simp] theorem restartPatrol_burst (s : State) : (restartPatrol s).port.burst = s.port.burst := by
  simp [restartPatrol]

@[simp] theorem beginClear_burst (j : Bool) (s : State) : (beginClear j s).port.burst = s.port.burst := by
  simp only [beginClear]; split <;> simp

@[simp] theorem clearStart_burst (s : State) : (clearStart s).port.burst = s.port.burst := by simp [clearStart]

@[simp] theorem startAttempt_burst (s : State) : (startAttempt s).port.burst = s.port.burst := by
  simp only [startAttempt]; split <;> simp

@[simp] theorem enterJoining_overwritten (g : Trigger) (s : State) :
    (enterJoining g s).port.burst.map Burst.overwritten = s.port.burst.map Burst.overwritten := by
  simp [enterJoining]

@[simp] theorem hearMember_overwritten (s : State) :
    (hearMember s).port.burst.map Burst.overwritten = s.port.burst.map Burst.overwritten := by
  unfold hearMember; (repeat' split) <;> simp

@[simp] theorem endAttempt_burst (c : Cause) (b : Bool) (s : State) : (endAttempt c b s).port.burst = s.port.burst := by
  simp only [endAttempt]; (repeat' split) <;> simp

@[simp] theorem failAttempt_overwritten (c : Cause) (b : Bool) (d : Option Cause) (s : State) :
    (failAttempt c b d s).port.burst.map Burst.overwritten = s.port.burst.map Burst.overwritten := by
  unfold failAttempt; split <;> simp [reportRestoreEnd]

@[simp] theorem askOther_overwritten (b : Bool) (s : State) :
    (askOther b s).port.burst.map Burst.overwritten = s.port.burst.map Burst.overwritten := by
  unfold askOther; split <;> simp

@[simp] theorem admission_overwritten (x : Snapshot) (s : State) :
    (admission x s).port.burst.map Burst.overwritten = s.port.burst.map Burst.overwritten := by
  simp only [admission]; split <;> simp [reportRestoreEnd]

/-! The vote. -/

@[simp] theorem endFormation_burst (own : Lane) (e : VoteEntry) (rs : List SlotResult) (s : State) :
    (endFormation own e rs s).port.burst = s.port.burst := by
  unfold endFormation; split <;> simp

@[simp] theorem handOnVote_overwritten (own : Lane) (g : Option Word) (e : VoteEntry) (rs : List SlotResult)
    (s : State) : (handOnVote own g e rs s).port.burst.map Burst.overwritten = s.port.burst.map Burst.overwritten := by
  unfold handOnVote; (repeat' split) <;> simp

@[simp] theorem reportAllExcluded_burst (b : State) (xs : List (Lane × Cause)) (s : State) :
    (reportAllExcluded b xs s).port.burst = s.port.burst := by
  induction xs generalizing s with
  | nil => rfl
  | cons x xs ih => rw [reportAllExcluded, ih]; split <;> simp [reportExcluded]

@[simp] theorem castVote_overwritten (e : VoteEntry) (s : State) :
    (castVote e s).port.burst.map Burst.overwritten = s.port.burst.map Burst.overwritten := by
  simp only [castVote]; split <;> simp [reportVote]

@[simp] theorem voteIfComplete_overwritten (s : State) :
    (voteIfComplete s).port.burst.map Burst.overwritten = s.port.burst.map Burst.overwritten := by
  unfold voteIfComplete; split <;> simp

/-! The end of a burst. -/

@[simp] theorem copyClassAction_overwritten (b : Nat) (s : State) :
    (copyClassAction b s).port.burst.map Burst.overwritten = s.port.burst.map Burst.overwritten := by
  unfold copyClassAction; (repeat' split) <;> simp

@[simp] theorem endWork_overwritten (e : AtEnd) (s : State) :
    (endWork e s).port.burst.map Burst.overwritten = s.port.burst.map Burst.overwritten := by
  cases e with
  | damaged p b live => cases live <;> simp [endWork]
  | _ => simp [endWork, offerControl_burst]

@[simp] theorem reportStarted_burst (s : State) : (reportStarted s).port.burst = s.port.burst := by
  simp [reportStarted]

@[simp] theorem reportClamped_burst (s : State) : (reportClamped s).port.burst = s.port.burst := by
  unfold reportClamped; (repeat' split) <;> simp

@[simp] theorem endStartingClear_overwritten (s : State) :
    (endStartingClear s).port.burst.map Burst.overwritten = s.port.burst.map Burst.overwritten := by
  simp only [endStartingClear]
  split <;> simp [startWriter]

@[simp] theorem fillGoesOn_overwritten (s : State) :
    (fillGoesOn s).port.burst.map Burst.overwritten = s.port.burst.map Burst.overwritten := by
  unfold fillGoesOn; split <;> simp

/-- The port stays free until the arbiter decides (R46). -/
theorem endBurst_burst (b : Burst) (s : State) : (endBurst b s).port.burst = none := by
  have hfree (u : State) (h : u.port.burst.map Burst.overwritten = none) : u.port.burst = none :=
    Option.map_eq_none_iff.1 h
  refine hfree _ ?_
  have hreleased := (releasePort_port s).1
  simp only [endBurst]
  (repeat' split) <;> simp [placeLog_port, hreleased]

/-! The other commands. -/

@[simp] theorem sourceHeard_port (l : Lane) (s : State) : (sourceHeard l s).port = s.port := by
  unfold sourceHeard; split <;> rfl

@[simp] theorem discover_overwritten (x : LaneState) (b : Bool) (s : State) :
    (discover x b s).port.burst.map Burst.overwritten = s.port.burst.map Burst.overwritten := by
  unfold discover; split <;> simp

@[simp] theorem excludeByState_burst (l : Lane) (x : LaneState) (w : Word) (s : State) :
    (excludeByState l x w s).port.burst = s.port.burst := by
  unfold excludeByState; split <;> simp [reportExcluded]

@[simp] theorem takeSignature_burst (l : Lane) (c : Word) (f : PeerFrame) (s : State) :
    (takeSignature l c f s).port.burst = s.port.burst := by
  unfold takeSignature reportPeerLate
  (repeat' split) <;> simp [storeFrame, reportSkew]

@[simp] theorem signatureArrives_overwritten (l : Lane) (c : Word) (f : PeerFrame) (s : State) :
    (signatureArrives l c f s).port.burst.map Burst.overwritten = s.port.burst.map Burst.overwritten := by
  simp only [signatureArrives]; split <;> simp [hear]

@[simp] theorem stateArrives_overwritten (l : Lane) (x : LaneState) (w : Word) (s : State) :
    (stateArrives l x w s).port.burst.map Burst.overwritten = s.port.burst.map Burst.overwritten := by
  simp [stateArrives, hear]

@[simp] theorem noticeArrives_overwritten (l : Lane) (w : Word) (s : State) :
    (noticeArrives l w s).port.burst.map Burst.overwritten = s.port.burst.map Burst.overwritten := by
  unfold noticeArrives; split <;> simp

@[simp] theorem standJoining_port (l : Lane) (s : State) : (standJoining l s).port = s.port := by
  unfold standJoining; split <;> simp

@[simp] theorem joinArrives_overwritten (p : PortId) (l : Lane) (n : Nat) (x : Pair) (s : State) :
    (joinArrives p l n x s).port.burst.map Burst.overwritten = s.port.burst.map Burst.overwritten := by
  unfold joinArrives
  split <;> simp [acceptJoin, offerControl_burst]

@[simp] theorem askRepair_burst (b : Nat) (l : Lane) (o : Bool) (s : State) :
    (askRepair b l o s).port.burst = s.port.burst := by simp [askRepair]

@[simp] theorem failRepair_burst (b : Nat) (l : Option Lane) (r : RepairReason) (s : State) :
    (failRepair b l r s).port.burst = s.port.burst := by simp [failRepair]

@[simp] theorem repairNext_burst (r : Repair) (reason : RepairReason) (s : State) :
    (repairNext r reason s).port.burst = s.port.burst := by
  unfold repairNext; split <;> simp

@[simp] theorem startRepair_burst (b : Nat) (s : State) : (startRepair b s).port.burst = s.port.burst := by
  unfold startRepair; split <;> simp

@[simp] theorem refuseArrives_overwritten (l : Lane) (x : RefuseSubject) (r : RefuseReason) (s : State) :
    (refuseArrives l x r s).port.burst.map Burst.overwritten = s.port.burst.map Burst.overwritten := by
  unfold refuseArrives; (repeat' split) <;> simp

@[simp] theorem offerNaks_burst (p : PortId) (n : Nat) (bs : List Nat) (s : State) :
    (offerNaks p n bs s).port.burst = s.port.burst := by
  induction bs generalizing s with
  | nil => rfl
  | cons b bs ih => rw [offerNaks, ih, offerControl_burst]

@[simp] theorem blockArrives_burst (p : PortId) (l : Lane) (n b : Nat) (ws : List Word) (s : State) :
    (blockArrives p l n b ws s).port.burst = s.port.burst := by
  simp only [blockArrives, checkExpected]; (repeat' split) <;> simp

@[simp] theorem admittedArrives_overwritten (l : Lane) (n : Nat) (w : Word) (s : State) :
    (admittedArrives l n w s).port.burst.map Burst.overwritten = s.port.burst.map Burst.overwritten := by
  unfold admittedArrives offerNotice; (repeat' split) <;> simp

@[simp] theorem mismatchArrives_overwritten (l : Lane) (n k : Nat) (s : State) :
    (mismatchArrives l n k s).port.burst.map Burst.overwritten = s.port.burst.map Burst.overwritten := by
  unfold mismatchArrives; split <;> simp

@[simp] theorem abandonArrives_overwritten (l : Lane) (n : Nat) (c : Cause) (s : State) :
    (abandonArrives l n c s).port.burst.map Burst.overwritten = s.port.burst.map Burst.overwritten := by
  unfold abandonArrives; (repeat' split) <;> simp

@[simp] theorem fetchArrives_burst (p : PortId) (b : Nat) (s : State) :
    (fetchArrives p b s).port.burst = s.port.burst := by
  unfold fetchArrives; (repeat' split) <;> simp [offerControl_burst]

@[simp] theorem fetchedArrives_burst (l : Lane) (b : Nat) (ws : List Word) (s : State) :
    (fetchedArrives l b ws s).port.burst = s.port.burst := by
  unfold fetchedArrives; (repeat' split) <;> simp

@[simp] theorem progressExpires_overwritten (s : State) :
    (progressExpires s).port.burst.map Burst.overwritten = s.port.burst.map Burst.overwritten := by
  simp only [progressExpires, silentInRequest, giveUpServing]; (repeat' split) <;> simp

@[simp] theorem holdExpires_overwritten (s : State) :
    (holdExpires s).port.burst.map Burst.overwritten = s.port.burst.map Burst.overwritten := by
  simp only [holdExpires, holdRunsOut, giveUpServing]; (repeat' split) <;> simp

@[simp] theorem verifyAdmit_overwritten (x : Snapshot) (s : State) :
    (verifyAdmit x s).port.burst.map Burst.overwritten = s.port.burst.map Burst.overwritten := by
  simp only [verifyAdmit, mismatchFound]; (repeat' split) <;> simp

@[simp] theorem closeEarlier_overwritten (s : State) :
    (closeEarlier s).port.burst.map Burst.overwritten = s.port.burst.map Burst.overwritten := by
  unfold closeEarlier; split <;> simp

@[simp] theorem voteOrWait_overwritten (s : State) :
    (voteOrWait s).port.burst.map Burst.overwritten = s.port.burst.map Burst.overwritten := by
  unfold voteOrWait; (repeat' split) <;> simp

@[simp] theorem takeMark_overwritten (s : State) :
    (takeMark s).port.burst.map Burst.overwritten = s.port.burst.map Burst.overwritten := by
  simp only [takeMark, completeMark, markCopyEngine, restartSupervision]
  (repeat' split) <;> simp [sendSignature, markEntry, raiseCounter]

@[simp] theorem retryExpires_overwritten (s : State) :
    (retryExpires s).port.burst.map Burst.overwritten = s.port.burst.map Burst.overwritten := by
  unfold retryExpires; split <;> simp

@[simp] theorem takeAccess_burst (x : Access) (s : State) : (takeAccess x s).port.burst = s.port.burst := by
  unfold takeAccess; split <;> simp [refuseAccess, reportRefused]

@[simp] theorem frameWhole_burst (p : PortId) (k : FrameKind) (n : Byte) (xs ys : List Byte) (c : Nat) (s : State) :
    (frameWhole p k n xs ys c s).port.burst = s.port.burst := by
  simp only [frameWhole, acceptFrame]; (repeat' split) <;> simp

@[simp] theorem acceptImage_burst (im : Image) (s : State) : (acceptImage im s).port.burst = s.port.burst := by
  simp [acceptImage, loadTables]

/-- No effect but the end of a burst changes what a burst has overwritten. -/
theorem effect_overwritten {c : Instr} {s u : State} (h : Effect c s u) : u.port.burst = none ∨
    u.port.burst.map Burst.overwritten = s.port.burst.map Burst.overwritten := by
  cases h with
  | burstEnd => exact .inl (endBurst_burst ..)
  | _ => exact .inr (by simp [arrive, enterForming, offerAdmit, hunt])

/-- No effect changes the SRAM before the arbiter decides. -/
theorem effect_sram {c : Instr} {s u : State} (h : Effect c s u) : u.sram = s.sram := by
  cases h <;> simp

end Sys2Proof.Machine
end

section
/-! The SRAM (R41, R53): every step keeps its canonical form, and a burst keeps what it has overwritten. -/

namespace Sys2Proof.Machine

/-! Cells written in order over a memory (R53). -/

theorem writeCells_append (m ws vs : List (Nat × SramCell)) :
    writeCells m (ws ++ vs) = writeCells (writeCells m ws) vs := List.foldl_append

theorem cellsBefore_append (m ws vs : List (Nat × SramCell)) :
    cellsBefore m (ws ++ vs) = cellsBefore m ws ++ cellsBefore (writeCells m ws) vs := by
  induction ws generalizing m with
  | nil => rfl
  | cons w ws ih => rw [List.cons_append, cellsBefore, ih, cellsBefore]; rfl

theorem writeCells_canonical {m : List (Nat × SramCell)} (ws : List (Nat × SramCell)) (h : sramCanonical m = true) :
    sramCanonical (writeCells m ws) = true := by
  induction ws generalizing m with
  | nil => exact h
  | cons w ws ih => exact ih (sramWrite_canonical w.1 w.2 h)

/-! The two laws. -/

/-- A change that keeps the SRAM canonical and, under that, the law of cut bursts. -/
structure KeepsSram (s t : State) : Prop where
  sram : SramLaw s → SramLaw t
  cut : SramLaw s → CutLaw s → CutLaw t

theorem KeepsSram.refl (s : State) : KeepsSram s s := ⟨id, fun _ => id⟩

theorem KeepsSram.trans {s t u : State} (h : KeepsSram s t) (g : KeepsSram t u) : KeepsSram s u :=
  ⟨fun hs => g.sram (h.sram hs), fun hs hc => g.cut (h.sram hs) (h.cut hs hc)⟩

theorem cutLaw_of_free {s : State} (h : s.port.burst = none) : CutLaw s := fun b hb => by simp [h] at hb

/-- A change of other fields, the burst in progress keeping what it has overwritten. -/
theorem KeepsSram.of_frame {s t : State} (h : t.sram = s.sram ∧
    t.port.burst.map Burst.overwritten = s.port.burst.map Burst.overwritten) : KeepsSram s t := by
  obtain ⟨hsram, hburst⟩ := h
  refine ⟨fun hs => by rwa [SramLaw, hsram], fun _ hc b hb => ?_⟩
  rw [hb, Option.map_some] at hburst
  obtain ⟨c, hcb, hover⟩ := Option.map_eq_some_iff.1 hburst.symm
  rw [hsram, ← hover]
  exact hc c hcb

/-- A further change of other fields. -/
theorem KeepsSram.frame {s t u : State} (h : KeepsSram s t) (g : u.sram = t.sram ∧
    u.port.burst.map Burst.overwritten = t.port.burst.map Burst.overwritten) : KeepsSram s u := h.trans (.of_frame g)

/-- With the port free there is nothing to cut. -/
theorem KeepsSram.of_free {s t : State} (hm : t.sram = s.sram) (hb : t.port.burst = none) : KeepsSram s t :=
  ⟨fun hs => by rwa [SramLaw, hm], fun _ _ => cutLaw_of_free hb⟩

/-- A burst begins having overwritten nothing (R41). -/
theorem beginBurst_keepsSram (c : Client) (s : State) : KeepsSram s (beginBurst c s) := by
  refine ⟨id, fun hs _ b hb => ⟨s.sram, [], hs, ?_, rfl⟩⟩
  cases hb
  rfl

/-! Words written (R17, R53). -/

theorem writeCell_keepsSram (a : Nat) (c : SramCell) (s : State) : KeepsSram s (writeCell a c s) := by
  refine ⟨sramWrite_canonical a c, fun _ hc b hb => ?_⟩
  obtain ⟨b0, hb0, rfl⟩ := Option.map_eq_some_iff.1 hb
  obtain ⟨m, ws, hm, hover, hsram⟩ := hc b0 hb0
  refine ⟨m, ws ++ [(a, c)], hm, ?_, ?_⟩
  · rw [cellsBefore_append, ← hsram, ← hover]; rfl
  · rw [writeCells_append, ← hsram]; rfl

theorem writeWord_keepsSram (a : Nat) (v : Word) (s : State) : KeepsSram s (writeWord a v s) := by
  unfold writeWord
  split
  · exact .of_frame ⟨rfl, rfl⟩
  · exact writeCell_keepsSram ..

theorem KeepsSram.then_writeWord {s t : State} (h : KeepsSram s t) (a : Nat) (v : Word) :
    KeepsSram s (writeWord a v t) := h.trans (writeWord_keepsSram a v t)

theorem fillWords_keepsSram (v : Word) (as : List Nat) (s : State) : KeepsSram s (fillWords v as s) := by
  induction as generalizing s with
  | nil => exact .refl s
  | cons a as ih => exact (writeWord_keepsSram a v s).trans (ih _)

theorem writeWords_keepsSram (a : Nat) (vs : List Word) (s : State) : KeepsSram s (writeWords a vs s) := by
  induction vs generalizing a s with
  | nil => exact .refl s
  | cons v vs ih => exact (writeWord_keepsSram a v s).trans (ih ..)

/-- A corrected word noted and written back (R33). -/
theorem writeBack_keepsSram (c : Client) (loc : Located) (a : Nat) (v : Word) (y : Byte) (n : Nat) (s : State) :
    KeepsSram s (writeWord a v (noteCorrected c loc a v y n s)) :=
  KeepsSram.then_writeWord (.of_frame (by simp)) a v

@[simp] theorem noteUncorrectable_burst (c : Client) (loc : Located) (a : Nat) (y : Byte) (s : State) :
    (noteUncorrectable c loc a y s).port.burst = s.port.burst := by simp [noteUncorrectable]

@[simp] theorem noteAddressFault_burst (c : Client) (loc : Located) (a : Nat) (y : Byte) (n : Nat) (s : State) :
    (noteAddressFault c loc a y n s).port.burst = s.port.burst := by simp [noteAddressFault]

theorem scrubWord_keepsSram (c : Client) (loc : Located) (a : Nat) (s : State) :
    KeepsSram s (scrubWord c loc a s).2 := by
  unfold scrubWord
  split
  · exact .refl s
  · exact writeBack_keepsSram ..
  · exact .of_frame (by simp)
  · exact .of_frame (by simp)

theorem scrubWords_keepsSram (c : Client) (loc : Located) (as : List Nat) (s : State) :
    KeepsSram s (scrubWords c loc as s).2 := by
  induction as generalizing s with
  | nil => exact .refl s
  | cons a as ih => exact (scrubWord_keepsSram c loc a s).trans (ih _)

theorem storeWord_keepsSram (c : Client) (loc : Located) (a : Nat) (v : Word) (s : State) :
    KeepsSram s (storeWord c loc a v s).2 := by
  unfold storeWord
  split
  · exact writeWord_keepsSram a v s
  have hover {t u : State} (hu : u.sram = s.sram ∧ u.port.burst = s.port.burst)
      (ht : t.sram = (writeWord a v u).sram ∧ t.port.burst = (writeWord a v u).port.burst) : KeepsSram s t :=
    (KeepsSram.then_writeWord (.of_frame ⟨hu.1, by rw [hu.2]⟩) a v).frame ⟨ht.1, by rw [ht.2]⟩
  split
  case h_1 => exact hover (u := s) ⟨rfl, rfl⟩ (by simp)
  case h_2 old y n _ => exact hover (u := noteCorrected c loc a old y n s) (by simp) (by simp)
  case h_3 y _ => exact hover (u := noteUncorrectable c loc a y s) (by simp) (by simp)
  case h_4 y n _ => exact hover (u := noteAddressFault c loc a y n s) (by simp) (by simp)

theorem storeWords_keepsSram (loc : Located) (a : Nat) (vs : List Word) (s : State) :
    KeepsSram s (storeWords loc a vs s).2 := by
  induction vs generalizing a s with
  | nil => exact .refl s
  | cons v vs ih => exact (storeWord_keepsSram _ loc a v s).trans (ih ..)

theorem rereadWord_keepsSram (loc : Located) (a : Nat) (s : State) : KeepsSram s (rereadWord loc a s).2 := by
  unfold rereadWord
  split
  · exact .refl s
  · exact writeBack_keepsSram ..
  · exact .of_frame (by simp)
  · exact .of_frame (by simp)

theorem rereadWords_keepsSram (loc : Located) (as : List Nat) (s : State) :
    KeepsSram s (rereadWords loc as s).2 := by
  induction as generalizing s with
  | nil => exact .refl s
  | cons a as ih => exact (rereadWord_keepsSram loc a s).trans (ih _)

@[simp] theorem reportNews_burst (n : RepeatNews) (i a : Nat) (v : Word) (o : Origin) (s : State) :
    (reportNews n i a v o s).port.burst = s.port.burst := by
  unfold reportNews; split <;> simp

theorem repairWord_keepsSram (loc : Located) (a : Nat) (v : Word) (s : State) :
    KeepsSram s (repairWord loc a v s) := by
  have hwritten : KeepsSram s (writeWord a v { s with checker := (repeatUpdate s.checker a v .repair).1 }) :=
    .trans (.of_frame (by simp)) (writeWord_keepsSram ..)
  exact hwritten.frame (by simp [repairWord])

theorem repairWords_keepsSram (loc : Located) (a : Nat) (vs : List (Option Word)) (ws : List Word) (s : State) :
    KeepsSram s (repairWords loc a vs ws s) := by
  induction vs generalizing a ws s with
  | nil => cases ws <;> exact .refl s
  | cons v vs ih =>
    cases ws with
    | nil => cases v <;> exact .refl s
    | cons w ws =>
      cases v with
      | some _ => exact ih ..
      | none => exact (repairWord_keepsSram loc a w s).trans (ih ..)

/-! The bursts. -/

@[simp] theorem procClassAction_overwritten (loc : Located) (b : Nat) (s : State) :
    (procClassAction loc b s).port.burst.map Burst.overwritten = s.port.burst.map Burst.overwritten := by
  simp [procClassAction]

theorem procRead_keepsSram (loc : Located) (a : Nat) (s : State) : KeepsSram s (procRead loc a s) := by
  unfold procRead
  split
  case h_2 v y n _ => exact (writeBack_keepsSram .proc loc a v y n s).frame (by simp)
  · exact .of_frame (by simp)
  · exact .of_frame (by simp)
  · exact .of_frame (by simp)

theorem procFullWrite_keepsSram (loc : Located) (a : Nat) (v : Word) (s : State) :
    KeepsSram s (procFullWrite loc a v s) := by
  refine (storeWord_keepsSram .proc loc a v s).frame ?_
  simp only [procFullWrite]
  split <;> simp

theorem procMerge_keepsSram (loc : Located) (acc : Access) (old : Word) (s : State) :
    KeepsSram s (procMerge loc acc old s) := by
  have hwritten (v : Word) : KeepsSram s (writeWord acc.word v
      { s with through := { s.through with merge := some v } }) := .trans (.of_frame (by simp)) (writeWord_keepsSram ..)
  exact (hwritten (mergeBytes old acc.data acc.enables)).frame (by simp [procMerge])

theorem procPartialWrite_keepsSram (loc : Located) (acc : Access) (s : State) :
    KeepsSram s (procPartialWrite loc acc s) := by
  unfold procPartialWrite
  split
  · exact procMerge_keepsSram ..
  · exact .trans (.of_frame (by simp)) (procMerge_keepsSram ..)
  · exact .of_frame (by simp [reportPartialRefused])
  · exact .of_frame (by simp [reportPartialRefused])

theorem procBurst_keepsSram (loc : Located) (acc : Access) (s : State) : KeepsSram s (procBurst loc acc s) := by
  unfold procBurst
  split
  · split
    · exact procFullWrite_keepsSram ..
    · exact procPartialWrite_keepsSram ..
  · exact (procRead_keepsSram loc acc.word s).frame (by simp)

theorem grantProc_keepsSram (s : State) : KeepsSram s (grantProc s) := by
  unfold grantProc
  split
  · exact .refl s
  split
  · exact .refl s
  split
  · exact .of_frame (by simp [refuseAccess, reportRefused])
  · exact (beginBurst_keepsSram .proc s).trans (procBurst_keepsSram ..)

@[simp] theorem regionEnd_overwritten (loc : Located) (s : State) :
    (regionEnd loc s).port.burst.map Burst.overwritten = s.port.burst.map Burst.overwritten := by
  unfold regionEnd regionCompare
  (repeat' split) <;> simp

@[simp] theorem advanceCursor_overwritten (loc : Located) (k : Nat) (s : State) :
    (advanceCursor loc k s).port.burst.map Burst.overwritten = s.port.burst.map Burst.overwritten := by
  simp only [advanceCursor]
  (repeat' split) <;> simp

@[simp] theorem dealWithBlock_overwritten (loc : Located) (k : Nat) (ws : List (Option Word)) (s : State) :
    (dealWithBlock loc k ws s).port.burst.map Burst.overwritten = s.port.burst.map Burst.overwritten := by
  simp only [dealWithBlock]
  (repeat' split) <;> simp

theorem grantPatrol_keepsSram (s : State) : KeepsSram s (grantPatrol s) := by
  refine (beginBurst_keepsSram (.background .patrol) s).trans ?_
  simp only [grantPatrol]
  split
  case h_1 => exact .refl _
  case h_2 i k _ =>
    split
    case h_1 => exact .refl _
    case h_2 loc _ =>
      have hread := scrubWords_keepsSram (.background .patrol) loc (blockWords (loc.region.first + k))
      exact (hread _).frame (by simp)

theorem copyForRestore_keepsSram (p : PortId) (s : State) : KeepsSram s (copyForRestore p s) := by
  unfold copyForRestore
  split
  case h_1 b _ _ =>
    split
    case h_1 loc _ =>
      have hscrubbed := scrubWords_keepsSram (.background .copy) loc (blockWords b) (takeBlock b s)
      exact .trans (.of_frame (by simp)) (hscrubbed.frame (by simp))
    case h_2 => exact .of_frame (by simp)
  case h_2 => exact .of_frame (by simp)

theorem copyForFetch_keepsSram (p : PortId) (s : State) : KeepsSram s (copyForFetch p s) := by
  simp only [copyForFetch]
  split
  case h_1 b _ =>
    split
    case h_1 loc _ =>
      have htaken : KeepsSram s { s with copy := { s.copy with
          answers := s.copy.answers.filter (fun x => decide (x.1 ≠ p)) } } := .of_frame (by simp)
      exact htaken.trans ((scrubWords_keepsSram (.background .copy) loc (blockWords b) _).frame (by simp))
    case h_2 => exact .of_frame (by simp)
  case h_2 => exact .of_frame (by simp)

/-- A burst begun in a state in which other fields have changed. -/
theorem beginBurst_keepsSram_of {s t : State} (c : Client) (h : t.sram = s.sram ∧ t.port.burst = s.port.burst) :
    KeepsSram s (beginBurst c t) :=
  .trans (.of_frame ⟨h.1, by rw [h.2]⟩) (beginBurst_keepsSram c t)

theorem grantCopy_keepsSram (s : State) : KeepsSram s (grantCopy s) := by
  have hbegun : KeepsSram s (beginBurst (.background .copy) { s with copy := { s.copy with job := none } }) :=
    beginBurst_keepsSram_of _ ⟨rfl, rfl⟩
  unfold grantCopy
  split
  · exact hbegun.trans (copyForRestore_keepsSram ..)
  · exact hbegun.trans (copyForFetch_keepsSram ..)
  · exact hbegun

theorem scanSlot_keepsSram (loc : Located) (j : Nat) (s : State) : KeepsSram s (scanSlot loc j s) := by
  have hread := scrubWords_keepsSram (.background .fill) loc
    ((List.range 8).map (fun k => 64 * loc.region.first + 8 * j + k)) s
  simp only [scanSlot]
  split
  · exact hread.frame (by simp)
  · exact hread

theorem scanSlots_keepsSram (loc : Located) (js : List Nat) (s : State) : KeepsSram s (scanSlots loc js s) := by
  induction js generalizing s with
  | nil => exact .refl s
  | cons j js ih => exact (scanSlot_keepsSram loc j s).trans (ih _)

theorem clearBlock_keepsSram (loc : Located) (b : Nat) (s : State) : KeepsSram s (clearBlock loc b s) := by
  unfold clearBlock
  split
  · split
    · exact fillWords_keepsSram ..
    · exact scanSlots_keepsSram ..
  · exact fillWords_keepsSram ..

theorem grantFill_keepsSram (s : State) : KeepsSram s (grantFill s) := by
  refine (beginBurst_keepsSram (.background .fill) s).trans ?_
  simp only [grantFill]
  split
  · split
    · exact .trans (.of_frame (by simp)) (clearBlock_keepsSram ..)
    · exact .of_frame (by simp)
  · exact .refl _

theorem recvBlock_keepsSram (b : Nat) (ws : List Word) (s : State) : KeepsSram s (recvBlock b ws s) := by
  simp only [recvBlock]
  split
  case h_1 loc _ =>
    have hstored := storeWords_keepsSram loc (64 * b) ws s
    split
    · exact hstored.frame (by simp)
    · exact hstored
  case h_2 => exact .refl s

theorem recvRepair_keepsSram (b : Nat) (ws : List Word) (s : State) : KeepsSram s (recvRepair b ws s) := by
  simp only [recvRepair]
  split
  case h_1 loc _ =>
    have hreread := rereadWords_keepsSram loc (blockWords b) s
    split
    · exact hreread.frame (by simp)
    · have hwritten := repairWords_keepsSram loc (64 * b) (rereadWords loc (blockWords b) s).1 ws
      exact (hreread.trans (hwritten _)).frame (by simp)
  case h_2 => exact .refl s

theorem grantRecv_keepsSram (s : State) : KeepsSram s (grantRecv s) := by
  have hbegun : KeepsSram s (beginBurst (.background .recv) { s with copy := { s.copy with received := none } }) :=
    beginBurst_keepsSram_of _ ⟨rfl, rfl⟩
  unfold grantRecv
  split
  · exact hbegun.trans (recvBlock_keepsSram ..)
  · exact hbegun.trans (recvRepair_keepsSram ..)
  · exact hbegun

theorem owePulse_keepsSram (s : State) : KeepsSram s (owePulse s) := .of_frame (by simp)

theorem grantLog_keepsSram (s : State) : KeepsSram s (grantLog s) := by
  refine (beginBurst_keepsSram (.background .log) s).trans ?_
  simp only [grantLog]
  split
  case h_1 sequence r rest region _ _ =>
    have hwritten (a : Nat) (ws : List Word) {t u : State} (l : LogWriter) (ht : KeepsSram u t) :
        KeepsSram u { writeWords a ws t with log := l } := (ht.trans (writeWords_keepsSram a ws t)).frame (by simp)
    refine .trans (hwritten _ _ _ ?_) (owePulse_keepsSram _)
    exact .of_frame (by simp)
  case h_2 => exact .refl _

theorem grantBackground_keepsSram (b : Background) (s : State) : KeepsSram s (grantBackground b s) := by
  cases b with
  | log => exact grantLog_keepsSram s
  | recv => exact grantRecv_keepsSram s
  | fill => exact grantFill_keepsSram s
  | copy => exact grantCopy_keepsSram s
  | patrol => exact grantPatrol_keepsSram s

theorem carryOut_keepsSram (c : Choice) (s : State) : KeepsSram s (carryOut c s) := by
  cases c with
  | proc => exact .trans (.of_frame (by simp)) (grantProc_keepsSram _)
  | background b drain => exact .trans (.of_frame (by simp)) (grantBackground_keepsSram b _)
  | free => exact .of_frame ⟨rfl, rfl⟩

theorem settle_keepsSram (s : State) : KeepsSram s (settle s) := by
  have hdecide (s : State) : KeepsSram s (arbitrate s) := by
    unfold arbitrate
    split
    · exact carryOut_keepsSram ..
    · exact .refl s
  exact (hdecide s).trans (hdecide _)

/-! The commands. -/

theorem effect_keepsSram {c : Instr} {s u : State} (h : Effect c s u) : KeepsSram s u := by
  obtain hfree | hover := effect_overwritten h
  · exact .of_free (effect_sram h) hfree
  · exact .of_frame ⟨effect_sram h, hover⟩

/-- A reset cuts a burst and leaves no other (R53, R153). -/
theorem exec_reset_keepsSram {c : Instr} {s t : State} (h : exec c s = .next t) (hc : isReset c = true) :
    KeepsSram s t := by
  cases c with
  | powerReset => cases h; exact ⟨fun _ => rfl, fun _ _ => cutLaw_of_free rfl⟩
  | pinReset straps written =>
    cases h
    refine ⟨fun hs => ?_, fun _ _ => cutLaw_of_free rfl⟩
    show sramCanonical (cutSram written s) = true
    unfold cutSram
    split
    · exact sramUndo_canonical _ hs
    · exact hs
  | _ => cases hc

theorem exec_keepsSram {c : Instr} {s t : State} (h : exec c s = .next t) : KeepsSram s t := by
  cases hc : isReset c with
  | true => exact exec_reset_keepsSram h hc
  | false =>
    obtain rfl | ⟨u, rfl, hu⟩ := exec_cases h hc
    · exact .refl _
    · exact (effect_keepsSram hu).trans (settle_keepsSram u)

theorem step_keepsSram {s t : State} (h : step s = .next t) : KeepsSram s t := by
  unfold step at h
  split at h
  case h_1 c rest _ => exact .trans (t := { s with pending := rest }) (.of_frame ⟨rfl, rfl⟩) (exec_keepsSram h)
  case h_2 =>
    cases h
    unfold idle
    split <;> exact .of_frame ⟨rfl, rfl⟩

/-- Settles O53: no effect touches the SRAM, and each grant keeps both laws word after word. -/
theorem everyStepKeepsTheSramCanonical : Obligations.EveryStepKeepsTheSramCanonical := fun _ _ hs h =>
  ⟨(step_keepsSram h).sram hs, (step_keepsSram h).cut hs⟩

end Sys2Proof.Machine
end

section
/-! A burst cut by a PIN reset (R53, R82): the cells written before it stand, and the others get back what they held. -/

namespace Sys2Proof.Machine

/-! The canonical form, and a write undone. -/

theorem sramCanonicalFrom_cons {low a : Nat} {c : SramCell} {m : List (Nat × SramCell)} :
    sramCanonicalFrom low ((a, c) :: m) = true ↔
      low ≤ a ∧ c ≠ unwrittenCell ∧ sramCanonicalFrom (a + 1) m = true := by
  simp [sramCanonicalFrom, and_assoc]

/-- The first cell of a canonical memory is listed in every memory that holds the same cells. -/
theorem le_of_sramRead_eq {low a b : Nat} {c d : SramCell} {m k : List (Nat × SramCell)}
    (hm : sramCanonicalFrom low ((a, c) :: m) = true) (hk : sramCanonicalFrom b ((b, d) :: k) = true)
    (h : sramRead ((a, c) :: m) a = sramRead ((b, d) :: k) a) : b ≤ a := by
  obtain ⟨-, hc, -⟩ := sramCanonicalFrom_cons.1 hm
  by_contra hlt
  rw [sramRead_of_lt hk (by omega), sramRead, if_pos rfl] at h
  exact hc h

/-- Canonical memories that hold the same cells are the same. -/
theorem sram_ext {low : Nat} {m k : List (Nat × SramCell)} (hm : sramCanonicalFrom low m = true)
    (hk : sramCanonicalFrom low k = true) (h : ∀ a, sramRead m a = sramRead k a) : m = k := by
  induction m generalizing low k with
  | nil =>
    cases k with
    | nil => rfl
    | cons e k =>
      obtain ⟨-, hd, -⟩ := sramCanonicalFrom_cons.1 hk
      exact absurd (by simpa [sramRead] using (h e.1).symm) hd
  | cons e m ih =>
    obtain ⟨a, c⟩ := e
    obtain ⟨-, hc, hmr⟩ := sramCanonicalFrom_cons.1 hm
    cases k with
    | nil => exact absurd (by simpa [sramRead] using h a) hc
    | cons e k =>
      obtain ⟨b, d⟩ := e
      obtain ⟨-, hd, hkr⟩ := sramCanonicalFrom_cons.1 hk
      have hba : b ≤ a := le_of_sramRead_eq hm (sramCanonicalFrom_cons.2 ⟨le_rfl, hd, hkr⟩) (h a)
      have hab : a ≤ b := le_of_sramRead_eq hk (sramCanonicalFrom_cons.2 ⟨le_rfl, hc, hmr⟩) (h b).symm
      obtain rfl : a = b := Nat.le_antisymm hab hba
      obtain rfl : c = d := by simpa [sramRead] using h a
      congr 1
      refine ih hmr hkr fun x => ?_
      by_cases hx : x = a
      · rw [sramRead_of_lt hmr (by omega), sramRead_of_lt hkr (by omega)]
      · simpa [sramRead, hx] using h x

/-- A cell written back to what it held: the memory is as before. -/
theorem sramWrite_undo {m : List (Nat × SramCell)} (a : Nat) (c : SramCell) (h : sramCanonical m = true) :
    sramWrite (sramWrite m a c) a (sramRead m a) = m := by
  have hw := sramWrite_canonical a c h
  refine sram_ext (sramWrite_canonical a _ hw) h fun b => ?_
  by_cases hb : b = a
  · rw [hb, sramRead_sramWrite_self _ _ hw]
  · rw [sramRead_sramWrite_of_ne _ hb, sramRead_sramWrite_of_ne _ hb]

/-! Cells written in order, and undone from the last on (R53). -/

theorem sramUndo_cons (m : List (Nat × SramCell)) (w : Nat × SramCell) (done : List (Nat × SramCell)) :
    sramUndo m (w :: done) = sramWrite (sramUndo m done) w.1 w.2 := by
  simp [sramUndo]

theorem sramUndo_writeCells {m : List (Nat × SramCell)} (ws : List (Nat × SramCell)) (h : sramCanonical m = true) :
    sramUndo (writeCells m ws) (cellsBefore m ws) = m := by
  induction ws generalizing m with
  | nil => rfl
  | cons w ws ih =>
    have hrest : sramUndo (writeCells m (w :: ws)) (cellsBefore (sramWrite m w.1 w.2) ws) = sramWrite m w.1 w.2 :=
      ih (sramWrite_canonical w.1 w.2 h)
    rw [cellsBefore, sramUndo_cons, hrest]
    exact sramWrite_undo w.1 w.2 h

theorem cellsBefore_addresses (m ws : List (Nat × SramCell)) : (cellsBefore m ws).map (·.1) = ws.map (·.1) := by
  induction ws generalizing m with
  | nil => rfl
  | cons w ws ih => simp [cellsBefore, ih]

theorem cellsBefore_drop (m ws : List (Nat × SramCell)) (n : Nat) :
    (cellsBefore m ws).drop n = cellsBefore (writeCells m (ws.take n)) (ws.drop n) := by
  induction n generalizing m ws with
  | zero => rfl
  | succ n ih =>
    cases ws with
    | nil => rfl
    | cons w ws => exact ih (sramWrite m w.1 w.2) ws

/-- The writes after the first `n` undone. -/
theorem sramUndo_drop {m : List (Nat × SramCell)} (ws : List (Nat × SramCell)) (n : Nat) (h : sramCanonical m = true) :
    sramUndo (writeCells m ws) ((cellsBefore m ws).drop n) = writeCells m (ws.take n) := by
  have hsplit : writeCells m ws = writeCells (writeCells m (ws.take n)) (ws.drop n) := by
    rw [← writeCells_append, List.take_append_drop]
  rw [hsplit, cellsBefore_drop]
  exact sramUndo_writeCells _ (writeCells_canonical _ h)

theorem cutSram_of_burst {s : State} {b : Burst} (h : s.port.burst = some b) (n : Nat) :
    cutSram n s = sramUndo s.sram (b.overwritten.drop n) := by
  simp only [cutSram, h]

/-- Settles O4: the writes after the cut undone, from the last on. -/
theorem pinResetCutsABurst : Obligations.PinResetCutsABurst := by
  intro s b straps written hb
  have hcut (m ws : List (Nat × SramCell)) (hm : sramCanonical m = true) (hover : b.overwritten = cellsBefore m ws)
      (hsram : s.sram = writeCells m ws) :
      ∃ t, exec (.pinReset straps written) s = .next t ∧ t.sram = writeCells m (ws.take written) := by
    refine ⟨_, rfl, ?_⟩
    show cutSram written s = _
    rw [cutSram_of_burst hb, hover, hsram]
    exact sramUndo_drop ws written hm
  refine ⟨hcut, fun hlaw => ?_⟩
  obtain ⟨m, ws, hm, hover, hsram⟩ := hlaw b hb
  obtain ⟨t, hexec, ht⟩ := hcut m ws hm hover hsram
  exact ⟨m, ws, t, by rw [hover, cellsBefore_addresses], hsram, hexec, ht⟩

end Sys2Proof.Machine
end

section
/-! The arbiter's decision (R45, R46, R47, R50): the cases of the choice, and the after-drain mark, which no
burst sets. -/

namespace Sys2Proof.Machine

/-! The after-drain mark stands through a burst (R47). -/

@[simp] theorem report_afterDrain (k : RecordKind) (n : Option Nat) (w d e : Word) (s : State) :
    (report k n w d e s).port.afterDrain = s.port.afterDrain := by simp [report]

@[simp] theorem reportNews_afterDrain (n : RepeatNews) (i a : Nat) (v : Word) (o : Origin) (s : State) :
    (reportNews n i a v o s).port.afterDrain = s.port.afterDrain := by
  unfold reportNews; split <;> simp

@[simp] theorem noteCorrected_afterDrain (c : Client) (loc : Located) (a : Nat) (v : Word) (y : Byte) (n : Nat)
    (s : State) : (noteCorrected c loc a v y n s).port.afterDrain = s.port.afterDrain := by
  simp only [noteCorrected]; (repeat' split) <;> simp

@[simp] theorem noteUncorrectable_afterDrain (c : Client) (loc : Located) (a : Nat) (y : Byte) (s : State) :
    (noteUncorrectable c loc a y s).port.afterDrain = s.port.afterDrain := by simp [noteUncorrectable]

@[simp] theorem noteAddressFault_afterDrain (c : Client) (loc : Located) (a : Nat) (y : Byte) (n : Nat) (s : State) :
    (noteAddressFault c loc a y n s).port.afterDrain = s.port.afterDrain := by simp [noteAddressFault]

@[simp] theorem writeWord_afterDrain (a : Nat) (v : Word) (s : State) :
    (writeWord a v s).port.afterDrain = s.port.afterDrain := by
  unfold writeWord; split <;> simp [writeCell]

@[simp] theorem setAtEnd_afterDrain (e : AtEnd) (s : State) : (setAtEnd e s).port.afterDrain = s.port.afterDrain := rfl

@[simp] theorem setDueAnswer_afterDrain (x : Answer) (s : State) :
    (setDueAnswer x s).port.afterDrain = s.port.afterDrain := rfl

@[simp] theorem beginBurst_afterDrain (c : Client) (s : State) :
    (beginBurst c s).port.afterDrain = s.port.afterDrain := rfl

@[simp] theorem scrubWords_afterDrain (c : Client) (loc : Located) (as : List Nat) (s : State) :
    (scrubWords c loc as s).2.port.afterDrain = s.port.afterDrain := by
  induction as generalizing s with
  | nil => rfl
  | cons a as ih =>
    simp only [scrubWords, ih, scrubWord]
    split <;> simp

@[simp] theorem fillWords_afterDrain (v : Word) (as : List Nat) (s : State) :
    (fillWords v as s).port.afterDrain = s.port.afterDrain := by
  induction as generalizing s with
  | nil => rfl
  | cons a as ih => simp [fillWords, ih]

@[simp] theorem writeWords_afterDrain (a : Nat) (vs : List Word) (s : State) :
    (writeWords a vs s).port.afterDrain = s.port.afterDrain := by
  induction vs generalizing a s with
  | nil => rfl
  | cons v vs ih => simp [writeWords, ih]

@[simp] theorem storeWord_afterDrain (c : Client) (loc : Located) (a : Nat) (v : Word) (s : State) :
    (storeWord c loc a v s).2.port.afterDrain = s.port.afterDrain := by
  unfold storeWord; (repeat' split) <;> simp

@[simp] theorem storeWords_afterDrain (loc : Located) (a : Nat) (vs : List Word) (s : State) :
    (storeWords loc a vs s).2.port.afterDrain = s.port.afterDrain := by
  induction vs generalizing a s with
  | nil => rfl
  | cons v vs ih => simp [storeWords, ih]

@[simp] theorem rereadWords_afterDrain (loc : Located) (as : List Nat) (s : State) :
    (rereadWords loc as s).2.port.afterDrain = s.port.afterDrain := by
  induction as generalizing s with
  | nil => rfl
  | cons a as ih =>
    simp only [rereadWords, ih, rereadWord]
    split <;> simp

@[simp] theorem repairWords_afterDrain (loc : Located) (a : Nat) (vs : List (Option Word)) (ws : List Word)
    (s : State) : (repairWords loc a vs ws s).port.afterDrain = s.port.afterDrain := by
  induction vs generalizing a ws s with
  | nil => cases ws <;> rfl
  | cons v vs ih =>
    cases ws with
    | nil => cases v <;> rfl
    | cons w ws =>
      cases v with
      | some _ => exact ih ..
      | none => rw [repairWords, ih]; simp [repairWord]

@[simp] theorem classRepair_afterDrain (loc : Located) (b : Nat) (s : State) :
    (classRepair loc b s).port.afterDrain = s.port.afterDrain := by
  unfold classRepair offerRepair; (repeat' split) <;> simp

@[simp] theorem procBurst_afterDrain (loc : Located) (acc : Access) (s : State) :
    (procBurst loc acc s).port.afterDrain = s.port.afterDrain := by
  simp only [procBurst, procFullWrite, procPartialWrite, procRead]
  (repeat' split) <;> simp [procMerge, procClassAction, reportPartialRefused]

theorem grantProc_afterDrain (s : State) : (grantProc s).port.afterDrain = s.port.afterDrain := by
  unfold grantProc; (repeat' split) <;> simp [refuseAccess, reportRefused]

@[simp] theorem regionEnd_afterDrain (loc : Located) (s : State) :
    (regionEnd loc s).port.afterDrain = s.port.afterDrain := by
  unfold regionEnd regionCompare; (repeat' split) <;> simp

@[simp] theorem advanceCursor_afterDrain (loc : Located) (k : Nat) (s : State) :
    (advanceCursor loc k s).port.afterDrain = s.port.afterDrain := by
  simp only [advanceCursor]; (repeat' split) <;> simp

@[simp] theorem dealWithBlock_afterDrain (loc : Located) (k : Nat) (ws : List (Option Word)) (s : State) :
    (dealWithBlock loc k ws s).port.afterDrain = s.port.afterDrain := by
  simp only [dealWithBlock]; (repeat' split) <;> simp

@[simp] theorem scanSlots_afterDrain (loc : Located) (js : List Nat) (s : State) :
    (scanSlots loc js s).port.afterDrain = s.port.afterDrain := by
  induction js generalizing s with
  | nil => rfl
  | cons j js ih =>
    simp only [scanSlots, ih, scanSlot]
    split <;> simp

@[simp] theorem clearBlock_afterDrain (loc : Located) (b : Nat) (s : State) :
    (clearBlock loc b s).port.afterDrain = s.port.afterDrain := by
  unfold clearBlock scanBlock; (repeat' split) <;> simp

@[simp] theorem recvBlock_afterDrain (b : Nat) (ws : List Word) (s : State) :
    (recvBlock b ws s).port.afterDrain = s.port.afterDrain := by
  simp only [recvBlock]; (repeat' split) <;> simp

@[simp] theorem recvRepair_afterDrain (b : Nat) (ws : List Word) (s : State) :
    (recvRepair b ws s).port.afterDrain = s.port.afterDrain := by
  simp only [recvRepair]; (repeat' split) <;> simp

@[simp] theorem copyForRestore_afterDrain (p : PortId) (s : State) :
    (copyForRestore p s).port.afterDrain = s.port.afterDrain := by
  unfold copyForRestore; (repeat' split) <;> simp

@[simp] theorem copyForFetch_afterDrain (p : PortId) (s : State) :
    (copyForFetch p s).port.afterDrain = s.port.afterDrain := by
  simp only [copyForFetch]; (repeat' split) <;> simp

theorem grantBackground_afterDrain (b : Background) (s : State) :
    (grantBackground b s).port.afterDrain = s.port.afterDrain := by
  cases b <;> simp only [grantBackground]
  case log => simp only [grantLog]; split <;> simp
  case recv => unfold grantRecv; split <;> simp
  case fill => simp only [grantFill]; (repeat' split) <;> simp
  case copy => unfold grantCopy; split <;> simp
  case patrol => simp only [grantPatrol]; (repeat' split) <;> simp

/-- Every decision clears the mark (R46, R47). -/
theorem carryOut_afterDrain (c : Choice) (s : State) : (carryOut c s).port.afterDrain = false := by
  cases c with
  | proc => exact grantProc_afterDrain _
  | background b drain => exact grantBackground_afterDrain b _
  | free => rfl

/-! The choice (R46, R50). -/

theorem arbitrate_of_request {s : State} (hb : s.port.burst = none) (hr : someRequest s.port = true) :
    arbitrate s = carryOut (choose s) s := by simp [arbitrate, hb, hr]

theorem choose_of_drain {s : State} {b : Background} {rest : List Background} (h : s.port.drain = some (b :: rest)) :
    choose s = .background b (some rest) := by simp only [choose, h]

theorem choose_of_afterDrain {s : State} (hd : s.port.drain = none) (ha : s.port.afterDrain = true)
    (hp : procGrantable s = true) : choose s = .proc := by simp [choose, hd, ha, hp]

theorem choose_of_overdue {s : State} {b : Background} {rest : List Background} (hd : s.port.drain = none)
    (hn : (s.port.afterDrain && procGrantable s) = false)
    (ho : overdueClients (settings s).waitLimit s.port = b :: rest) : choose s = .background b (some rest) := by
  simp only [choose, hd, hn, ho, Bool.false_eq_true, if_false]

/-- With nothing overdue PROC goes before the background clients (R46). -/
theorem choose_of_none_overdue {s : State} (hd : s.port.drain = none)
    (ho : overdueClients (settings s).waitLimit s.port = []) (hp : procGrantable s = true) : choose s = .proc := by
  simp [choose, hd, ho, hp]

/-- With nothing overdue and no PROC request to grant the first waiting background client is granted (R46). -/
theorem choose_of_waiting {s : State} (hd : s.port.drain = none)
    (ho : overdueClients (settings s).waitLimit s.port = []) (hp : procGrantable s = false) :
    (∀ b rest, waitingClients s.port = b :: rest → choose s = .background b none) ∧
      (waitingClients s.port = [] → choose s = .free) := by
  refine ⟨fun b rest hw => ?_, fun hw => ?_⟩ <;> simp [choose, hd, ho, hp, hw]

/-- PROC is chosen only where it is grantable (R50). -/
theorem procGrantable_of_choose {s : State} (h : choose s = .proc) : procGrantable s = true := by
  unfold choose at h
  (repeat' split at h) <;> simp_all

/-- Settles O2: by the cases of the choice. -/
theorem arbiterDecides : Obligations.ArbiterDecides := by
  intro s
  refine ⟨fun h => h.elim settle_of_burst settle_of_no_request, arbitrate_of_request, fun b rest => choose_of_drain,
    fun hdrain => ?_, fun hcatch hproc => ?_, fun hb hr => ?_⟩
  · refine ⟨fun ⟨hafter, hproc⟩ => choose_of_afterDrain hdrain hafter hproc, fun hn => ?_⟩
    have hnot : (s.port.afterDrain && procGrantable s) = false := by simpa using hn
    exact ⟨fun b rest => choose_of_overdue hdrain hnot, fun ho => ⟨choose_of_none_overdue hdrain ho,
      choose_of_waiting hdrain ho⟩⟩
  · have hgrantable := procGrantable_of_choose hproc
    simp [procGrantable, hcatch] at hgrantable
  · rw [arbitrate_of_request hb hr]
    exact carryOut_afterDrain ..

end Sys2Proof.Machine
end

section
/-! The end of a FILL burst (R43, R71, R131, R132, R158 to R160). -/

namespace Sys2Proof.Machine

/-- A FILL burst that leaves nothing else due ends with the next step of the clear pass. -/
theorem exec_fillBurstEnd {s : State} {b : Burst} (hb : s.port.burst = some b) (ho : b.owner = .background .fill)
    (he : b.atEnd = .nothing) (hn : NoVoteDue s) :
    exec .burstEnd s = .next (settle (placeLog (fillGoesOn (released b s)))) := by
  have hend : endBurst b s = placeLog (fillGoesOn (voteIfComplete (endWork b.atEnd (released b s)))) := by
    simp only [endBurst, if_pos ho]
    rfl
  rw [← burstEnd_nothing he hn, ← hend]
  simp only [exec, execBurstEnd, hb]
  rfl

/-! The three ways on (R43, R131, R160). -/

theorem fillGoesOn_of_next {s : State} {n : Nat} {j : Bool} (h : s.clear.pass = some { next := some n, joiner := j }) :
    fillGoesOn s = place .fill s := by simp only [fillGoesOn, h]

theorem fillGoesOn_of_joiner {s : State} (h : s.clear.pass = some { next := none, joiner := true }) :
    fillGoesOn s = endJoinerClear s := by simp only [fillGoesOn, h]

theorem fillGoesOn_of_starting {s : State} (h : s.clear.pass = some { next := none, joiner := false }) :
    fillGoesOn s = endStartingClear s := by simp only [fillGoesOn, h]

/-! A joiner's clear over (R71, R132). -/

theorem chooseSource_congr {s t : State} (hi : t.map.image = s.map.image) (hs : t.lines.straps = s.lines.straps)
    (hv : t.vote = s.vote) : chooseSource t = chooseSource s := by
  simp only [chooseSource, peers_congr hi hs, standing_congr (congrArg VoteUnit.view hv), hv]

theorem enterRequest_asks {s : State} {l : Lane} (h : chooseSource s = some l) :
    (enterRequest s).copy.asked = some l ∧
      (enterRequest s).copy.progress = some ((settings s).progressLimit * 1000) := by
  have hsame : chooseSource { s with copy := { s.copy with phase := .request } } = some l := h
  simp only [enterRequest, hsame, askPeer]
  split <;> exact ⟨by simp, by simp [ms, Config.ticksPerMs, settings]⟩

theorem enterRequest_phase (s : State) : (enterRequest s).copy.phase = .request := by
  simp only [enterRequest]
  split <;> simp

/-- The state in which a joiner whose clear is over asks: its patrol runs (R71). -/
def joinerCleared (s : State) : State := startPatrol { s with clear := { s.clear with pass := none } }

theorem endJoinerClear_of_joining {s : State} (hl : s.lane.state = .joining) (hp : s.copy.phase = .clear) :
    endJoinerClear s = enterRequest (joinerCleared s) := if_pos ⟨hl, hp⟩

/-! The clear pass of STARTING over (R159, R160). -/

theorem offer_position (r : Report) (s : State) : (offer r s).log.position = s.log.position := by
  unfold offer; (repeat' split) <;> simp

theorem reportClamped_position (s : State) : (reportClamped s).log.position = s.log.position := by
  unfold reportClamped; (repeat' split) <;> simp [report, offer_position]

theorem offerControl_position (p : PortId) (f : Frame) (s : State) :
    (offerControl p f s).log.position = s.log.position := by
  have hset (v : LinkPort) (u : State) : (setPort u p v).log = u.log := by simp
  unfold offerControl
  (repeat' split) <;> simp [txFull, linkError, report, offer_position]

theorem offerState_position (s : State) : (offerState s).log.position = s.log.position := by
  simp only [offerState, offerBoth, offerControl_position]

/-- The clear pass over and the writer started (R160 step 1). -/
def writerReady (s : State) : State := startWriter { s with clear := { s.clear with pass := none } }

/-- The STARTED report made (R160 step 2). -/
def writerStarted (s : State) : State := reportStarted (writerReady s)

/-- The state in which the clear pass of STARTING is over and the formation window runs (R160, R161). -/
def startingCleared (s : State) : State :=
  let u := offerState (reportClamped (writerStarted s))
  { u with lane := { u.lane with formation := some (ms (settings u).formationWindow) } }

theorem endStartingClear_eq (s : State) : endStartingClear s =
    if memberHeard (startingCleared s) then hearMember (startingCleared s) else startingCleared s := rfl

@[simp] theorem writerStarted_frame (s : State) : (writerStarted s).lines = s.lines ∧ (writerStarted s).map = s.map ∧
    (writerStarted s).vote = s.vote ∧ (writerStarted s).lane = s.lane ∧ (writerStarted s).port.burst = s.port.burst ∧
    (writerStarted s).clear = { s.clear with pass := none } ∧ (writerStarted s).log.running = true := by
  simp [writerStarted, writerReady, startWriter]

@[simp] theorem startingCleared_frame (s : State) : (startingCleared s).lines = s.lines ∧
    (startingCleared s).map = s.map ∧ (startingCleared s).vote = s.vote ∧
    (startingCleared s).port.burst = s.port.burst ∧ (startingCleared s).clear = { s.clear with pass := none } ∧
    (startingCleared s).log.running = true := by
  simp [startingCleared]

theorem startingCleared_lane (s : State) : (startingCleared s).lane =
    { s.lane with formation := some ((settings s).formationWindow * 1000) } := by
  simp [startingCleared, ms, Config.ticksPerMs, settings]

theorem startingCleared_position (s : State) :
    (startingCleared s).log.position = (scanResult s.clear.best (recordSlots s)).2 := by
  simp only [startingCleared, offerState_position, reportClamped_position, writerStarted, reportStarted, report,
    offer_position]
  rfl

theorem recordSlots_congr {s t : State} (h : t.map.image = s.map.image) : recordSlots t = recordSlots s := by
  simp only [recordSlots, logRegion_congr h]

theorem memberHeard_congr {s t : State} (hi : t.map.image = s.map.image) (hs : t.lines.straps = s.lines.straps)
    (hv : t.vote = s.vote) : memberHeard t = memberHeard s := by
  simp only [memberHeard, peers_congr hi hs, hv]

/-- The number after the newest record's (R159). -/
def numberAfter (best : Option (Nat × Nat)) : Nat :=
  match best with
  | some (n, _) => n + 1
  | none => 1

/-- The scan lets the writer go on with the number after the newest record's, unless that was the last (R159, R163). -/
theorem scanResult_next {best : Option (Nat × Nat)} (h : ∀ n j, best = some (n, j) → n < 4294967295) (slots : Nat) :
    (scanResult best slots).1 = some (numberAfter best) := by
  cases best with
  | none => rfl
  | some x =>
    have hlt : x.1 ≠ Config.lastSequence := Nat.ne_of_lt (h x.1 x.2 rfl)
    exact if_neg hlt

/-- A numbered report joins a queue with room (R163). -/
theorem offer_queue_of_room {s : State} {n : Nat} (r : Report) (hrun : s.log.running = true)
    (hn : s.log.next = some n) (hl : (logRegion s).isSome = true) (hq : s.log.queue.length < 8) :
    (offer r s).log.queue = s.log.queue ++ [(n, r)] := by
  have hroom : s.log.queue.length < Config.reportDepth := hq
  simp [offer, hrun, hn, hl, hroom]

/-- The STARTED report (R160, R170). -/
def startedReport (s : State) : Report :=
  makeReport s .started none 0
    (packFields [(ResetKind.code s.loader.reset, 0), (LaneState.code s.lane.retainedState, 8),
      (causeField s.lane.retainedCause, 16), (bit s.lane.retainedServing, 24)])
    (placeWord s.clear.valid)

theorem reportStarted_eq (s : State) : reportStarted s = offer (startedReport s) s := rfl

/-- STARTED is the first report the writer queues (R160, R163). -/
theorem writerStarted_queue {s : State} {n : Nat} (hr : (logRegion s).isSome = true) (hq : s.log.queue = [])
    (hn : (scanResult s.clear.best (recordSlots s)).1 = some n) :
    (writerStarted s).log.queue = [(n, startedReport (writerReady s))] := by
  have hqueue : (writerReady s).log.queue = [] := hq
  rw [writerStarted, reportStarted_eq, offer_queue_of_room (s := writerReady s) _ rfl hn hr (by simp [hqueue]), hqueue,
    List.nil_append]

theorem QueueGrows.head {s t : State} {x : Nat × Report} (h : QueueGrows s t) (hs : s.log.queue = [x]) :
    t.log.queue.head? = some x := by
  obtain ⟨more, hmore⟩ := h
  simp [hmore, hs]

theorem reportClamped_queueGrows (s : State) : QueueGrows s (reportClamped s) := by
  unfold reportClamped
  split
  · split
    · exact offer_queueGrows ..
    · exact .of_eq rfl
  · exact .of_eq rfl

theorem startingCleared_queueGrows (s : State) : QueueGrows (writerStarted s) (startingCleared s) :=
  ((reportClamped_queueGrows _).trans (offerState_queueGrows _)).trans (.of_eq rfl)

/-- A member peer heard while no burst is in progress (R121, R126). -/
theorem hearMember_of_free {s : State} (h : s.port.burst = none) :
    (hearMember s).lane.state = (if s.lines.supplyLow then .isolated else .joining) ∧
      (hearMember s).lines.hold = true := by
  have hfound : foundCause s = none := by simp only [foundCause, h]
  unfold hearMember
  split
  · simp
  · simp [hfound]

/-! The end of the burst. -/

theorem released_clear (b : Burst) (s : State) : (released b s).clear = s.clear := by simp

/-- Settles O27: by what the clear pass has left to do. -/
theorem fillBurstEndGoesOn : Obligations.FillBurstEndGoesOn := by
  intro s b hb ho he ha hn
  have hexec := exec_fillBurstEnd hb ho he hn
  have hfree : (released b s).port.burst = none := (released_burst b s).1
  have hburst : (fillGoesOn (released b s)).port.burst = none := by
    refine Option.map_eq_none_iff.1 ((fillGoesOn_overwritten _).trans ?_)
    rw [hfree]; rfl
  refine ⟨_, hexec, by rw [(placeLog_port _).1, hburst], by simp, by simp, by simp, fun n j hp => ?next,
    fun hp hjoin hphase => ?joiner, fun hp hheard => ?starting, fun hp hheard => ?heard⟩
  case next =>
    have hplaced := fillGoesOn_of_next (s := released b s) (n := n) (j := j) (by simpa using hp)
    rw [hplaced]
    obtain ⟨-, -, -, -, hages⟩ := placeLog_port (place .fill (released b s))
    refine ⟨State.ext (by simp [released_lines, released_through, ha]), ?_⟩
    rw [waits, hages .fill nofun]
    exact place_waits ..
  case joiner =>
    have hasks := fillGoesOn_of_joiner (s := released b s) (by simpa using hp)
    rw [endJoinerClear_of_joining (by simpa using hjoin) (by simpa using hphase)] at hasks
    have hsource : chooseSource (joinerCleared (released b s)) = chooseSource s :=
      chooseSource_congr (by simp [joinerCleared]) (by simp [joinerCleared]) (by simp [joinerCleared])
    have hsettings : settings (joinerCleared (released b s)) = settings s := settings_congr (by simp [joinerCleared])
    rw [hasks]
    refine ⟨?_, ?_, ?_, ?_, ?_, fun l hl => ?_⟩
    case refine_6 =>
      obtain ⟨hasked, hprogress⟩ := enterRequest_asks (hsource.trans hl)
      exact ⟨by simpa using hasked, by simpa [hsettings] using hprogress⟩
    all_goals simp [joinerCleared, startPatrol, enterRequest_phase, settings]
  case starting =>
    have hcleared := fillGoesOn_of_starting (s := released b s) (by simpa using hp)
    rw [endStartingClear_eq, memberHeard_congr (s := s) (by simp) (by simp) (by simp), hheard,
      if_neg Bool.false_ne_true] at hcleared
    have hsettings : settings (released b s) = settings s := settings_congr (by simp)
    rw [hcleared]
    refine ⟨by simp, by simp, by simp [startingCleared_lane, hsettings], by simp, ?_, fun r hr hq hbest => ?_⟩
    · rw [placeLog_log, startingCleared_position, recordSlots_congr (s := s) (by simp), released_clear]
      cases s.clear.best <;> rfl
    · have hregion : (logRegion (released b s)).isSome = true := by rw [logRegion_congr (s := s) (by simp), hr]; rfl
      have hnext : (scanResult (released b s).clear.best (recordSlots (released b s))).1 =
          some (numberAfter s.clear.best) := by rw [released_clear]; exact scanResult_next hbest _
      have hqueue := writerStarted_queue hregion (by simpa using hq) hnext
      refine ⟨startedReport (writerReady (released b s)), ?_, rfl, ?_⟩
      · rw [placeLog_log, (startingCleared_queueGrows _).head hqueue]
        rfl
      · rw [← released_clear b s]
        rfl
  case heard =>
    have hcleared := fillGoesOn_of_starting (s := released b s) (by simpa using hp)
    rw [endStartingClear_eq, memberHeard_congr (s := s) (by simp) (by simp) (by simp), hheard] at hcleared
    obtain ⟨hstate, hhold⟩ := hearMember_of_free (s := startingCleared (released b s)) (by simp)
    rw [hcleared]
    exact ⟨by simp, by simpa [released_lines] using hstate, by simpa using hhold⟩

end Sys2Proof.Machine
end

section
/-! Requests placed (R43, R45, R73, R93, R142). -/

namespace Sys2Proof.Machine

theorem setAge_ageOf (p : StorePort) (b : Background) : setAge p b (ageOf p b) = p := by cases b <;> rfl

/-- A request waits with the age it has, or with age zero (R43). -/
theorem place_eq (b : Background) (s : State) :
    place b s = { s with port := setAge s.port b (some ((ageOf s.port b).getD 0)) } := by
  unfold place waits
  cases h : ageOf s.port b with
  | none => rfl
  | some n =>
    have hsame : setAge s.port b (some n) = s.port := by rw [← h]; exact setAge_ageOf ..
    simp [hsame]

theorem isOverdue_max (p : StorePort) (b : Background) (limit n : Nat) :
    isOverdue limit (setAge p b (some (max n limit))) b = true := by simp [isOverdue]

/-- The restoration's next block is due where no FETCH answer is kept and the joiner's port has room (R142). -/
theorem copyDue_of_restore {s : State} {joiner : Lane} {attempt : Nat} {p : PortId} (ha : s.copy.answers = [])
    (hs : s.copy.serving = some (joiner, attempt)) (hp : portTo s joiner = some p) (hc : s.port.copyAge = none)
    (hb : holdsPort s.port (.background .copy) = false)
    (hr : (getPort s p).bulk.length + (getPort s p).reserved < 4) (hn : (blockToSend s.copy).isSome = true) :
    copyDue s = some (.restore p) := by
  obtain ⟨b, hblock⟩ := Option.isSome_iff_exists.1 hn
  have hidle : (waits s.port .copy || holdsPort s.port (.background .copy)) = false := by simp [waits, ageOf, hc, hb]
  have hfree : bulkFree (getPort s p) = true := bulkFree_iff.2 hr
  simp [copyDue, hidle, ha, hs, hblock, hp, hfree]

/-- Settles O28: each request placed is an age set. -/
theorem requestsArePlaced : Obligations.RequestsArePlaced := by
  intro s
  refine ⟨fun c n hage => ⟨?overdue, isOverdue_max ..⟩, fun hrun hpace => ?pace, fun hrun => ?stopped,
    fun joiner attempt p ha hs hp hc hb hr hn => ?copy⟩
  case overdue => simp only [exec, execRequestOverdue, hage, done]
  case pace =>
    refine ⟨_, if_pos (by simp [hrun, hpace]), place_waits .., ?_⟩
    exact place_eq ..
  case stopped => exact if_neg (by simp [hrun])
  case copy =>
    have hdue := copyDue_of_restore ha hs hp hc hb hr hn
    have hexec : exec .copyRequest s = .next (settle (place .copy (reserveSlot p
        { s with copy := { s.copy with job := some (.restore p) } }))) := by
      simp only [exec, execCopyRequest, hdue, done, CopyJob.port]
    refine ⟨_, hexec, ?_⟩
    rw [place_eq]
    cases p <;> simp [reserveSlot, setPort, setAge, ageOf, hc]

end Sys2Proof.Machine
end

section
/-! The queue of commands, the part's own steps, and the tick (R43, R86, R92, R94, R166, R172). -/

namespace Sys2Proof.Machine

/-! A command leaves the rest of the queue. -/

theorem effect_pending {c : Instr} {s u : State} (h : Effect c s u) : u.pending = s.pending := by
  cases h <;> simp

theorem exec_pending {c : Instr} {s t : State} (h : exec c s = .next t) : t.pending = s.pending := by
  cases hc : isReset c with
  | true =>
    cases c with
    | powerReset | pinReset => cases h; rfl
    | _ => cases hc
  | false =>
    obtain rfl | ⟨u, rfl, hu⟩ := exec_cases h hc
    · rfl
    · rw [(settle_frame u).2.2.2.1, effect_pending hu]

/-! The part's own steps (R92). -/

theorem deliverable_iff {s : State} {k : FrameKind} : deliverable s k = true ↔
    (k = .block ∨ k = .fetched → s.copy.received = none ∧ failureFound s = false) := by
  have htake : canTakeBlock s = true ↔ s.copy.received = none ∧ failureFound s = false := by simp [canTakeBlock]
  cases k <;> simp [deliverable, htake]

/-- The delivery due at a port is that of its head frame (R92). -/
theorem deliveryDue_eq_some {s : State} {p : PortId} {i : Instr} : deliveryDue s p = some i ↔
    ∃ f rest, (getPort s p).received = f :: rest ∧ (getPort s p).peer.isSome = true ∧
      (Frame.kind f = .block ∨ Frame.kind f = .fetched → s.copy.received = none ∧ failureFound s = false) ∧
      i = deliveryOf p (Frame.kind f) := by
  unfold deliveryDue
  split
  case h_1 f rest hf =>
    simp only [Option.ite_none_right_eq_some, Bool.and_eq_true, deliverable_iff, Option.some.injEq, hf, List.cons.injEq]
    constructor
    · rintro ⟨⟨hpeer, htake⟩, rfl⟩
      exact ⟨f, rest, ⟨rfl, rfl⟩, hpeer, htake, rfl⟩
    · rintro ⟨_, _, ⟨rfl, rfl⟩, hpeer, htake, rfl⟩
      exact ⟨⟨hpeer, htake⟩, rfl⟩
  case h_2 hf => simp [hf]

theorem exists_port {P : PortId → Prop} : (∃ p, P p) ↔ P .link1 ∨ P .link2 := by
  constructor
  · rintro ⟨p, hp⟩
    cases p
    · exact .inl hp
    · exact .inr hp
  · rintro (hp | hp) <;> exact ⟨_, hp⟩

theorem mem_ownSteps {s : State} {i : Instr} : i ∈ ownSteps s ↔ (∃ p, deliveryDue s p = some i) ∨
    (i = .admitVerify ∧ (verifyDue s).isSome = true) ∨ (i = .admitOffer ∧ (admitDue s).isSome = true) ∨
    (i = .repairStart ∧ (repairDue s).isSome = true) ∨ (i = .copyRequest ∧ (copyDue s).isSome = true) := by
  have hif (b : Bool) (j : Instr) : i ∈ (if b = true then [j] else []) ↔ i = j ∧ b = true := by cases b <;> simp
  simp only [ownSteps, List.mem_append, Option.mem_toList, hif, exists_port, or_assoc]

/-! The tick (R43, R86, R94, R172). -/

theorem mem_dueAt {t : Option Nat} {i j : Instr} : i ∈ dueAt t j ↔ ∃ n, n ≤ 1 ∧ t = some n ∧ i = j := by
  cases t with
  | none => simp [dueAt, expires]
  | some n =>
    by_cases hn : n ≤ 1
    · simp [dueAt, expires, hn]
    · simp [dueAt, expires, hn]

theorem mem_alertDue {s : State} {i : Instr} : i ∈ alertDue s ↔ ∃ n, n ≤ 1 ∧
    (s.log.pulseTick = some n ∧ s.log.phase = .high ∧ i = .alertHighTickEnd ∨
      s.log.pulseTick = some n ∧ s.log.phase = .low ∧ i = .alertPulseEnd) := by
  unfold alertDue
  cases s.log.phase with
  | high => simpa [dueAt] using mem_dueAt (t := s.log.pulseTick) (i := i) (j := .alertHighTickEnd)
  | low => simpa [dueAt] using mem_dueAt (t := s.log.pulseTick) (i := i) (j := .alertPulseEnd)
  | idle => simp

theorem mem_transmitterDue {p : PortId} {v : Transmitter} {i : Instr} : i ∈ transmitterDue p v ↔
    (∃ bytes n, v = .sending bytes n ∧ n ≤ 40 ∧ i = .transmitFrameEnd p) ∨
      (∃ n, v = .gap n ∧ n ≤ 40 ∧ i = .gapEnd p) := by
  have hclocks : Config.clocksPerTick = 40 := rfl
  cases v with
  | resting => simp [transmitterDue]
  | sending bytes n => by_cases hn : n ≤ 40 <;> simp [transmitterDue, hclocks, hn]
  | gap n => by_cases hn : n ≤ 40 <;> simp [transmitterDue, hclocks, hn]

theorem getPort_tick (s : State) (p : PortId) :
    getPort (tick s) p = { getPort s p with transmitter := tickTransmitter (getPort s p).transmitter } := by
  cases p <;> rfl

/-- Settles O1: the queue's front run on the rest, and on an empty queue the own steps and the tick. -/
theorem stepRunsTheFrontCommand : Obligations.StepRunsTheFrontCommand := by
  refine ⟨fun c rest s hq => ?front, fun s hq => ⟨fun i rest hown => ?own, fun i => ?steps, fun hown => ?tick⟩⟩
  case front =>
    have hstep : step s = exec c { s with pending := rest } := by simp only [step, hq]
    exact ⟨hstep, fun t ht => exec_pending (hstep.symm.trans ht)⟩
  case own => simp only [step, hq, idle, hown]
  case steps => simp only [mem_ownSteps, deliveryDue_eq_some]
  case tick =>
    refine ⟨tick s, by simp only [step, hq, idle, hown], rfl, fun p => ?line, fun i => ?expiries⟩
    case line =>
      rw [getPort_tick]
      cases (getPort s p).transmitter <;> rfl
    case expiries =>
      have hpending : (tick s).pending = expiries s := by simp [tick, hq]
      simp only [hpending, expiries, List.mem_append, mem_dueAt, mem_alertDue, mem_transmitterDue, exists_port,
        and_or_left, exists_or, or_assoc]
      exact or_congr_right or_left_comm

end Sys2Proof.Machine
end

section
/-! The signature arithmetic (R54, R55, R57, R63, R77, R79): what a delta, a run of words and the clear-state value come to. -/

namespace Sys2Proof.Machine

/-! Operations (R54). -/

theorem sigMul_lt (q x : Nat) : sigMul q x < Config.M := Nat.mod_lt _ (by decide)

theorem delta_lt (old new : Word) : delta old new < Config.M := by
  have ho := word_toNat_lt_M old
  have hn := word_toNat_lt_M new
  unfold delta sigSub
  split <;> omega

/-- The old word and the delta make the new word (R57). -/
theorem delta_add_modEq (old new : Word) : delta old new + old.toNat ≡ new.toNat [MOD Config.M] := by
  have ho := word_toNat_lt_M old
  unfold delta sigSub
  split
  case isTrue h => rw [Nat.sub_add_cancel h]
  case isFalse => rw [Nat.sub_add_cancel (by omega)]; simp [Nat.ModEq]

theorem delta_self (w : Word) : delta w w = 0 := by simp [delta, sigSub]

theorem pairAdd_eq {pr : Pair} (h : Pair.inRange pr) {d : Nat} (hd : d < Config.M) (p : Nat) :
    pairAdd pr p d = ⟨(pr.a + d) % Config.M, (pr.b + (p + 1) * d) % Config.M⟩ := by
  obtain ⟨ha, hb⟩ := h
  rw [pairAdd, sigAdd_eq_mod ha hd, sigAdd_eq_mod hb (sigMul_lt _ _), sigMul, Nat.add_mod_mod]

theorem pairAdd_inRange {pr : Pair} (h : Pair.inRange pr) {d : Nat} (hd : d < Config.M) (p : Nat) :
    Pair.inRange (pairAdd pr p d) := ⟨sigAdd_lt h.1 hd, sigAdd_lt h.2 (sigMul_lt _ _)⟩

theorem pairAdd_zero {pr : Pair} (h : Pair.inRange pr) (p : Nat) : pairAdd pr p 0 = pr := by
  rw [pairAdd_eq h (by decide)]
  obtain ⟨ha, hb⟩ := h
  simp [Nat.mod_eq_of_lt ha, Nat.mod_eq_of_lt hb]

theorem pairAdd_comm {pr : Pair} (h : Pair.inRange pr) {d e : Nat} (hd : d < Config.M) (he : e < Config.M) (p q : Nat) :
    pairAdd (pairAdd pr p d) q e = pairAdd (pairAdd pr q e) p d := by
  rw [pairAdd_eq (pairAdd_inRange h hd p) he, pairAdd_eq (pairAdd_inRange h he q) hd, pairAdd_eq h hd, pairAdd_eq h he]
  simp only [Nat.mod_add_mod, Nat.add_right_comm]

/-! Signatures (R55). -/

theorem seed_inRange {seed : Nat} (h : seed < Config.M) : Pair.inRange ⟨seed, 0⟩ := ⟨h, Nat.zero_lt_of_lt h⟩

theorem foldWords_inRange {pr : Pair} (h : Pair.inRange pr) (p : Nat) (ws : List Word) :
    Pair.inRange (foldWords pr p ws) := by
  rw [foldWords_eq h.1 h.2]
  exact ⟨Nat.mod_lt _ (by decide), Nat.mod_lt _ (by decide)⟩

theorem signatureOf_sums {seed : Nat} (h : seed < Config.M) (words : List Word) : signatureOf seed words =
    { a := (seed + (words.map BitVec.toNat).sum) % Config.M, b := weightedSum 0 words % Config.M } := by
  rw [signatureOf, foldWords_eq (seed_inRange h).1 (seed_inRange h).2, Nat.zero_add]

theorem signatureOf_inRange {seed : Nat} (h : seed < Config.M) (words : List Word) :
    Pair.inRange (signatureOf seed words) := foldWords_inRange (seed_inRange h) 0 words

theorem foldWords_append (pr : Pair) (p : Nat) (us vs : List Word) :
    foldWords pr p (us ++ vs) = foldWords (foldWords pr p us) (p + us.length) vs := by
  induction us generalizing pr p with
  | nil => rfl
  | cons u us ih =>
    simp only [List.cons_append, foldWords, ih, List.length_cons]
    congr 1
    omega

theorem map_getD_range (words : List Word) : (List.range words.length).map (fun p => words.getD p 0) = words :=
  List.ext_getElem (by simp) fun i _ h => by simp [List.getD_eq_getElem?_getD, List.getElem?_eq_getElem h]

theorem signatureOf_eq {seed : Nat} (h : seed < Config.M) (words : List Word) : signatureOf seed words =
    { a := (seed + ((List.range words.length).map (fun p => (words.getD p 0).toNat)).sum) % Config.M
      b := ((List.range words.length).map (fun p => (p + 1) * (words.getD p 0).toNat)).sum % Config.M } := by
  have hmap := map_getD_range words
  have hsum : (List.range words.length).map (fun p => (words.getD p 0).toNat) = words.map BitVec.toNat := by
    conv_rhs => rw [← hmap, List.map_map]
    rfl
  have hweighted := weightedSum_map_range (fun p => words.getD p 0) words.length
  rw [hmap] at hweighted
  rw [signatureOf_sums h, hsum, ← hweighted]

/-- Twice the weights of a uniform run (R63). -/
theorem two_mul_weightedSum_replicate (n : Nat) (w : Word) :
    2 * weightedSum 0 (List.replicate n w) = n * (n + 1) * w.toNat := by
  induction n with
  | zero => simp [weightedSum]
  | succ n ih =>
    rw [List.replicate_succ', weightedSum_append, Nat.mul_add, ih, List.length_replicate]
    ring

/-- The half of a product of neighbours, as the clear-state value forms it (R63). -/
theorem two_mul_triangle (n : Nat) : 2 * (if n % 2 = 0 then n / 2 * (n + 1) else (n + 1) / 2 * n) = n * (n + 1) := by
  split
  case isTrue h => rw [← Nat.mul_assoc, Nat.mul_div_cancel' (by omega)]
  case isFalse h => rw [← Nat.mul_assoc, Nat.mul_div_cancel' (by omega), Nat.mul_comm]

theorem clearPair_eq_signatureOf {seed : Nat} (h : seed < Config.M) (n : Nat) (fill : Word) :
    clearPair seed n fill = signatureOf seed (List.replicate n fill) := by
  have hweights : weightedSum 0 (List.replicate n fill) =
      fill.toNat * (if n % 2 = 0 then n / 2 * (n + 1) else (n + 1) / 2 * n) := by
    refine Nat.eq_of_mul_eq_mul_left (show 0 < 2 by decide) ?_
    rw [two_mul_weightedSum_replicate, Nat.mul_left_comm, two_mul_triangle, Nat.mul_comm]
  rw [signatureOf_sums h, hweights, List.map_replicate, List.sum_replicate, smul_eq_mul]
  simp only [clearPair, Nat.mul_mod_mod]

/-- Settles O10: the sums that folding the words forms. -/
theorem signatureIsTheWeightedSum : Obligations.SignatureIsTheWeightedSum :=
  fun _ n fill words h => ⟨clearPair_eq_signatureOf h n fill, signatureOf_eq h words⟩

/-! A word of the run replaced (R57). -/

theorem sum_set_add {words : List Word} {p : Nat} {old : Word} (h : words[p]? = some old) (new : Word) :
    ((words.set p new).map BitVec.toNat).sum + old.toNat = (words.map BitVec.toNat).sum + new.toNat := by
  induction words generalizing p with
  | nil => simp at h
  | cons w ws ih =>
    cases p with
    | zero =>
      obtain rfl : w = old := by simpa using h
      simp only [List.set_cons_zero, List.map_cons, List.sum_cons]
      omega
    | succ p =>
      have := ih (p := p) (by simpa using h)
      simp only [List.set_cons_succ, List.map_cons, List.sum_cons]
      omega

theorem weightedSum_set_add {words : List Word} {p : Nat} {old : Word} (h : words[p]? = some old) (new : Word) (q : Nat) :
    weightedSum q (words.set p new) + (q + p + 1) * old.toNat = weightedSum q words + (q + p + 1) * new.toNat := by
  induction words generalizing p q with
  | nil => simp at h
  | cons w ws ih =>
    cases p with
    | zero =>
      obtain rfl : w = old := by simpa using h
      simp only [List.set_cons_zero, weightedSum, Nat.add_zero]
      omega
    | succ p =>
      have := ih (p := p) (by simpa using h) (q + 1)
      rw [show q + (p + 1) + 1 = q + 1 + p + 1 by omega]
      simp only [List.set_cons_succ, weightedSum]
      omega

/-- Adding `q` deltas to a sum that holds the old word `q` times gives the sum with the new word in its place. -/
theorem sum_add_delta_modEq {before after q : Nat} {old new : Word}
    (h : after + q * old.toNat = before + q * new.toNat) : before + q * delta old new ≡ after [MOD Config.M] := by
  refine Nat.ModEq.add_right_cancel' (q * old.toNat) ?_
  rw [h, Nat.add_assoc, ← Nat.mul_add]
  exact Nat.ModEq.add_left _ (Nat.ModEq.mul_left _ (delta_add_modEq old new))

theorem pairAdd_signatureOf {seed : Nat} (hs : seed < Config.M) {words : List Word} {p : Nat} {old : Word}
    (h : words[p]? = some old) (new : Word) :
    pairAdd (signatureOf seed words) p (delta old new) = signatureOf seed (words.set p new) := by
  have hsum := sum_add_delta_modEq (q := 1) (by simpa only [Nat.one_mul] using sum_set_add h new)
  have hweights := sum_add_delta_modEq (by simpa only [Nat.zero_add] using weightedSum_set_add h new 0)
  rw [Nat.one_mul] at hsum
  rw [pairAdd_eq (signatureOf_inRange hs words) (delta_lt old new)]
  simp only [signatureOf_sums hs, Nat.mod_add_mod, Nat.add_assoc]
  exact congrArg₂ Pair.mk (Nat.ModEq.add_left seed hsum) hweights

/-! Words folded by the patrol (R77, R79). -/

theorem foldRead_some (pr : Pair) (p : Nat) (ws : List Word) : foldRead pr p (ws.map some) = foldWords pr p ws := by
  induction ws generalizing pr p with
  | nil => rfl
  | cons w ws ih => exact ih ..

theorem patrolAdjust_below {region k p d : Nat} {pt : Patrol} {acc : Pair} (hc : pt.cursor = some (region, k))
    (ha : pt.accumulator = some acc) (hp : p / 64 < k) :
    patrolAdjust region p d pt = { pt with accumulator := some (pairAdd acc p d) } := by
  simp [patrolAdjust, hc, ha, hp]

theorem patrolAdjust_elsewhere {region r k p d : Nat} {pt : Patrol} (hc : pt.cursor = some (region, k))
    (h : r ≠ region ∨ k ≤ p / 64) : patrolAdjust r p d pt = pt := by
  unfold patrolAdjust
  rw [hc]
  split
  case h_1 hx _ =>
    cases hx
    exact if_neg (by omega)
  case h_2 => rfl

/-- Settles O12: folding is the signature of the words read, which a delta carries to the words written. -/
theorem patrolFoldsTheSignature : Obligations.PatrolFoldsTheSignature := by
  intro seed done rest hs
  simp only [foldRead_some]
  refine ⟨rfl, ?continued, fun p region k old new pt hold hp hc ha => ⟨?below, fun d q hq => ?above, fun d q r hr => ?other⟩⟩
  case continued => rw [signatureOf, foldWords_append, Nat.zero_add]
  case below =>
    rw [patrolAdjust_below hc ha hp]
    exact congrArg (fun x => { pt with accumulator := some x }) (pairAdd_signatureOf hs hold new)
  case above => exact patrolAdjust_elsewhere hc (.inr hq)
  case other => exact patrolAdjust_elsewhere hc (.inl hr)

end Sys2Proof.Machine
end

section
/-! The law of the signature values (R54): every step keeps every live, snapshot and accumulator value below M. -/

namespace Sys2Proof.Machine

/-- The law reads the signature unit, the accumulator and the image. -/
theorem PairLaw.congr {s t : State} (h : PairLaw s) (g : t.sig = s.sig ∧
    t.patrol.accumulator = s.patrol.accumulator ∧ t.map.image = s.map.image) : PairLaw t := by
  unfold PairLaw at *
  simpa only [g] using h

/-- New live pairs or a new accumulator, each in range. -/
theorem PairLaw.of_inRange {s t : State} (h : PairLaw s) (hlive : ∀ p ∈ t.sig.live, Pair.inRange p)
    (hsnap : t.sig.snap = s.sig.snap) (hacc : ∀ p, t.patrol.accumulator = some p → Pair.inRange p)
    (hi : t.map.image = s.map.image) : PairLaw t := by
  obtain ⟨-, hs, -, hr⟩ := h
  exact ⟨hlive, hsnap ▸ hs, hacc, hi ▸ hr⟩

/-! The accumulator stands through lane control, the vote and the end of a burst. -/

@[simp] theorem isolate_accumulator (c : Cause) (n : Option Nat) (s : State) :
    (isolate c n s).patrol.accumulator = s.patrol.accumulator := by
  unfold isolate startPatrol; split <;> simp

@[simp] theorem leave_accumulator (c : Cause) (n : Option Nat) (s : State) :
    (leave c n s).patrol.accumulator = s.patrol.accumulator := by
  unfold leave; split <;> simp

@[simp] theorem handOnVote_accumulator (own : Lane) (g : Option Word) (e : VoteEntry) (rs : List SlotResult)
    (s : State) : (handOnVote own g e rs s).patrol.accumulator = s.patrol.accumulator := by
  unfold handOnVote; (repeat' split) <;> simp

@[simp] theorem castVote_accumulator (e : VoteEntry) (s : State) :
    (castVote e s).patrol.accumulator = s.patrol.accumulator := by
  unfold castVote; simp only; (repeat' split) <;> simp

@[simp] theorem voteIfComplete_accumulator (s : State) :
    (voteIfComplete s).patrol.accumulator = s.patrol.accumulator := by
  unfold voteIfComplete; split <;> simp

@[simp] theorem closeEarlier_accumulator (s : State) : (closeEarlier s).patrol.accumulator = s.patrol.accumulator := by
  unfold closeEarlier; split <;> simp

@[simp] theorem voteOrWait_accumulator (s : State) : (voteOrWait s).patrol.accumulator = s.patrol.accumulator := by
  unfold voteOrWait; (repeat' split) <;> simp

@[simp] theorem copyClassAction_accumulator (b : Nat) (s : State) :
    (copyClassAction b s).patrol.accumulator = s.patrol.accumulator := by
  unfold copyClassAction; (repeat' split) <;> simp

@[simp] theorem endWork_accumulator (e : AtEnd) (s : State) :
    (endWork e s).patrol.accumulator = s.patrol.accumulator := by
  unfold endWork; (repeat' split) <;> simp

@[simp] theorem endJoinerClear_accumulator (s : State) :
    (endJoinerClear s).patrol.accumulator = s.patrol.accumulator := by
  unfold endJoinerClear startPatrol; simp only; split <;> simp

@[simp] theorem enterForming_accumulator (s : State) : (enterForming s).patrol.accumulator = s.patrol.accumulator := by
  simp [enterForming, startPatrol]

@[simp] theorem joinArrives_accumulator (p : PortId) (l : Lane) (n : Nat) (x : Pair) (s : State) :
    (joinArrives p l n x s).patrol.accumulator = s.patrol.accumulator := by
  unfold joinArrives acceptJoin; (repeat' split) <;> simp

@[simp] theorem noticeArrives_accumulator (l : Lane) (w : Word) (s : State) :
    (noticeArrives l w s).patrol.accumulator = s.patrol.accumulator := by
  unfold noticeArrives; split <;> simp

@[simp] theorem admittedArrives_accumulator (l : Lane) (n : Nat) (w : Word) (s : State) :
    (admittedArrives l n w s).patrol.accumulator = s.patrol.accumulator := by
  unfold admittedArrives; split <;> simp

@[simp] theorem mismatchArrives_accumulator (l : Lane) (n k : Nat) (s : State) :
    (mismatchArrives l n k s).patrol.accumulator = s.patrol.accumulator := by
  unfold mismatchArrives; split <;> simp

@[simp] theorem abandonArrives_accumulator (l : Lane) (n : Nat) (c : Cause) (s : State) :
    (abandonArrives l n c s).patrol.accumulator = s.patrol.accumulator := by
  unfold abandonArrives; (repeat' split) <;> simp

@[simp] theorem giveUpServing_accumulator (c : Cause) (s : State) :
    (giveUpServing c s).patrol.accumulator = s.patrol.accumulator := by simp [giveUpServing]

@[simp] theorem progressExpires_accumulator (s : State) :
    (progressExpires s).patrol.accumulator = s.patrol.accumulator := by
  simp only [progressExpires, silentInRequest]; (repeat' split) <;> simp

@[simp] theorem holdExpires_accumulator (s : State) : (holdExpires s).patrol.accumulator = s.patrol.accumulator := by
  simp only [holdExpires, holdRunsOut]; (repeat' split) <;> simp

/-! The clear-state values and the region start (R63, R64, R75). -/

theorem clearPair_inRange (seed n : Nat) (fill : Word) : Pair.inRange (clearPair seed n fill) :=
  ⟨Nat.mod_lt _ (by decide), Nat.mod_lt _ (by decide)⟩

theorem clearPairs_inRange {im : Image} {p : Pair} (h : p ∈ Image.clearPairs im) : Pair.inRange p := by
  obtain ⟨x, -, rfl⟩ := List.mem_map.1 h
  exact clearPair_inRange ..

theorem clearLivePairs_pairLaw {s : State} (h : PairLaw s) : PairLaw (clearLivePairs s) := by
  refine h.of_inRange (fun p hp => ?_) rfl h.2.2.1 rfl
  simp only [clearLivePairs] at hp
  split at hp
  · exact clearPairs_inRange hp
  · cases hp

/-- A region start gives the accumulator the seed of one of at most 32 regions. -/
theorem regionStart_pairLaw {s : State} (h : PairLaw s) (i : Nat) : PairLaw (regionStart i s) := by
  obtain ⟨hlive, -, -, hregions⟩ := id h
  refine h.of_inRange hlive rfl (fun p hp => ?_) rfl
  simp only [regionStart, modifyStatus] at hp
  split at hp
  case h_1 loc hl =>
    split at hp
    case isTrue =>
      cases hp
      obtain ⟨im, him, hr, -, -⟩ := locateRegion_eq_some hl
      have hlt : i < im.regions.length := (List.getElem?_eq_some_iff.1 hr).1
      have hle := hregions im him
      exact seed_inRange (lt_trans (show seedOf i < 33 by unfold seedOf; omega) (by decide))
    case isFalse => cases hp
  case h_2 => cases hp

theorem restartPatrol_pairLaw {s : State} (h : PairLaw s) : PairLaw (restartPatrol s) :=
  (regionStart_pairLaw (h.congr (t := { s with patrol := { s.patrol with pass := s.patrol.pass + 1, cursor := some (0, 0) } })
    ⟨rfl, rfl, rfl⟩) 0).congr (by simp [restartPatrol])

theorem clearStart_pairLaw {s : State} (h : PairLaw s) : PairLaw (clearStart s) :=
  (restartPatrol_pairLaw ((clearLivePairs_pairLaw h).congr (t := { clearLivePairs s with map := { (clearLivePairs s).map with
    status := (clearLivePairs s).map.status.map (fun r => { r with broken := false }) } }) ⟨rfl, rfl, rfl⟩)).congr
    ⟨rfl, rfl, rfl⟩

theorem prepareAttempt_pairLaw {s : State} (h : PairLaw s) : PairLaw (prepareAttempt s) :=
  (clearStart_pairLaw (h.congr (t := dropReceived (dropRepairWork
    { s with copy := { s.copy with attempt := nextAttempt s.copy.attempt, admittedBy := none } })) (by simp))).congr
    (by simp [prepareAttempt])

theorem startAttempt_pairLaw {s : State} (h : PairLaw s) : PairLaw (startAttempt s) := by
  rw [startAttempt_eq]
  split
  · exact (prepareAttempt_pairLaw h).congr (by simp)
  · exact prepareAttempt_pairLaw h

theorem enterJoining_pairLaw {s : State} (h : PairLaw s) (g : Trigger) : PairLaw (enterJoining g s) := by
  have hoffer : ∀ u, PairLaw u → PairLaw (offerState u) := fun u hu => hu.congr (by simp)
  exact hoffer _ (startAttempt_pairLaw (h.congr (by simp)))

theorem hearMember_pairLaw {s : State} (h : PairLaw s) : PairLaw (hearMember s) := by
  unfold hearMember
  split
  · exact h.congr (by simp)
  · split
    · exact h.congr (by simp)
    · exact enterJoining_pairLaw h _

/-- A new image brings its clear-state values, zero snapshots, and at most 32 regions (R155, R157). -/
theorem loadTables_pairLaw {straps : Nat} {words : List Word} {im : Image} {s : State} (h : PairLaw s)
    (hi : loadImage? straps words = some im) : PairLaw (loadTables im s) := by
  refine ⟨fun p hp => clearPairs_inRange hp, fun p hp => ?_, h.2.2.1, fun im' him => ?_⟩
  · obtain ⟨-, -, rfl⟩ := List.mem_map.1 hp
    exact ⟨by decide, by decide⟩
  · cases him
    have hr := loadImage?_eq_some.1 hi
    rw [hr.regions]
    exact hr.regions_le

theorem acceptImage_pairLaw {straps : Nat} {words : List Word} {im : Image} {s : State} (h : PairLaw s)
    (hi : loadImage? straps words = some im) : PairLaw (acceptImage im s) := by
  have hclear : ∀ u, PairLaw u → PairLaw (beginClear false u) := fun u hu => hu.congr (by simp)
  exact hclear _ (restartPatrol_pairLaw (loadTables_pairLaw h hi))

/-! The commands. -/

theorem discover_pairLaw {s : State} (h : PairLaw s) (x : LaneState) (b : Bool) : PairLaw (discover x b s) := by
  unfold discover
  split
  · exact hearMember_pairLaw h
  · exact h

theorem signatureArrives_pairLaw {s : State} (h : PairLaw s) (l : Lane) (c : Word) (f : PeerFrame) :
    PairLaw (signatureArrives l c f s) := by
  simp only [signatureArrives]
  refine discover_pairLaw ?_ ..
  split <;> exact h.congr (by simp)

theorem stateArrives_pairLaw {s : State} (h : PairLaw s) (l : Lane) (x : LaneState) (w : Word) :
    PairLaw (stateArrives l x w s) := by
  unfold stateArrives
  exact discover_pairLaw (h.congr (by simp)) ..

theorem endStartingClear_pairLaw {s : State} (h : PairLaw s) : PairLaw (endStartingClear s) := by
  have hcleared : PairLaw (startingCleared s) := h.congr (by simp [startingCleared, writerStarted, writerReady])
  rw [endStartingClear_eq]
  split
  · exact hearMember_pairLaw hcleared
  · exact hcleared

theorem fillGoesOn_pairLaw {s : State} (h : PairLaw s) : PairLaw (fillGoesOn s) := by
  unfold fillGoesOn
  split
  · exact h.congr (by simp)
  · exact h.congr (by simp)
  · exact endStartingClear_pairLaw h
  · exact h

theorem endBurst_pairLaw {s : State} (h : PairLaw s) (b : Burst) : PairLaw (endBurst b s) := by
  have hplace : ∀ u, PairLaw u → PairLaw (placeLog u) := fun u hu => hu.congr (by simp)
  have hend : PairLaw (voteIfComplete (endWork b.atEnd (released b s))) := h.congr (by simp)
  refine hplace _ ?_
  change PairLaw (if b.owner = .background .fill then fillGoesOn (voteIfComplete (endWork b.atEnd (released b s)))
    else voteIfComplete (endWork b.atEnd (released b s)))
  split
  · exact fillGoesOn_pairLaw hend
  · exact hend

/-- An own mark takes the live pairs as the snapshot (R65, R100). -/
theorem takeMark_pairLaw {s : State} (h : PairLaw s) : PairLaw (takeMark s) := by
  have hclosed : PairLaw (closeEarlier (raiseCounter s)) := h.congr (by simp)
  simp only [takeMark]
  split
  · obtain ⟨hsig, hmap⟩ := completeMark_sig_map (closeEarlier (raiseCounter s))
    obtain ⟨hlive, -, hacc, hregions⟩ := hclosed
    refine ⟨by rwa [hsig], by rwa [hsig], ?_, by rwa [hmap]⟩
    rw [completeMark_eq]
    simpa using hacc
  · exact hclosed

theorem retryExpires_pairLaw {s : State} (h : PairLaw s) : PairLaw (retryExpires s) := by
  unfold retryExpires
  split
  · exact h.congr (by simp)
  · exact enterJoining_pairLaw (h.congr (by simp)) _

theorem effect_pairLaw {c : Instr} {s u : State} (h : PairLaw s) (he : Effect c s u) : PairLaw u := by
  cases he with
  | imageAccepted _ hi => exact acceptImage_pairLaw h hi
  | burstEnd => exact endBurst_pairLaw h _
  | ownMark => exact takeMark_pairLaw h
  | retryTimerExpiry => exact retryExpires_pairLaw h
  | restoreEdge | supplyLowRetry => exact enterJoining_pairLaw (h.congr (by simp)) _
  | signatureDelivery => exact signatureArrives_pairLaw (h.congr (by simp)) ..
  | stateDelivery => exact stateArrives_pairLaw (h.congr (by simp)) ..
  | _ => exact h.congr (by simp)

/-! The bursts. -/

/-- A delta is added to the live pair of its slot, and to an accumulator whose walk has passed the word (R57, R79). -/
theorem applyDelta_pairLaw {s : State} (h : PairLaw s) (loc : Located) (a : Nat) (old new : Word) :
    PairLaw (applyDelta loc a old new s) := by
  obtain ⟨hlive, -, hacc, -⟩ := id h
  have hadd : ∀ pr, Pair.inRange pr → Pair.inRange (pairAdd pr (positionIn loc.region a) (delta old new)) := fun _ hpr =>
    pairAdd_inRange hpr (delta_lt old new) _
  unfold applyDelta
  split
  case h_2 => exact h
  case h_1 k _ =>
    refine h.of_inRange (fun p hp => ?_) rfl (fun p hp => ?_) rfl
    · obtain ⟨x, hx, rfl | rfl⟩ := mem_modify_cases hp
      · exact hadd x (hlive x hx)
      · exact hlive _ hx
    · simp only [patrolAdjust] at hp
      split at hp
      case h_2 => exact hacc p hp
      case h_1 acc _ hsome =>
        split at hp
        · cases hp
          exact hadd acc (hacc acc hsome)
        · exact hacc p hp

theorem storeWord_pairLaw {s : State} (h : PairLaw s) (c : Client) (loc : Located) (a : Nat) (v : Word) :
    PairLaw (storeWord c loc a v s).2 := by
  unfold storeWord
  split
  · exact h.congr (by simp)
  split
  case h_1 | h_2 => exact applyDelta_pairLaw (h.congr (by simp)) ..
  case h_3 | h_4 => exact h.congr (by simp)

theorem storeWords_pairLaw {s : State} (h : PairLaw s) (loc : Located) (a : Nat) (ws : List Word) :
    PairLaw (storeWords loc a ws s).2 := by
  induction ws generalizing a s with
  | nil => exact h
  | cons w ws ih => exact ih (storeWord_pairLaw h ..) _

theorem procFullWrite_pairLaw {s : State} (h : PairLaw s) (loc : Located) (a : Nat) (v : Word) :
    PairLaw (procFullWrite loc a v s) := by
  obtain ⟨hsig, hpatrol, hmap, -⟩ := procFullWrite_same loc a v s
  exact (storeWord_pairLaw h .proc loc a v).congr ⟨hsig, by rw [hpatrol], by rw [hmap]⟩

theorem procMerge_pairLaw {s : State} (h : PairLaw s) (loc : Located) (acc : Access) (old : Word) :
    PairLaw (procMerge loc acc old s) := by
  have hend : ∀ u x, PairLaw u → PairLaw (setDueAnswer x (handToCopyEngine loc (blockOf acc.word) u)) := fun u x hu =>
    hu.congr (by simp)
  exact hend _ _ (applyDelta_pairLaw (h.congr (by simp)) ..)

theorem procPartialWrite_pairLaw {s : State} (h : PairLaw s) (loc : Located) (acc : Access) :
    PairLaw (procPartialWrite loc acc s) := by
  unfold procPartialWrite
  split
  case h_1 => exact procMerge_pairLaw h ..
  case h_2 => exact procMerge_pairLaw (h.congr (by simp)) ..
  case h_3 | h_4 => exact h.congr (by simp)

theorem grantProc_pairLaw {s : State} (h : PairLaw s) : PairLaw (grantProc s) := by
  unfold grantProc
  split
  · exact h
  split
  · exact h
  split
  · exact h.congr (by simp)
  have hbegun : PairLaw (beginBurst .proc s) := h.congr ⟨rfl, rfl, rfl⟩
  unfold procBurst
  split
  · split
    · exact procFullWrite_pairLaw hbegun ..
    · exact procPartialWrite_pairLaw hbegun ..
  · exact hbegun.congr (by simp)

theorem foldRead_inRange {acc : Pair} (h : Pair.inRange acc) (p : Nat) (ws : List (Option Word)) :
    Pair.inRange (foldRead acc p ws) := by
  induction ws generalizing acc p with
  | nil => exact h
  | cons w ws ih =>
    cases w with
    | none => exact ih h _
    | some w => exact ih (pairAdd_inRange h (word_toNat_lt_M w) p) _

theorem dealWithBlock_pairLaw {s : State} (h : PairLaw s) (loc : Located) (k : Nat) (ws : List (Option Word)) :
    PairLaw (dealWithBlock loc k ws s) := by
  obtain ⟨hlive, -, hacc, -⟩ := id h
  refine h.of_inRange (by simpa using hlive) (by simp) (fun p hp => ?_) (by simp)
  rw [dealWithBlock_patrol, foldedPatrol] at hp
  split at hp
  · obtain ⟨acc, ha, rfl⟩ := Option.map_eq_some_iff.1 hp
    exact foldRead_inRange (hacc acc ha) _ ws
  · exact hacc p hp

theorem advanceCursor_pairLaw {s : State} (h : PairLaw s) (loc : Located) (k : Nat) :
    PairLaw (advanceCursor loc k s) := by
  obtain hk | hk := Nat.lt_or_ge (k + 1) loc.region.count
  · rw [advanceCursor_of_lt s hk]
    exact h.congr ⟨rfl, rfl, rfl⟩
  · rw [advanceCursor_of_last s hk, nextRegion]
    split <;> exact regionStart_pairLaw (h.congr (by simp)) _

theorem grantPatrol_pairLaw {s : State} (h : PairLaw s) : PairLaw (grantPatrol s) := by
  simp only [grantPatrol]
  split
  · exact h.congr (by simp)
  split
  · exact h.congr (by simp)
  · exact advanceCursor_pairLaw (dealWithBlock_pairLaw (h.congr (by simp)) ..) ..

theorem recvBlock_pairLaw {s : State} (h : PairLaw s) (b : Nat) (ws : List Word) : PairLaw (recvBlock b ws s) := by
  simp only [recvBlock]
  split
  case h_2 => exact h
  case h_1 loc _ =>
    have hstored := storeWords_pairLaw h loc (64 * b) ws
    split
    · exact hstored.congr (by simp)
    · exact hstored

theorem grantRecv_pairLaw {s : State} (h : PairLaw s) : PairLaw (grantRecv s) := by
  unfold grantRecv
  simp only
  split
  · exact recvBlock_pairLaw (h.congr (by simp)) ..
  · exact h.congr (by simp)
  · exact h.congr (by simp)

theorem settle_pairLaw {s : State} (h : PairLaw s) : PairLaw (settle s) := by
  have hgrant : ∀ b u, PairLaw u → PairLaw (grantBackground b u) := fun b u hu => by
    cases b with
    | recv => exact grantRecv_pairLaw hu
    | patrol => exact grantPatrol_pairLaw hu
    | log | fill | copy => exact hu.congr (by simp [grantBackground])
  have harb : ∀ u, PairLaw u → PairLaw (arbitrate u) := fun u hu => by
    unfold arbitrate carryOut
    (repeat' split)
    · exact grantProc_pairLaw (hu.congr ⟨rfl, rfl, rfl⟩)
    · exact hgrant _ _ (hu.congr ⟨rfl, rfl, rfl⟩)
    · exact hu.congr ⟨rfl, rfl, rfl⟩
    · exact hu
  exact harb _ (harb _ h)

theorem exec_pairLaw {c : Instr} {s t : State} (hs : PairLaw s) (h : exec c s = .next t) : PairLaw t := by
  cases hc : isReset c with
  | true =>
    cases c with
    | powerReset | pinReset => cases h; exact ⟨nofun, nofun, nofun, nofun⟩
    | _ => cases hc
  | false =>
    obtain rfl | ⟨u, rfl, hu⟩ := exec_cases h hc
    · exact hs
    · exact settle_pairLaw (effect_pairLaw hs hu)

theorem step_pairLaw {s t : State} (hs : PairLaw s) (h : step s = .next t) : PairLaw t := by
  unfold step at h
  split at h
  case h_1 c rest _ => exact exec_pairLaw (s := { s with pending := rest }) (hs.congr ⟨rfl, rfl, rfl⟩) h
  case h_2 =>
    cases h
    unfold idle
    split <;> exact hs.congr ⟨rfl, rfl, rfl⟩

theorem applyDelta_sig_of_slot {loc : Located} {k : Nat} (h : loc.slot = some k) (a : Nat) (old new : Word) (s : State) :
    (applyDelta loc a old new s).sig = { s.sig with live := s.sig.live.modify k (fun pr =>
      pairAdd pr (a - 64 * loc.region.first) (delta old new)) } := by simp [applyDelta, h, positionIn]

/-- The delta as R54 forms it: with M added where it would be negative. -/
theorem delta_eq (old new : Word) : (delta old new : Int) = if old.toNat ≤ new.toNat then (new.toNat : Int) - old.toNat
    else (new.toNat : Int) - old.toNat + Config.M := by
  have ho := word_toNat_lt_M old
  unfold delta sigSub
  split <;> omega

/-- Settles O11: sums modulo M, and each effect and each grant adds values below M to pairs of values below M. -/
theorem deltaKeepsTheSignature : Obligations.DeltaKeepsTheSignature := by
  refine ⟨fun _ _ => sigAdd_eq_mod, fun _ _ => rfl, fun old new => ⟨delta_lt old new, delta_eq old new⟩,
    fun pr p d hpr hd => ⟨pairAdd_eq hpr hd p, pairAdd_inRange hpr hd p, fun w => ?_, fun q e he => ?_⟩,
    fun loc a k old new s hk => applyDelta_sig_of_slot hk a old new s,
    fun seed words p old new hs hold => pairAdd_signatureOf hs hold new, fun s t => step_pairLaw⟩
  · rw [delta_self, pairAdd_zero hpr]
  · exact pairAdd_comm hpr hd he p q

end Sys2Proof.Machine
end

section
/-! The end of the image read (R56, R63, R72, R84, R111, R155, R157, R158). -/

namespace Sys2Proof.Machine

/-- A clear pass of STARTING has a block to treat in any image that has a region. -/
theorem nextBlock_of_region {im : Image} (h : im.regions ≠ []) : ∃ b, Image.nextBlock im (fun _ => true) 0 = some b := by
  obtain ⟨r, rs, hr⟩ := List.exists_cons_of_ne_nil h
  refine Option.isSome_iff_exists.1 ?_
  simp only [Image.nextBlock, hr, List.filter_cons_of_pos, List.map_cons, List.foldr_cons, Region.nextFrom, Nat.zero_le,
    if_true]
  generalize List.foldr minOption none _ = x
  cases x <;> rfl

theorem loadImage?_regions_ne_nil {straps : Nat} {words : List Word} {im : Image}
    (h : loadImage? straps words = some im) : im.regions ≠ [] := by
  have hr := loadImage?_eq_some.1 h
  have hsome := hr.some_region
  rw [← hr.regions] at hsome
  exact List.ne_nil_of_length_pos hsome

theorem beginClear_pass (joiner : Bool) (s : State) :
    (beginClear joiner s).clear.pass = some { next := nextToClear s joiner 0, joiner := joiner } := by
  simp only [beginClear]; split <;> simp

/-- The FILL request of a clear pass that has a block, at a port that is free and at which no FILL request waits. -/
theorem beginClear_fillAge {joiner : Bool} {s : State} {b : Nat} (hb : nextToClear s joiner 0 = some b)
    (hp : s.port.burst = none) (hf : s.port.fillAge = none) : (beginClear joiner s).port.fillAge = some 0 := by
  have hplaces : (nextToClear s joiner 0).isSome && !holdsPort s.port (.background .fill) := by simp [hb, holdsPort, hp]
  have hbegun : beginClear joiner s = place .fill
      { s with clear := { s.clear with pass := some { next := nextToClear s joiner 0, joiner := joiner } } } :=
    if_pos hplaces
  rw [hbegun, place, if_neg (by simp [waits, ageOf, hf])]
  rfl

/-- What the acceptance of an image makes of the blocks it changes, from any state (R157). -/
theorem acceptImage_blocks (im : Image) (s : State) :
    (acceptImage im s).loader = { s.loader with reading := false } ∧
      (acceptImage im s).sig = (loadTables im s).sig ∧ (acceptImage im s).link1 = (loadTables im s).link1 ∧
      (acceptImage im s).link2 = (loadTables im s).link2 ∧ (acceptImage im s).vote = (loadTables im s).vote ∧
      (acceptImage im s).map = (restartPatrol (loadTables im s)).map ∧
      (acceptImage im s).patrol = (restartPatrol (loadTables im s)).patrol := by
  simp [acceptImage, loadTables]

/-- The region start of a fresh region table leaves it as it is (R75). -/
theorem restartPatrol_freshStatus (im : Image) (s : State) : (restartPatrol (loadTables im s)).map =
    { s.map with image := some im, status := im.regions.map (fun _ => ⟨0, 0, false, false⟩) } := by
  have hstatus : (restartPatrol (loadTables im s)).map.status =
      (im.regions.map (fun _ => (⟨0, 0, false, false⟩ : RegionStatus))).modify 0 (fun r => { r with reported := false }) :=
    rfl
  refine RegionMap.ext ⟨rfl, rfl, hstatus.trans ?_⟩
  cases im.regions <;> rfl

/-- The clear pass of STARTING that a new image begins (R158). -/
theorem acceptImage_clear {im : Image} {b : Nat} (hb : Image.nextBlock im (fun _ => true) 0 = some b) (s : State) :
    (acceptImage im s).clear.pass = some { next := some b, joiner := false } :=
  (beginClear_pass ..).trans (congrArg (fun n => some (ClearPass.mk n false)) hb)

theorem acceptImage_fillAge {im : Image} {s : State} {b : Nat} (hb : Image.nextBlock im (fun _ => true) 0 = some b)
    (hp : s.port.burst = none) (hf : s.port.fillAge = none) : (acceptImage im s).port.fillAge = some 0 :=
  beginClear_fillAge (s := restartPatrol (loadTables im s)) hb (by simpa using hp)
    ((withdraw_of_ne (b := .patrol) (c := .fill) _ (by decide)).trans hf)

/-- Settles O5: by the loader's answer. -/
theorem imageReadIsJudged : Obligations.ImageReadIsJudged := by
  intro kind straps low serving m st cause q words s hs
  have hreads : readsImage s = true := by rw [hs]; rfl
  have hstraps : s.lines.straps = straps := by rw [hs]; rfl
  refine ⟨fun im hi => ?accepted, fun hi => ?refused⟩
  case refused =>
    have hsettle : settle (enterFailed s) = enterFailed s := settle_of_no_request (by rw [hs]; rfl)
    rw [← hstraps] at hi
    simp only [exec, execImageReadComplete, hreads, if_true, hi, done, hsettle]
    rfl
  case accepted =>
    obtain ⟨b, hb⟩ := nextBlock_of_region (loadImage?_regions_ne_nil hi)
    obtain ⟨hloader, hsig, hlink1, hlink2, hvote, hmap, hpatrol⟩ := acceptImage_blocks im s
    rw [restartPatrol_freshStatus] at hmap
    refine ⟨acceptImage im s, ?exec, ?frame, ?rest⟩
    case exec => simp only [exec, execImageReadComplete, hreads, if_true, hstraps, hi, done]
    case frame => exact State.ext (by simp [hloader])
    case rest =>
      rw [hmap, hsig, hlink1, hlink2, hvote, hpatrol, ← hstraps]
      refine ⟨rfl, by rw [hs]; rfl, rfl, rfl, fun p hp => ?_, List.length_map .., rfl, rfl, rfl, rfl, rfl, ?_,
        ⟨b, hb, acceptImage_clear hb s⟩, acceptImage_fillAge hb (by rw [hs]; rfl) (by rw [hs]; rfl)⟩
      · obtain ⟨-, -, rfl⟩ := List.mem_map.1 hp
        rfl
      · rw [hs]; rfl

end Sys2Proof.Machine
end

section
/-! The burst of a received block (R57, R59, R60, R62, R133, R134). -/

namespace Sys2Proof.Machine

/-! A word stored: the region's status (R15, R31). -/

/-- Storing a word changes the status of its own region alone, and clears no broken flag. -/
theorem storeWord_status (c : Client) (loc : Located) (a : Nat) (v : Word) (s : State) :
    ∃ f : RegionStatus → RegionStatus, (storeWord c loc a v s).2.map = (modifyStatus loc.index f s).map ∧
      ∀ x, x.broken = true → (f x).broken = true := by
  have hsame : s.map = (modifyStatus loc.index id s).map := by simp [modifyStatus]
  have hbad : (setBroken loc (raiseUncorrectable loc s)).map = (modifyStatus loc.index (fun r =>
      { r with uncorrectable := raiseCount r.uncorrectable, broken := true }) s).map :=
    RegionMap.ext ⟨rfl, rfl, List.modify_modify_eq ..⟩
  have hbroken (u : State) (h : u.map = (raiseUncorrectable loc s).map) :
      (setBroken loc (writeWord a v u)).map = (setBroken loc (raiseUncorrectable loc s)).map := by
    simp [setBroken, modifyStatus, h]
  unfold storeWord
  split
  · exact ⟨id, by simpa using hsame, fun _ => id⟩
  split
  case h_1 => exact ⟨id, by simpa using hsame, fun _ => id⟩
  case h_2 old y n _ => exact ⟨correctedStatus loc, by simp [noteCorrected_map], fun _ => id⟩
  case h_3 => exact ⟨_, (hbroken _ (by simp [noteUncorrectable_eq])).trans hbad, fun _ _ => rfl⟩
  case h_4 => exact ⟨_, (hbroken _ (by simp [noteAddressFault_eq])).trans hbad, fun _ _ => rfl⟩

theorem storeWord_regions (c : Client) (loc : Located) (a : Nat) (v : Word) (s : State) :
    (storeWord c loc a v s).2.map.status.length = s.map.status.length := by
  obtain ⟨f, hf, -⟩ := storeWord_status c loc a v s
  rw [hf, modifyStatus_length]

theorem storeWord_keepsBroken (c : Client) {loc : Located} (a : Nat) (v : Word) {s : State}
    (hi : loc.index < s.map.status.length) (h : (statusOf s loc.index).broken = true) :
    (statusOf (storeWord c loc a v s).2 loc.index).broken = true := by
  obtain ⟨f, hf, hkeeps⟩ := storeWord_status c loc a v s
  rw [statusOf_congr (congrArg RegionMap.status hf), statusOf_modifyStatus_self f hi]
  exact hkeeps _ h

/-- Over an UNCORRECTABLE old word of a signature region the broken flag is set (R31, R62). -/
theorem storeWord_breaks (c : Client) {loc : Located} {a k : Nat} {v raw : Word} {y : Byte} {s : State}
    (hk : loc.slot = some k) (h : readWord s a = .uncorrectable raw y) : (storeWord c loc a v s).1 = true ∧
      (loc.index < s.map.status.length → (statusOf (storeWord c loc a v s).2 loc.index).broken = true) := by
  obtain ⟨u, hu, -, -, umap⟩ := storeWord_of_bad (c := c) (v := v) hk (.inl h)
  rw [hu]
  refine ⟨rfl, fun hi => ?_⟩
  have hlen : loc.index < (writeWord a v u).map.status.length := by simpa [umap, raiseUncorrectable] using hi
  exact congrArg RegionStatus.broken (statusOf_modifyStatus_self _ hlen)

theorem storeWord_of_clean {c : Client} {loc : Located} {a k : Nat} {v old : Word} {s : State} (hk : loc.slot = some k)
    (h : readWord s a = .clean old) :
    storeWord c loc a v s = (false, applyDelta loc a old v (writeWord a v s)) := by simp [storeWord, hk, h]

theorem storeWord_canonical (c : Client) (loc : Located) (a : Nat) (v : Word) {s : State}
    (h : sramCanonical s.sram = true) : sramCanonical (storeWord c loc a v s).2.sram = true :=
  (storeWord_keepsSram c loc a v s).sram h

/-! The words of a block stored one after another (R134). -/

theorem storeWords_burstGoesOn (loc : Located) (a : Nat) (ws : List Word) (s : State) :
    BurstGoesOn s (storeWords loc a ws s).2 := by
  induction ws generalizing a s with
  | nil => exact .of_eq rfl
  | cons w ws ih => exact (storeWord_burstGoesOn ..).trans (ih ..)

theorem storeWords_others {loc : Located} {a b : Nat} {ws : List Word} {s : State} (h : b < a ∨ a + ws.length ≤ b) :
    readWord (storeWords loc a ws s).2 b = readWord s b := by
  induction ws generalizing a s with
  | nil => rfl
  | cons w ws ih =>
    rw [List.length_cons] at h
    exact (ih (by omega)).trans ((storeWord_touchesOnly _ loc a w s).others b (by omega))

theorem storeWords_reads {loc : Located} {a j : Nat} {ws : List Word} {v : Word} {s : State}
    (h : sramCanonical s.sram = true) (hv : ws[j]? = some v) :
    readWord (storeWords loc a ws s).2 (a + j) = .clean v := by
  induction ws generalizing a j s with
  | nil => simp at hv
  | cons w ws ih =>
    cases j with
    | zero =>
      obtain rfl : w = v := by simpa using hv
      exact (storeWords_others (a := a + 1) (ws := ws) (by omega)).trans (storeWord_reads h)
    | succ j =>
      rw [← Nat.add_assoc, Nat.add_right_comm]
      exact ih (storeWord_canonical _ loc a w h) (by simpa using hv)

theorem storeWords_sig (loc : Located) (a : Nat) (ws : List Word) (s : State) :
    (storeWords loc a ws s).2.sig = { s.sig with live := (storeWords loc a ws s).2.sig.live } := by
  induction ws generalizing a s with
  | nil => rfl
  | cons w ws ih =>
    simp only [storeWords]
    rw [ih, storeWord_sig]

theorem storeWords_patrol (loc : Located) (a : Nat) (ws : List Word) (s : State) : (storeWords loc a ws s).2.patrol =
    { s.patrol with accumulator := (storeWords loc a ws s).2.patrol.accumulator } := by
  induction ws generalizing a s with
  | nil => rfl
  | cons w ws ih =>
    simp only [storeWords]
    rw [ih, storeWord_patrol]

/-- Outside the signature regions no old word is read (R27). -/
theorem storeWords_of_plain {loc : Located} {a : Nat} {ws : List Word} {s : State} (h : loc.slot = none) :
    (storeWords loc a ws s).1 = false ∧ (storeWords loc a ws s).2.sig = s.sig ∧
      (storeWords loc a ws s).2.patrol = s.patrol ∧ (storeWords loc a ws s).2.map = s.map := by
  induction ws generalizing a s with
  | nil => exact ⟨rfl, rfl, rfl, rfl⟩
  | cons w ws ih => simp [storeWords, storeWord_of_plain h, ih]

/-- A pair with the deltas of a run of words added, the words' old values given by their places (R57). -/
def deltasAdded (loc : Located) (a : Nat) (old : Nat → Word) (ws : List Word) (pr : Pair) : Pair :=
  (List.range ws.length).foldl
    (fun pr j => pairAdd pr (a + j - 64 * loc.region.first) (delta (old j) (ws.getD j 0))) pr

theorem deltasAdded_cons (loc : Located) (a : Nat) (old : Nat → Word) (w : Word) (ws : List Word) (pr : Pair) :
    deltasAdded loc a old (w :: ws) pr = deltasAdded loc (a + 1) (fun j => old (j + 1)) ws
      (pairAdd pr (a - 64 * loc.region.first) (delta (old 0) w)) := by
  simp only [deltasAdded, List.length_cons, List.range_succ_eq_map, List.foldl_cons, List.foldl_map, List.getD_cons_zero,
    List.getD_cons_succ, Nat.add_zero, Nat.succ_eq_add_one, Nat.add_assoc, Nat.add_comm 1]

/-- Over CLEAN old words the live pair of the slot takes the deltas, and nothing is counted or reported (R30, R57). -/
theorem storeWords_of_clean {loc : Located} {a k : Nat} {old : Nat → Word} {ws : List Word} {s : State}
    (hk : loc.slot = some k) (h : ∀ j < ws.length, readWord s (a + j) = .clean (old j)) :
    (storeWords loc a ws s).1 = false ∧ (storeWords loc a ws s).2.map = s.map ∧
      (storeWords loc a ws s).2.log = s.log ∧
      (storeWords loc a ws s).2.sig.live = s.sig.live.modify k (deltasAdded loc a old ws) := by
  induction ws generalizing a old s with
  | nil => exact ⟨rfl, rfl, rfl, (List.modify_id k s.sig.live).symm⟩
  | cons w ws ih =>
    have hfirst := storeWord_of_clean (c := .background .recv) (v := w) hk (h 0 (by simp))
    have hrest := ih (a := a + 1) (old := fun j => old (j + 1)) (s := (storeWord (.background .recv) loc a w s).2)
      fun j hj => by
        rw [(storeWord_touchesOnly _ loc a w s).others _ (by omega), Nat.add_right_comm, Nat.add_assoc]
        exact h (j + 1) (by simpa using hj)
    obtain ⟨hgood, hmap, hlog, hlive⟩ := hrest
    rw [Nat.add_zero] at hfirst
    simp only [storeWords]
    refine ⟨?_, ?_, ?_, ?_⟩
    · rw [hgood, hfirst]; rfl
    · rw [hmap, hfirst]; simp
    · rw [hlog, hfirst]; simp
    · rw [hlive, hfirst]
      simp only [applyDelta, hk, writeWord_frame, List.modify_modify_eq]
      exact congrArg _ (funext fun pr => (deltasAdded_cons ..).symm)

theorem storeWords_keepsBroken {loc : Located} {a : Nat} {ws : List Word} {s : State}
    (hi : loc.index < s.map.status.length) (h : (statusOf s loc.index).broken = true) :
    (statusOf (storeWords loc a ws s).2 loc.index).broken = true := by
  induction ws generalizing a s with
  | nil => exact h
  | cons w ws ih => exact ih (by rwa [storeWord_regions]) (storeWord_keepsBroken _ a w hi h)

/-- An UNCORRECTABLE old word of a signature region is found, and leaves the region broken (R59, R134). -/
theorem storeWords_of_uncorrectable {loc : Located} {a j k : Nat} {ws : List Word} {raw : Word} {y : Byte} {s : State}
    (hk : loc.slot = some k) (hj : j < ws.length) (h : readWord s (a + j) = .uncorrectable raw y) :
    (storeWords loc a ws s).1 = true ∧
      (loc.index < s.map.status.length → (statusOf (storeWords loc a ws s).2 loc.index).broken = true) := by
  induction ws generalizing a j s with
  | nil => simp at hj
  | cons w ws ih =>
    simp only [storeWords]
    cases j with
    | zero =>
      obtain ⟨hfound, hbroken⟩ := storeWord_breaks (.background .recv) (a := a) (v := w) hk h
      rw [hfound]
      exact ⟨rfl, fun hi => storeWords_keepsBroken (by rwa [storeWord_regions]) (hbroken hi)⟩
    | succ j =>
      obtain ⟨hfound, hbroken⟩ := ih (a := a + 1) (j := j) (s := (storeWord (.background .recv) loc a w s).2)
        (by simpa using hj) (by
          rw [(storeWord_touchesOnly _ loc a w s).others _ (by omega), Nat.add_right_comm, Nat.add_assoc]
          exact h)
      rw [hfound]
      exact ⟨Bool.or_true _, fun hi => hbroken (by rwa [storeWord_regions])⟩

/-! The burst (R134). -/

/-- What the burst of a received block leaves for its end. -/
def recvEnd (bad : Bool) : AtEnd := if bad then .failAttempt .signatureBroken else .nothing

theorem recvBlock_burst {b : Nat} {words : List Word} {s : State} {loc : Located} {c : Client}
    (hl : locate s b = some loc) (h : s.port.burst = some ⟨c, none, .nothing, []⟩) :
    ∃ w, (recvBlock b words s).port.burst = some ⟨c, none, recvEnd (storeWords loc (64 * b) words s).1, w⟩ := by
  obtain ⟨w, hw⟩ := (storeWords_burstGoesOn loc (64 * b) words s).of_some h
  refine ⟨w, ?_⟩
  simp only [recvBlock, hl]
  cases (storeWords loc (64 * b) words s).1 <;> simp [setAtEnd, hw, recvEnd]

/-- But for the end of its burst a received block leaves what storing its words leaves. -/
theorem recvBlock_same {b : Nat} {words : List Word} {s : State} {loc : Located} (hl : locate s b = some loc) :
    (recvBlock b words s).sig = (storeWords loc (64 * b) words s).2.sig ∧
      (recvBlock b words s).patrol = (storeWords loc (64 * b) words s).2.patrol ∧
      (recvBlock b words s).map = (storeWords loc (64 * b) words s).2.map ∧
      (recvBlock b words s).log = (storeWords loc (64 * b) words s).2.log ∧
      (recvBlock b words s).checker = (storeWords loc (64 * b) words s).2.checker ∧
      (recvBlock b words s).sram = (storeWords loc (64 * b) words s).2.sram := by
  simp only [recvBlock, hl]
  split <;> simp

/-- Settles O22: word after word, by the slot of the region and the old words. -/
theorem recvBurstWritesTheBlock : Obligations.RecvBurstWritesTheBlock := by
  intro s b words loc hreceived hlen hl hs
  have hgrant : grantRecv s = recvBlock b words (recvBegun s) := by simp only [grantRecv, hreceived, recvBegun]
  have hlb : locate (recvBegun s) b = some loc := hl
  obtain ⟨w, hw⟩ := recvBlock_burst (words := words) hlb (rfl : (recvBegun s).port.burst = _)
  obtain ⟨hsig, hpatrol, hmap, hlog, hchecker, hsram⟩ := recvBlock_same (words := words) hlb
  have hreads (a : Nat) : readWord (recvBlock b words (recvBegun s)) a =
      readWord (storeWords loc (64 * b) words (recvBegun s)).2 a :=
    readWord_of_frame ⟨by rw [hchecker], by rw [hmap], hsram⟩ a
  refine ⟨_, _, w, hgrant, ?frame, hw, fun j v hv => ?stored, fun a ha => ?others, fun hplain => ?plain,
    fun k old hk hold => ?clean, fun k j raw syn hk hj hbad => ?bad⟩
  case frame =>
    refine State.ext ?_
    rw [hsig, hpatrol, storeWords_sig, storeWords_patrol]
    simp [recvBegun]
  case stored => rw [hreads]; exact storeWords_reads hs hv
  case others => rw [hreads, storeWords_others (by omega), readWord_recvBegun]
  case plain =>
    obtain ⟨hgood, psig, ppatrol, pmap⟩ := storeWords_of_plain (a := 64 * b) (ws := words) (s := recvBegun s) hplain
    rw [hsig, hpatrol, hmap, hgood, psig, ppatrol, pmap]
    exact ⟨rfl, rfl, rfl, rfl⟩
  case clean =>
    obtain ⟨hgood, cmap, clog, clive⟩ := storeWords_of_clean (ws := words) (s := recvBegun s) hk
      fun j hj => (readWord_recvBegun s _).trans (hold j (hlen ▸ hj))
    rw [hsig, hmap, hlog, hgood, cmap, clog, clive]
    refine ⟨rfl, rfl, rfl, ?_⟩
    unfold deltasAdded
    rw [hlen]
    rfl
  case bad =>
    obtain ⟨hfound, hbroken⟩ := storeWords_of_uncorrectable (ws := words) (s := recvBegun s) hk (hlen ▸ hj)
      ((readWord_recvBegun s _).trans hbad)
    rw [hfound, statusOf_congr (congrArg RegionMap.status hmap)]
    exact ⟨rfl, hbroken⟩

end Sys2Proof.Machine
end

section
/-! The FILL burst of a clear pass (R60, R63, R64, R131, R158). -/

namespace Sys2Proof.Machine

/-! Words written with one value. -/

theorem writeWord_port (a : Nat) (v : Word) (s : State) :
    (writeWord a v s).port = { s.port with burst := (writeWord a v s).port.burst } := by
  unfold writeWord; split <;> rfl

theorem writeWord_checker (a : Nat) (v : Word) (s : State) :
    (writeWord a v s).checker = { s.checker with substs := (writeWord a v s).checker.substs } := by
  unfold writeWord; split <;> rfl

theorem fillWords_port (v : Word) (as : List Nat) (s : State) :
    (fillWords v as s).port = { s.port with burst := (fillWords v as s).port.burst } := by
  induction as generalizing s with
  | nil => rfl
  | cons a as ih => simp only [fillWords]; rw [ih, writeWord_port]

theorem fillWords_checker (v : Word) (as : List Nat) (s : State) :
    (fillWords v as s).checker = { s.checker with substs := (fillWords v as s).checker.substs } := by
  induction as generalizing s with
  | nil => rfl
  | cons a as ih => simp only [fillWords]; rw [ih, writeWord_checker]

theorem fillWords_burstGoesOn (v : Word) (as : List Nat) (s : State) : BurstGoesOn s (fillWords v as s) := by
  induction as generalizing s with
  | nil => exact .of_eq rfl
  | cons a as ih => exact (writeWord_burstGoesOn a v s).trans (ih _)

theorem fillWords_others {v : Word} {as : List Nat} {s : State} {b : Nat} (h : b ∉ as) :
    readWord (fillWords v as s) b = readWord s b := by
  induction as generalizing s with
  | nil => rfl
  | cons a as ih =>
    obtain ⟨hba, hb⟩ := not_or.1 (List.mem_cons.not.1 h)
    exact (ih hb).trans (readWord_writeWord_of_ne v hba)

theorem fillWords_reads {v : Word} {as : List Nat} {s : State} {b : Nat} (hs : sramCanonical s.sram = true)
    (h : b ∈ as) : readWord (fillWords v as s) b = .clean v := by
  induction as generalizing s with
  | nil => cases h
  | cons a as ih =>
    by_cases hb : b ∈ as
    · exact ih (writeWord_canonical a v hs) hb
    · obtain rfl : b = a := (List.mem_cons.1 h).resolve_right hb
      exact (fillWords_others hb).trans (readWord_writeWord_self b v hs)

theorem mem_blockWords_iff_div {a b : Nat} : a ∈ blockWords b ↔ a / 64 = b := by
  rw [mem_blockWords]; omega

/-! The burst begun, and the block filled. -/

/-- The state in which a FILL burst begins: the pass moved on to the next block it treats (R131, R158). -/
def fillBegun (joiner : Bool) (b : Nat) (s : State) : State :=
  { beginBurst (.background .fill) s with
    clear := { s.clear with pass := some { next := nextToClear s joiner (b + 1), joiner := joiner } } }

theorem grantFill_of_block {s : State} {b : Nat} {joiner : Bool} {loc : Located}
    (hp : s.clear.pass = some { next := some b, joiner := joiner }) (hl : locate s b = some loc) :
    grantFill s = clearBlock loc b (fillBegun joiner b s) := by
  have hlb : locate (fillBegun joiner b s) b = some loc := hl
  have hpass : (beginBurst (.background .fill) s).clear.pass = some { next := some b, joiner := joiner } := hp
  simp only [grantFill, hpass]
  change (match locate (fillBegun joiner b s) b with
    | some loc => clearBlock loc b (fillBegun joiner b s)
    | none => fillBegun joiner b s) = _
  rw [hlb]

/-- Outside the LOG region and after POWER the block takes one value (R63, R158). -/
theorem clearBlock_of_fill {loc : Located} {s : State} {v : Word} (b : Nat) (h : loc.policy.cls ≠ .log → v = fillPattern s)
    (hlog : loc.policy.cls = .log → s.loader.reset = .power ∧ v = 0) :
    clearBlock loc b s = fillWords v (blockWords b) s := by
  unfold clearBlock
  split
  case isTrue hc =>
    obtain ⟨hr, rfl⟩ := hlog hc
    rw [hr]
  case isFalse hc => rw [h hc]

end Sys2Proof.Machine
end

section
/-! The recovery scan of a LOG block (R15, R33, R158, R159). -/

namespace Sys2Proof.Machine

/-! Reading words takes no notice of the clear unit. -/

/-- The state with another clear unit. -/
def withClear (c : ClearUnit) (s : State) : State := { s with clear := c }

theorem readWord_withClear (c : ClearUnit) (s : State) (a : Nat) : readWord (withClear c s) a = readWord s a := rfl

theorem writeWord_withClear (c : ClearUnit) (a : Nat) (v : Word) (s : State) :
    writeWord a v (withClear c s) = withClear c (writeWord a v s) := by
  have hsubst : substOf (withClear c s) a = substOf s a := rfl
  unfold writeWord
  rw [hsubst]
  cases substOf s a <;> rfl

theorem placeLog_withClear (c : ClearUnit) (s : State) : placeLog (withClear c s) = withClear c (placeLog s) := by
  unfold placeLog place
  simp only [apply_ite (withClear c)]
  rfl

theorem offer_withClear (c : ClearUnit) (r : Report) (s : State) :
    offer r (withClear c s) = withClear c (offer r s) := by
  have hlog : (withClear c s).log = s.log := rfl
  have hregion : logRegion (withClear c s) = logRegion s := rfl
  unfold offer
  rw [hlog, hregion]
  cases s.log.next with
  | none => split <;> rfl
  | some n =>
    simp only [apply_ite (withClear c)]
    rw [← placeLog_withClear]
    rfl

theorem noteCorrected_withClear (c : ClearUnit) (client : Client) (loc : Located) (a : Nat) (v : Word) (y : Byte) (n : Nat)
    (s : State) : noteCorrected client loc a v y n (withClear c s) = withClear c (noteCorrected client loc a v y n s) := by
  have hnews (k : RepeatNews) (u : State) : reportNews k loc.index a v .correction (withClear c u) =
      withClear c (reportNews k loc.index a v .correction u) := by
    cases k with
    | nothing => rfl
    | substituted | noSpare => exact offer_withClear ..
  have hflag (u : State) : flagReported loc (withClear c u) = withClear c (flagReported loc u) := by
    unfold flagReported; split <;> rfl
  have hreport (d e : Word) (u : State) : report .corrected (some loc.index) (placeWord a) d e (withClear c u) =
      withClear c (report .corrected (some loc.index) (placeWord a) d e u) := offer_withClear ..
  have henter : enterCorrected loc a v (withClear c s) = withClear c (enterCorrected loc a v s) := rfl
  have hcounts (u : State) : countsWord (withClear c u) loc.index = countsWord u loc.index := rfl
  have hdue : reportsCorrection (withClear c s) loc = reportsCorrection s loc := rfl
  have hchecker : (withClear c s).checker = s.checker := rfl
  rw [noteCorrected_eq, noteCorrected_eq, henter, hcounts, hflag, hreport, hdue, hchecker, ← hnews]
  split <;> rfl

theorem scrubWord_withClear (c : ClearUnit) (client : Client) (loc : Located) (a : Nat) (s : State) :
    scrubWord client loc a (withClear c s) =
      ((scrubWord client loc a s).1, withClear c (scrubWord client loc a s).2) := by
  unfold scrubWord
  rw [readWord_withClear]
  cases readWord s a with
  | clean v => rfl
  | corrected v y n => simp only [noteCorrected_withClear, writeWord_withClear]
  | uncorrectable raw y => exact congrArg _ (offer_withClear c _ (raiseUncorrectable loc s))
  | address raw y l => exact congrArg _ (offer_withClear c _ (raiseUncorrectable loc s))

theorem scrubWords_withClear (c : ClearUnit) (client : Client) (loc : Located) (as : List Nat) (s : State) :
    scrubWords client loc as (withClear c s) =
      ((scrubWords client loc as s).1, withClear c (scrubWords client loc as s).2) := by
  induction as generalizing s with
  | nil => rfl
  | cons a as ih => simp only [scrubWords, scrubWord_withClear, ih]

theorem scrubWords_append (client : Client) (loc : Located) (as bs : List Nat) (s : State) :
    (scrubWords client loc (as ++ bs) s).2 = (scrubWords client loc bs (scrubWords client loc as s).2).2 := by
  induction as generalizing s with
  | nil => rfl
  | cons a as ih => exact ih _

/-! Reports before the writer runs (R160, R162). -/

theorem offer_of_stopped {s : State} (r : Report) (h : s.log.running = false) : offer r s = s := by simp [offer, h]

theorem logAfter_of_stopped {s : State} (rs : List Report) (h : s.log.running = false) : logAfter s rs = s.log := by
  induction rs with
  | nil => rfl
  | cons r rs ih => rwa [logAfter, List.foldl_cons, offer_of_stopped r h]

theorem scrubWord_log_of_stopped (client : Client) (loc : Located) (a : Nat) {s : State} (h : s.log.running = false) :
    (scrubWord client loc a s).2.log = s.log := by
  have hraised (r : Report) : (offer r (raiseUncorrectable loc s)).log = s.log := by
    rw [offer_of_stopped r (by simpa using h)]; simp
  unfold scrubWord
  split
  case h_1 => rfl
  case h_2 => simp [noteCorrected_log, logAfter_of_stopped _ h]
  case h_3 => exact hraised _
  case h_4 => exact hraised _

theorem scrubWords_log_of_stopped (client : Client) (loc : Located) (as : List Nat) {s : State}
    (h : s.log.running = false) : (scrubWords client loc as s).2.log = s.log := by
  induction as generalizing s with
  | nil => rfl
  | cons a as ih =>
    simp only [scrubWords]
    rw [ih (by simpa using h), scrubWord_log_of_stopped client loc a h]

/-! Valid records (R159). -/

/-- Eight good words are a valid record by their sequence and their check. -/
theorem validRecord_of_words (w : Nat → Word) : validRecord ((List.range 8).map (fun j => some (w j))) =
    if w 0 ≠ 0 ∧ w 7 = w 0 + w 1 + w 2 + w 3 + w 4 + w 5 + w 6 + 1 then some (w 0).toNat else none := by
  simp [validRecord, List.range_succ, allGood, recordCheck]

theorem validRecord_of_bad {ws : List (Option Word)} (h : none ∈ ws) : validRecord ws = none := by
  have hbad : ¬ allGood ws = true := fun g => allGood_iff.1 g h
  simp [validRecord, hbad]

theorem validRecord_eq_some {f : Nat → Option Word} {n : Nat} : validRecord ((List.range 8).map f) = some n ↔
    ∃ w : Nat → Word, (∀ j < 8, f j = some (w j)) ∧ w 0 ≠ 0 ∧ n = (w 0).toNat ∧
      w 7 = w 0 + w 1 + w 2 + w 3 + w 4 + w 5 + w 6 + 1 := by
  have hwords {w : Nat → Word} (hw : ∀ j < 8, f j = some (w j)) :
      (List.range 8).map f = (List.range 8).map (fun j => some (w j)) :=
    List.map_congr_left fun j hj => hw j (List.mem_range.1 hj)
  constructor
  · intro h
    have hgood : ∀ j < 8, f j = some ((f j).getD 0) := fun j hj => by
      cases hf : f j with
      | some v => rfl
      | none => rw [validRecord_of_bad (List.mem_map.2 ⟨j, List.mem_range.2 hj, hf⟩)] at h; cases h
    rw [hwords hgood, validRecord_of_words] at h
    split at h
    case isTrue hv => exact ⟨_, hgood, hv.1, (Option.some.inj h).symm, hv.2⟩
    case isFalse => cases h
  · rintro ⟨w, hw, hne, rfl, hcheck⟩
    rw [hwords hw, validRecord_of_words, if_pos ⟨hne, hcheck⟩]

/-! The scan of slots one after another. -/

/-- The word addresses of a record slot, counted from the region's first block (R159). -/
def slotWords (loc : Located) (slot : Nat) : List Nat :=
  (List.range 8).map (fun j => 64 * loc.region.first + 8 * slot + j)

/-- The sequence of the valid record that a slot's words read as, if they are one. -/
def recordIn (s : State) (loc : Located) (slot : Nat) : Option Nat :=
  validRecord ((slotWords loc slot).map (fun a => goodValue (readWord s a)))

/-- The scan's count and best record after a slot (R159). -/
def scanned (c : ClearUnit) (slot : Nat) : Option Nat → ClearUnit
  | some n => { c with best := betterRecord c.best n slot, valid := c.valid + 1 }
  | none => c

theorem slotWords_nodup (loc : Located) (slot : Nat) : (slotWords loc slot).Nodup :=
  List.nodup_range.map fun x y h => by simpa using h

/-- A slot's record depends on its eight words alone. -/
theorem recordIn_congr {s t : State} {loc : Located} {slot : Nat}
    (h : ∀ a ∈ slotWords loc slot, readWord t a = readWord s a) : recordIn t loc slot = recordIn s loc slot := by
  unfold recordIn
  rw [List.map_congr_left fun a ha => congrArg goodValue (h a ha)]

theorem scanSlot_of_read {loc : Located} {slot : Nat} {s : State} {r : List (Option Word) × State}
    (h : scrubWords (.background .fill) loc (slotWords loc slot) s = r) :
    scanSlot loc slot s = withClear (scanned r.2.clear slot (validRecord r.1)) r.2 := by
  unfold slotWords at h
  unfold scanSlot
  rw [h]
  dsimp only
  cases validRecord r.1 <;> rfl

theorem scanSlot_eq (loc : Located) (slot : Nat) {s : State} (h : sramCanonical s.sram = true) :
    scanSlot loc slot s = withClear (scanned s.clear slot (recordIn s loc slot))
      (scrubWords (.background .fill) loc (slotWords loc slot) s).2 := by
  obtain ⟨hvals, -⟩ := scrubWords_spec (.background .fill) loc (slotWords_nodup loc slot) h
  have hclear : (scrubWords (.background .fill) loc (slotWords loc slot) s).2.clear = s.clear := by
    simp only [scrubWords_frame]
  rw [scanSlot_of_read rfl, hvals, hclear, recordIn]

/-- The slots' words are read as one run, and the scan's result is what the slots held before it. -/
theorem scanSlots_eq {loc : Located} {slots : List Nat} (hnd : (slots.flatMap (slotWords loc)).Nodup) {s : State}
    (h : sramCanonical s.sram = true) :
    scanSlots loc slots s = withClear (slots.foldl (fun c j => scanned c j (recordIn s loc j)) s.clear)
      (scrubWords (.background .fill) loc (slots.flatMap (slotWords loc)) s).2 := by
  induction slots generalizing s with
  | nil => rfl
  | cons slot slots ih =>
    rw [List.flatMap_cons] at hnd ⊢
    obtain ⟨hfirst, hrest, hdisjoint⟩ := List.nodup_append.1 hnd
    obtain ⟨-, hrun⟩ := scrubWords_spec (.background .fill) loc hfirst h
    have hcanonical := (scrubWords_keepsSram (.background .fill) loc (slotWords loc slot) s).sram h
    have hrecords : ∀ j ∈ slots, recordIn (scrubWords (.background .fill) loc (slotWords loc slot) s).2 loc j =
        recordIn s loc j := fun j hj => recordIn_congr fun a ha =>
      hrun.others a fun ha' => hdisjoint a ha' a (List.mem_flatMap.2 ⟨j, hj, ha⟩) rfl
    have hfold : ∀ c, slots.foldl (fun c j => scanned c j (recordIn s loc j)) c = slots.foldl (fun c j => scanned c j
        (recordIn (scrubWords (.background .fill) loc (slotWords loc slot) s).2 loc j)) c := fun c =>
      List.foldl_ext _ _ _ fun d j hj => by rw [hrecords j hj]
    rw [List.foldl_cons, hfold, scrubWords_append, scanSlots, scanSlot_eq loc slot h]
    generalize (scrubWords (.background .fill) loc (slotWords loc slot) s).2 = t at hcanonical ⊢
    refine (ih hrest (s := withClear (scanned s.clear slot (recordIn s loc slot)) t) hcanonical).trans ?_
    rw [scrubWords_withClear]
    rfl

/-! What the scan finds. -/

/-- What the scan of the first `n` slots of a block makes of the count and the best record, slot `k` holding the valid
record of sequence `found k` (R159). -/
structure ScanFinds (found : Nat → Option Nat) (base n : Nat) (before after : ClearUnit) : Prop where
  pass : after.pass = before.pass
  valid : after.valid = before.valid + ((List.range n).filter (fun k => (found k).isSome)).length
  unchanged : (∀ k < n, found k = none) → after.best = before.best
  atLeastFound : ∀ k m, k < n → found k = some m → ∃ q j, after.best = some (q, j) ∧ m ≤ q
  atLeastBefore : ∀ q j, before.best = some (q, j) → ∃ q' j', after.best = some (q', j') ∧ q ≤ q'
  lowest : ∀ q j, after.best = some (q, j) → before.best = some (q, j) ∨
    ∃ k, k < n ∧ found k = some q ∧ j = base + k ∧ (∀ i, i < k → found i ≠ some q) ∧
      ∀ q' j', before.best = some (q', j') → q' < q

theorem scanFinds_zero (found : Nat → Option Nat) (base : Nat) (c : ClearUnit) : ScanFinds found base 0 c c :=
  ⟨rfl, rfl, fun _ => rfl, fun _ _ h => absurd h (Nat.not_lt_zero _), fun q j h => ⟨q, j, h, le_rfl⟩, fun _ _ h => .inl h⟩

/-- A better record is at least the candidate and at least the best before it. -/
theorem betterRecord_ge (best : Option (Nat × Nat)) (m slot : Nat) :
    ∃ q j, betterRecord best m slot = some (q, j) ∧ m ≤ q ∧ ∀ q' j', best = some (q', j') → q' ≤ q := by
  unfold betterRecord
  split
  case h_1 => exact ⟨m, slot, rfl, le_rfl, nofun⟩
  case h_2 q j =>
    split
    case isTrue hlt => exact ⟨m, slot, rfl, le_rfl, fun q' j' h => by cases h; omega⟩
    case isFalse hge => exact ⟨q, j, rfl, by omega, fun q' j' h => by cases h; exact le_rfl⟩

/-- The better record is the one before, or the candidate where its sequence is above. -/
theorem betterRecord_cases (best : Option (Nat × Nat)) (m slot : Nat) : betterRecord best m slot = best ∨
    betterRecord best m slot = some (m, slot) ∧ ∀ q j, best = some (q, j) → q < m := by
  unfold betterRecord
  split
  case h_1 => exact .inr ⟨rfl, nofun⟩
  case h_2 q j =>
    split
    case isTrue hlt => exact .inr ⟨rfl, fun q' j' h => by cases h; exact hlt⟩
    case isFalse => exact .inl rfl

/-- One more slot scanned. -/
theorem ScanFinds.succ {found : Nat → Option Nat} {base n : Nat} {before after : ClearUnit}
    (h : ScanFinds found base n before after) :
    ScanFinds found base (n + 1) before (scanned after (base + n) (found n)) := by
  obtain ⟨hpass, hvalid, hunchanged, hfound, hbefore, hlowest⟩ := h
  have hlast {k : Nat} (hk : k < n + 1) : k < n ∨ k = n := by omega
  have hkeep {q j : Nat} (hq : after.best = some (q, j)) : before.best = some (q, j) ∨
      ∃ k, k < n + 1 ∧ found k = some q ∧ j = base + k ∧ (∀ i, i < k → found i ≠ some q) ∧
        ∀ q' j', before.best = some (q', j') → q' < q :=
    (hlowest q j hq).imp_right fun ⟨k, hk, hrest⟩ => ⟨k, Nat.lt_succ_of_lt hk, hrest⟩
  cases hn : found n with
  | none =>
    refine ⟨hpass, by simpa [scanned, List.range_succ, hn] using hvalid, fun hnone =>
      hunchanged fun k hk => hnone k (Nat.lt_succ_of_lt hk), fun k m hk hm => ?_, hbefore, fun q j => hkeep⟩
    obtain hk | rfl := hlast hk
    · exact hfound k m hk hm
    · rw [hn] at hm; cases hm
  | some m =>
    obtain ⟨q, j, hbest, hge, hmono⟩ := betterRecord_ge after.best m (base + n)
    have habove {q' j' : Nat} (h : after.best = some (q', j')) (x : Nat) (hx : x ≤ q') :
        ∃ q j, (scanned after (base + n) (some m)).best = some (q, j) ∧ x ≤ q :=
      ⟨q, j, hbest, hx.trans (hmono q' j' h)⟩
    refine ⟨hpass, ?_, fun hnone => ?_, fun k x hk hx => ?_, fun q' j' hb => ?_, fun q' j' hb => ?_⟩
    · simp [scanned, List.range_succ, hn, hvalid, Nat.add_assoc]
    · rw [hnone n (Nat.lt_succ_self n)] at hn; cases hn
    · obtain hk | rfl := hlast hk
      · obtain ⟨q', j', hq', hle⟩ := hfound k x hk hx
        exact habove hq' x hle
      · obtain rfl := Option.some.inj (hn.symm.trans hx)
        exact ⟨q, j, hbest, hge⟩
    · obtain ⟨q'', j'', hq', hle⟩ := hbefore q' j' hb
      exact habove hq' q' hle
    · obtain hold | ⟨hnew, hlt⟩ := betterRecord_cases after.best m (base + n)
      · exact hkeep (hold.symm.trans hb)
      · cases hnew.symm.trans hb
        refine .inr ⟨n, Nat.lt_succ_self n, hn, rfl, fun i hi hm => ?_, fun q' j' hb' => ?_⟩
        · obtain ⟨q', j', hq', hle⟩ := hfound i m hi hm
          exact absurd (hlt q' j' hq') (Nat.not_lt.2 hle)
        · obtain ⟨q'', j'', hq', hle⟩ := hbefore q' j' hb'
          exact lt_of_le_of_lt hle (hlt q'' j'' hq')

theorem scanFinds_foldl (found : Nat → Option Nat) (base n : Nat) (c : ClearUnit) :
    ScanFinds found base n c ((List.range n).foldl (fun c k => scanned c (base + k) (found k)) c) := by
  induction n with
  | zero => exact scanFinds_zero found base c
  | succ n ih => rw [List.range_succ, List.foldl_append]; exact ih.succ

/-! A block of the LOG region. -/

theorem locate_first_le {s : State} {b : Nat} {loc : Located} (h : locate s b = some loc) : loc.region.first ≤ b := by
  unfold locate Image.locate at h
  split at h
  case h_2 => cases h
  split at h
  case h_2 => cases h
  case h_1 im _ i hi =>
    obtain ⟨hlt, hcovers, -⟩ := List.findIdx?_eq_some_iff_getElem.1 hi
    obtain ⟨r, hr, rfl⟩ := Option.map_eq_some_iff.1 h
    rw [List.getElem?_eq_getElem hlt] at hr
    cases hr
    simp only [Region.covers, Bool.and_eq_true, decide_eq_true_eq] at hcovers
    exact hcovers.1

/-- The numbers of a block's eight record slots (R159). -/
def blockSlots (loc : Located) (b : Nat) : List Nat := (List.range 8).map (fun k => 8 * (b - loc.region.first) + k)

theorem slotWords_of_block {loc : Located} {b : Nat} (h : loc.region.first ≤ b) (k : Nat) :
    slotWords loc (8 * (b - loc.region.first) + k) = (List.range 8).map (fun j => 64 * b + 8 * k + j) :=
  List.map_congr_left fun j _ => by omega

theorem blockSlots_words {loc : Located} {b : Nat} (h : loc.region.first ≤ b) :
    (blockSlots loc b).flatMap (slotWords loc) = blockWords b := by
  have hwords : (List.range 8).flatMap (fun k => (List.range 8).map (fun j => 8 * k + j)) = List.range 64 := by decide
  rw [blockSlots, blockWords, List.flatMap_map, ← hwords, List.map_flatMap]
  refine List.flatMap_congr fun k _ => ?_
  rw [slotWords_of_block h, List.map_map]
  exact List.map_congr_left fun j _ => Nat.add_assoc ..

theorem recordIn_eq_some {s : State} {loc : Located} {b : Nat} (h : loc.region.first ≤ b) {k n : Nat} :
    recordIn s loc (8 * (b - loc.region.first) + k) = some n ↔ RecordAt s b k n := by
  rw [recordIn, slotWords_of_block h, List.map_map]
  exact validRecord_eq_some

/-- The scan of a block is the reading of its words, and finds the records that stood in it. -/
theorem scanBlock_spec {loc : Located} {b : Nat} (hb : loc.region.first ≤ b) {s : State}
    (h : sramCanonical s.sram = true) : ∃ c, ScanFinds (fun k => recordIn s loc (8 * (b - loc.region.first) + k))
        (8 * (b - loc.region.first)) 8 s.clear c ∧
      scanBlock loc b s = withClear c (scrubWords (.background .fill) loc (blockWords b) s).2 := by
  refine ⟨_, scanFinds_foldl .., ?_⟩
  have hslots := scanSlots_eq (slots := blockSlots loc b) (by rw [blockSlots_words hb]; exact blockWords_nodup b) h
  rw [blockSlots_words hb] at hslots
  refine hslots.trans ?_
  rw [blockSlots, List.foldl_map]

theorem Scrubbed.of_fillBegun {loc : Located} {base b : Nat} {joiner : Bool} {s t : State} (c : ClearUnit)
    (h : Scrubbed loc base (fillBegun joiner b s) t) : Scrubbed loc base s (withClear c t) :=
  h.frame ⟨rfl, rfl, rfl⟩ ⟨rfl, rfl, rfl⟩ fun _ => ⟨rfl, rfl, rfl⟩

/-- Reading words changes the SRAM, the checker's tables, the counts, the log and the port alone. -/
theorem scrubWords_eq {client : Client} {loc : Located} {as : List Nat} {s t : State}
    (h : (scrubWords client loc as s).2 = t) :
    t = { s with map := { s.map with status := t.map.status }, checker := t.checker, sram := t.sram, log := t.log,
                 port := t.port } := by
  subst h
  exact State.ext (by simpa using RegionMap.ext (by simp))

/-- Settles O21: a block filled word after word, and a LOG block read as one run whose records the scan goes through. -/
theorem fillBurstWritesItsBlock : Obligations.FillBurstWritesItsBlock := by
  intro s b joiner loc hp hl hs
  have hgrant := grantFill_of_block hp hl
  refine ⟨fun v hfill hpower => ?filled, fun hlog hpin => ?scan⟩
  case filled =>
    rw [clearBlock_of_fill (s := fillBegun joiner b s) b hfill hpower] at hgrant
    obtain ⟨w, hw⟩ := (fillWords_burstGoesOn v (blockWords b) (fillBegun joiner b s)).of_some rfl
    refine ⟨_, w, hgrant, State.ext ?frame, fun a ha => fillWords_reads hs (mem_blockWords_iff_div.2 ha), fun a ha =>
      fillWords_others fun hm => ha (mem_blockWords_iff_div.1 hm)⟩
    case frame =>
      have hport := fillWords_port v (blockWords b) (fillBegun joiner b s)
      have hchecker := fillWords_checker v (blockWords b) (fillBegun joiner b s)
      rw [hw] at hport
      rw [hport, hchecker]
      simp [fillBegun, beginBurst]
  case scan =>
    have hfirst := locate_first_le hl
    obtain ⟨c, hfinds, hscan⟩ := scanBlock_spec hfirst (s := fillBegun joiner b s) hs
    have hclear : clearBlock loc b (fillBegun joiner b s) = scanBlock loc b (fillBegun joiner b s) := by
      have hreset : (fillBegun joiner b s).loader.reset = .pin := hpin
      rw [clearBlock, if_pos hlog, hreset]
    rw [hclear, hscan] at hgrant
    obtain ⟨-, hscrubbed⟩ := scrubWords_block (.background .fill) loc b (s := fillBegun joiner b s) hs
    obtain ⟨w, hw⟩ := (scrubWords_burstGoesOn (.background .fill) loc (blockWords b) (fillBegun joiner b s)).of_some rfl
    have hstopped := scrubWords_log_of_stopped (.background .fill) loc (blockWords b) (s := fillBegun joiner b s)
    generalize hread : (scrubWords (.background .fill) loc (blockWords b) (fillBegun joiner b s)).2 = u at *
    have hframe := congrArg (withClear c) (scrubWords_eq hread)
    have hrecord {k n : Nat} : recordIn (fillBegun joiner b s) loc (8 * (b - loc.region.first) + k) = some n ↔
        RecordAt s b k n := recordIn_eq_some hfirst
    refine ⟨_, w, (List.range 8).filter (fun k => (recordIn (fillBegun joiner b s) loc
      (8 * (b - loc.region.first) + k)).isSome), hgrant, hframe.trans ?frame, hw, hscrubbed.of_fillBegun c, hstopped,
      List.nodup_range.filter _, fun k => ?slots, hfinds.valid, fun hnil => hfinds.unchanged fun k hk => ?none,
      fun k n hk hr => hfinds.atLeastFound k n hk (hrecord.2 hr), hfinds.atLeastBefore, fun q j hq => ?best⟩
    case frame =>
      have hpass : c.pass = some { next := nextToClear s joiner (b + 1), joiner := joiner } := hfinds.pass
      simp only [withClear, ← hpass]
      rfl
    case slots =>
      rw [List.mem_filter, List.mem_range, Option.isSome_iff_exists]
      simp only [hrecord]
    case none =>
      simpa using List.filter_eq_nil_iff.1 hnil k (List.mem_range.2 hk)
    case best =>
      have hbest := hfinds.lowest q j hq
      simp only [ne_eq, hrecord] at hbest
      exact hbest

end Sys2Proof.Machine
end

section
/-! The end of the formation window (R71, R111, R119, R120, R161). -/

namespace Sys2Proof.Machine

/-- A frame offered to both links waits in the control queue of each port that has room and is sending (R93, R94). -/
theorem getPort_offerBoth_of_room {p : PortId} {f : Frame} {s : State} (ha : LinkPort.active (getPort s p) = true)
    (hr : (getPort s p).control.length < 8) (ht : (getPort s p).transmitter ≠ .resting) :
    getPort (offerBoth f s) p = { getPort s p with control := (getPort s p).control ++ [f] } := by
  have hoffer (u : State) (hu : getPort u p = getPort s p) : getPort (offerControl p f u) p =
      { getPort s p with control := (getPort s p).control ++ [f] } := by
    rw [offerControl_of_room (by rwa [hu]) (by rwa [hu]) (by rwa [hu]), getPort_setPort_self, hu]
  cases p with
  | link1 => exact (getPort_offerControl_of_ne _ _ (by decide)).trans (hoffer s rfl)
  | link2 => exact hoffer _ (getPort_offerControl_of_ne _ _ (by decide))

/-- PERMIT has no timer in a lane state other than MEMBER (R119). -/
theorem setLaneState_permitTimer {x : LaneState} (s : State) (hx : x ≠ .member) :
    (setLaneState x s).lane.permitTimer = none := by
  have hlaw : PermitLaw (setLaneState x s) := setLaneState_permitLaw x s
  have hdue : permitDue (setLaneState x s) = false := by simp [permitDue, hx]
  rw [PermitLaw, hdue] at hlaw
  simpa using hlaw

/-- A lane state other than MEMBER changes the lane and self's standing alone (R111, R119, R129). -/
theorem setLaneState_eq {x : LaneState} (s : State) (hx : x ≠ .member) : setLaneState x s =
    { s with lane := { s.lane with state := x, retainedState := x, permitTimer := none },
             vote := { s.vote with view := some (PerLane.set (viewOf s) (ownLane s) (mirrorOf x)) } } := by
  have hlane := setLaneState_lane x s
  rw [setLaneState_permitTimer s hx] at hlane
  exact State.ext (by simp [hlane, setLaneState_vote])

/-- The lane in FORMING, its patrol running and HOLD released, before STATE is offered (R71, R161). -/
def formingLane (s : State) : State :=
  { s with lines := { s.lines with hold := false },
           lane := { s.lane with state := .forming, retainedState := .forming, formation := none, permitTimer := none },
           vote := { s.vote with view := some (PerLane.set (viewOf s) (ownLane s) .excluded) },
           patrol := { s.patrol with running := true, pace := some (settings s).patrolInterval } }

theorem enterForming_eq (s : State) : enterForming s = offerState (formingLane s) := by
  rw [enterForming, setLaneState_eq _ (by decide)]
  rfl

theorem standing_formingLane_self (s : State) : standing (formingLane s) (ownLane s) = .excluded :=
  PerLane.get_set_self ..

theorem standing_formingLane_of_ne {s : State} {l : Lane} (h : l ≠ ownLane s) :
    standing (formingLane s) l = standing s l := PerLane.get_set_of_ne _ _ h

/-- Settles O35: the lane in FORMING, and the two ports to which its STATE is offered. -/
theorem formationWindowStartsForming : Obligations.FormationWindowStartsForming := by
  intro s hwindow
  refine ⟨fun hother => ?elsewhere, fun hstarting => ⟨offerState (formingLane s), ?exec, ?frame, ?self, ?others, ?ports⟩⟩
  case elsewhere => simp [exec, execFormationWindowExpiry, hother]
  case exec => simp [exec, execFormationWindowExpiry, hstarting, hwindow, done, enterForming_eq]
  case frame => exact State.ext (by simp [formingLane])
  case self => rw [standing_congr (s := formingLane s) (by simp), standing_formingLane_self]
  case others =>
    intro l hl
    rw [standing_congr (s := formingLane s) (by simp), standing_formingLane_of_ne hl]
  case ports =>
    intro p ha hr ht
    have hport : getPort (formingLane s) p = getPort s p := by cases p <;> rfl
    rw [← hport] at ha hr ht ⊢
    exact getPort_offerBoth_of_room ha hr ht

end Sys2Proof.Machine
end

section
/-! The lanes wired to the ports (R84): nothing but the end of the image read and a reset changes them. -/

namespace Sys2Proof.Machine

@[simp] theorem setPort_peer {p : PortId} {v : LinkPort} {s : State} (h : v.peer = (getPort s p).peer) :
    (setPort s p v).link1.peer = s.link1.peer ∧ (setPort s p v).link2.peer = s.link2.peer := by
  cases p
  · exact ⟨h, rfl⟩
  · exact ⟨rfl, h⟩

@[simp] theorem reserveSlot_peer (p : PortId) (s : State) :
    (reserveSlot p s).link1.peer = s.link1.peer ∧ (reserveSlot p s).link2.peer = s.link2.peer := setPort_peer rfl

@[simp] theorem freeSlot_peer (p : PortId) (s : State) :
    (freeSlot p s).link1.peer = s.link1.peer ∧ (freeSlot p s).link2.peer = s.link2.peer := setPort_peer rfl

@[simp] theorem fillSlot_peer (p : PortId) (f : Frame) (s : State) :
    (fillSlot p f s).link1.peer = s.link1.peer ∧ (fillSlot p f s).link2.peer = s.link2.peer := by simp [fillSlot]

@[simp] theorem purgeFor_peer (l : Lane) (n : Nat) (s : State) :
    (purgeFor l n s).link1.peer = s.link1.peer ∧ (purgeFor l n s).link2.peer = s.link2.peer := by
  unfold purgeFor
  split
  · exact setPort_peer rfl
  · exact ⟨rfl, rfl⟩

@[simp] theorem abandonTo_peer (l : Lane) (n : Nat) (a : Option Cause) (s : State) :
    (abandonTo l n a s).link1.peer = s.link1.peer ∧ (abandonTo l n a s).link2.peer = s.link2.peer := by
  unfold abandonTo; split <;> simp

@[simp] theorem endRestoreJob_peer (s : State) :
    (endRestoreJob s).link1.peer = s.link1.peer ∧ (endRestoreJob s).link2.peer = s.link2.peer := by
  simp only [endRestoreJob]; (repeat' split) <;> simp

@[simp] theorem endServingStep_peer (c : Cause) (d : Option Cause) (s : State) :
    (endServingStep c d s).link1.peer = s.link1.peer ∧ (endServingStep c d s).link2.peer = s.link2.peer := by
  cases hs : s.copy.serving with
  | none => simp [endServingStep_of_none hs]
  | some x => rw [endServingStep_of_some hs]; split <;> simp [stopServing]

@[simp] theorem dropRepairWork_peer (s : State) :
    (dropRepairWork s).link1.peer = s.link1.peer ∧ (dropRepairWork s).link2.peer = s.link2.peer := by
  simp only [dropRepairWork, endAnswerJob]; (repeat' split) <;> simp

@[simp] theorem askPeer_peer (l : Lane) (s : State) :
    (askPeer l s).link1.peer = s.link1.peer ∧ (askPeer l s).link2.peer = s.link2.peer := by
  simp only [askPeer]; split <;> simp

@[simp] theorem endJoinerClear_peer (s : State) :
    (endJoinerClear s).link1.peer = s.link1.peer ∧ (endJoinerClear s).link2.peer = s.link2.peer := by
  simp only [endJoinerClear, enterRequest]; (repeat' split) <;> simp

@[simp] theorem startAttempt_peer (s : State) :
    (startAttempt s).link1.peer = s.link1.peer ∧ (startAttempt s).link2.peer = s.link2.peer := by
  obtain ⟨h, -⟩ | ⟨h, -⟩ := startAttempt_cases s <;> simp [h, prepareAttempt]

@[simp] theorem endAttempt_peer (c : Cause) (b : Bool) (s : State) :
    (endAttempt c b s).link1.peer = s.link1.peer ∧ (endAttempt c b s).link2.peer = s.link2.peer := by
  simp only [endAttempt]; (repeat' split) <;> simp

@[simp] theorem offerAdmitted_peer (x : Snapshot) (s : State) :
    (offerAdmitted x s).link1.peer = s.link1.peer ∧ (offerAdmitted x s).link2.peer = s.link2.peer := by
  unfold offerAdmitted; split <;> simp

@[simp] theorem offerAdmit_peer (p : PortId) (n : Nat) (x : Snapshot) (s : State) :
    (offerAdmit p n x s).link1.peer = s.link1.peer ∧ (offerAdmit p n x s).link2.peer = s.link2.peer := by
  simp [offerAdmit]

@[simp] theorem repairNext_peer (r : Repair) (x : RepairReason) (s : State) :
    (repairNext r x s).link1.peer = s.link1.peer ∧ (repairNext r x s).link2.peer = s.link2.peer := by
  unfold repairNext askRepair; split <;> simp

@[simp] theorem startRepair_peer (b : Nat) (s : State) :
    (startRepair b s).link1.peer = s.link1.peer ∧ (startRepair b s).link2.peer = s.link2.peer := by
  unfold startRepair askRepair; split <;> simp

@[simp] theorem hunt_peer (p : PortId) (s : State) :
    (hunt p s).link1.peer = s.link1.peer ∧ (hunt p s).link2.peer = s.link2.peer := setPort_peer rfl

@[simp] theorem frameWhole_peer (p : PortId) (k : FrameKind) (y : Byte) (xs ys : List Byte) (n : Nat) (s : State) :
    (frameWhole p k y xs ys n s).link1.peer = s.link1.peer ∧ (frameWhole p k y xs ys n s).link2.peer = s.link2.peer := by
  simp only [frameWhole]
  split
  · split
    · unfold acceptFrame
      split
      · exact setPort_peer rfl
      · simp
    · simp
  · simp

@[simp] theorem arrive_peer (p : PortId) (fs : List Frame) (l : Lane) (s : State) :
    (arrive p fs l s).link1.peer = s.link1.peer ∧ (arrive p fs l s).link2.peer = s.link2.peer := by
  simp [arrive]

@[simp] theorem sendSignature_peer (s : State) :
    (sendSignature s).link1.peer = s.link1.peer ∧ (sendSignature s).link2.peer = s.link2.peer := by simp [sendSignature]

@[simp] theorem offerNotice_peer (l : Lane) (x : Option Snapshot) (s : State) :
    (offerNotice l x s).link1.peer = s.link1.peer ∧ (offerNotice l x s).link2.peer = s.link2.peer := by
  unfold offerNotice; split <;> simp

@[simp] theorem fetchArrives_peer (p : PortId) (b : Nat) (s : State) :
    (fetchArrives p b s).link1.peer = s.link1.peer ∧ (fetchArrives p b s).link2.peer = s.link2.peer := by
  unfold fetchArrives; (repeat' split) <;> simp

@[simp] theorem offerNaks_peer (p : PortId) (n : Nat) (bs : List Nat) (s : State) :
    (offerNaks p n bs s).link1.peer = s.link1.peer ∧ (offerNaks p n bs s).link2.peer = s.link2.peer := by
  induction bs generalizing s with
  | nil => exact ⟨rfl, rfl⟩
  | cons b bs ih => simp [offerNaks, ih]

@[simp] theorem blockArrives_peer (p : PortId) (l : Lane) (n b : Nat) (ws : List Word) (s : State) :
    (blockArrives p l n b ws s).link1.peer = s.link1.peer ∧ (blockArrives p l n b ws s).link2.peer = s.link2.peer := by
  simp only [blockArrives, checkExpected]; (repeat' split) <;> simp

@[simp] theorem grantCopy_peer (s : State) :
    (grantCopy s).link1.peer = s.link1.peer ∧ (grantCopy s).link2.peer = s.link2.peer := by
  simp only [grantCopy, copyForRestore, copyForFetch]; (repeat' split) <;> simp

@[simp] theorem settle_peer (s : State) :
    (settle s).link1.peer = s.link1.peer ∧ (settle s).link2.peer = s.link2.peer := by
  have hgrant (b : Background) (s : State) :
      (grantBackground b s).link1.peer = s.link1.peer ∧ (grantBackground b s).link2.peer = s.link2.peer := by
    cases b <;> simp [grantBackground]
  have hdecide (s : State) : (arbitrate s).link1.peer = s.link1.peer ∧ (arbitrate s).link2.peer = s.link2.peer := by
    unfold arbitrate carryOut
    (repeat' split) <;> simp [hgrant]
  simp [settle, hdecide]

end Sys2Proof.Machine
end

section
/-! What the laws of self's standing and of the absent lane read, and the changes that keep both (R84, R104, R111). -/

namespace Sys2Proof.Machine

/-- A lane is a voter of some entry of the vote table. -/
def Votes (s : State) (l : Lane) : Prop := ∃ e ∈ s.vote.table, l ∈ votersOf e

/-- What `AbsentLaw` says of lane 2 of a two-lane part. -/
def LaneTwoLaw (s : State) : Prop :=
  laneCount s = 2 → standing s .two = .absent ∧ ownLane s ≠ .two ∧ (∀ p, (getPort s p).peer ≠ some .two) ∧
    ¬ Votes s .two ∧ ∀ l n, s.copy.serving = some (l, n) → l ≠ .two

theorem not_votes_iff (s : State) (l : Lane) :
    ¬ Votes s l ↔ ∀ e ∈ s.vote.table, ∀ v, e.voters = some v → PerLane.get v l = false := by
  refine ⟨fun h e he v hv => ?_, fun h ⟨e, he, hl⟩ => ?_⟩
  · by_contra hl
    exact h ⟨e, he, (mem_votersOf hv l).2 (by simpa using hl)⟩
  · cases hv : e.voters with
    | none => simp [votersOf, hv] at hl
    | some v => simp [h e he v hv, mem_votersOf hv] at hl

theorem absentLaw_iff (s : State) : AbsentLaw s ↔
    (s.loader.reading = true → s.vote.table = [] ∧ s.copy.serving = none) ∧ LaneTwoLaw s := by
  rw [AbsentLaw, LaneTwoLaw, not_votes_iff]

theorem mirrorLaw_iff (s : State) : MirrorLaw s ↔ standing s (ownLane s) = mirrorOf s.lane.state ∧
    (∀ p, (getPort s p).peer ≠ some (ownLane s)) ∧ ∀ l n, s.copy.serving = some (l, n) → l ≠ ownLane s := by
  rw [MirrorLaw]
  cases s.lane.state <;> rfl

/-- A lane that is neither the own one nor the one a two-lane part lacks, as far as the laws say so. -/
structure OtherLane (s : State) (l : Lane) : Prop where
  own : MirrorLaw s → l ≠ ownLane s
  two : LaneTwoLaw s → laneCount s = 2 → l ≠ .two

theorem OtherLane.of_peer {s : State} {p : PortId} {l : Lane} (h : (getPort s p).peer = some l) : OtherLane s l where
  own hm := by
    obtain ⟨-, hpeer, -⟩ := hm
    rintro rfl
    exact hpeer p h
  two ht hc := by
    obtain ⟨-, -, hpeer, -⟩ := ht hc
    rintro rfl
    exact hpeer p h

theorem OtherLane.of_serving {s : State} {l : Lane} {n : Nat} (h : s.copy.serving = some (l, n)) : OtherLane s l where
  own hm := by
    obtain ⟨-, -, hserving⟩ := hm
    exact hserving l n h
  two ht hc := by
    obtain ⟨-, -, -, -, hserving⟩ := ht hc
    exact hserving l n h

/-- A peer that votes in an entry. -/
theorem OtherLane.of_votes {s : State} {l : Lane} (h : Votes s l) (hl : l ≠ ownLane s) : OtherLane s l where
  own _ := hl
  two ht hc := by
    obtain ⟨-, -, -, hvotes, -⟩ := ht hc
    rintro rfl
    exact hvotes h

theorem getPort_peer_congr {s t : State} (h1 : t.link1.peer = s.link1.peer) (h2 : t.link2.peer = s.link2.peer)
    (p : PortId) : (getPort t p).peer = (getPort s p).peer := by
  cases p
  · exact h1
  · exact h2

/-- A change of one state into another that keeps the straps, the image, the wiring, and the laws of self's standing and of
the absent lane. -/
structure KeepsLanes (s t : State) : Prop where
  straps : t.lines.straps = s.lines.straps
  image : t.map.image = s.map.image
  peer1 : t.link1.peer = s.link1.peer
  peer2 : t.link2.peer = s.link2.peer
  mirror : MirrorLaw s → MirrorLaw t
  two : LaneTwoLaw s → LaneTwoLaw t

theorem KeepsLanes.refl (s : State) : KeepsLanes s s := ⟨rfl, rfl, rfl, rfl, id, id⟩

theorem KeepsLanes.trans {s t u : State} (h : KeepsLanes s t) (g : KeepsLanes t u) : KeepsLanes s u :=
  ⟨g.straps.trans h.straps, g.image.trans h.image, g.peer1.trans h.peer1, g.peer2.trans h.peer2, g.mirror ∘ h.mirror,
    g.two ∘ h.two⟩

theorem KeepsLanes.ownLane_eq {s t : State} (h : KeepsLanes s t) : ownLane t = ownLane s := ownLane_congr h.straps

theorem KeepsLanes.laneCount_eq {s t : State} (h : KeepsLanes s t) : laneCount t = laneCount s := laneCount_congr h.image

theorem KeepsLanes.peer_eq {s t : State} (h : KeepsLanes s t) (p : PortId) : (getPort t p).peer = (getPort s p).peer :=
  getPort_peer_congr h.peer1 h.peer2 p

/-- What a change may do to one lane alone: set its standing and its votes. -/
structure TouchesLane (l : Lane) (s t : State) : Prop where
  wiring : t.lines.straps = s.lines.straps ∧ t.map.image = s.map.image ∧ t.link1.peer = s.link1.peer ∧
    t.link2.peer = s.link2.peer
  kept : t.lane.state = s.lane.state ∧ t.copy.serving = s.copy.serving
  standing : ∀ k, k ≠ l → standing t k = standing s k
  votes : ∀ k, k ≠ l → Votes t k → Votes s k

/-- A change of a lane that is not the own one nor the one a two-lane part lacks keeps both laws. -/
theorem KeepsLanes.then_touch {s t u : State} {l : Lane} (h : KeepsLanes s t) (hl : OtherLane s l)
    (g : TouchesLane l t u) : KeepsLanes s u := by
  obtain ⟨⟨hstraps, himage, hpeer1, hpeer2⟩, ⟨hstate, hserving⟩, hstanding, hvotes⟩ := g
  have hown : ownLane u = ownLane t := ownLane_congr hstraps
  have hcount : laneCount u = laneCount t := laneCount_congr himage
  have hpeer := getPort_peer_congr hpeer1 hpeer2
  refine ⟨hstraps.trans h.straps, himage.trans h.image, hpeer1.trans h.peer1, hpeer2.trans h.peer2, fun hm => ?_,
    fun ht hc => ?_⟩
  · obtain ⟨hself, hpeers, hserves⟩ := (mirrorLaw_iff t).1 (h.mirror hm)
    have hne : ownLane t ≠ l := h.ownLane_eq ▸ (hl.own hm).symm
    refine (mirrorLaw_iff u).2 ⟨?_, fun p => ?_, ?_⟩
    · rw [hown, hstanding _ hne, hself, hstate]
    · rw [hpeer, hown]
      exact hpeers p
    · rw [hserving, hown]
      exact hserves
  · rw [hcount] at hc
    obtain ⟨habsent, hself, hpeers, hnone, hserves⟩ := h.two ht hc
    have hne : Lane.two ≠ l := (hl.two ht (h.laneCount_eq ▸ hc)).symm
    refine ⟨(hstanding _ hne).trans habsent, hown ▸ hself, fun p => hpeer p ▸ hpeers p,
      fun hv => hnone (hvotes _ hne hv), hserving ▸ hserves⟩

/-- A change that leaves the view and what self's standing mirrors; voters and the serving may go. -/
theorem KeepsLanes.of_votes {s t : State} (g : t.lines.straps = s.lines.straps ∧ t.map.image = s.map.image ∧
    t.link1.peer = s.link1.peer ∧ t.link2.peer = s.link2.peer ∧ t.vote.view = s.vote.view ∧
    mirrorOf t.lane.state = mirrorOf s.lane.state ∧ (t.copy.serving = s.copy.serving ∨ t.copy.serving = none))
    (hvotes : LaneTwoLaw s → laneCount s = 2 → Votes t .two → Votes s .two) : KeepsLanes s t := by
  obtain ⟨hstraps, himage, hpeer1, hpeer2, hview, hstate, hserving⟩ := g
  have hown : ownLane t = ownLane s := ownLane_congr hstraps
  have hcount : laneCount t = laneCount s := laneCount_congr himage
  have hpeer := getPort_peer_congr hpeer1 hpeer2
  have hserves {k : Lane} (h : ∀ l n, s.copy.serving = some (l, n) → l ≠ k) :
      ∀ l n, t.copy.serving = some (l, n) → l ≠ k := by
    obtain hs | hs := hserving <;> rw [hs]
    · exact h
    · exact nofun
  refine ⟨hstraps, himage, hpeer1, hpeer2, fun hm => ?_, fun ht hc => ?_⟩
  · obtain ⟨hself, hpeers, hs⟩ := (mirrorLaw_iff s).1 hm
    refine (mirrorLaw_iff t).2 ⟨?_, fun p => ?_, ?_⟩
    · rw [hown, standing_congr hview, hself, hstate]
    · rw [hpeer, hown]
      exact hpeers p
    · rw [hown]
      exact hserves hs
  · rw [hcount] at hc
    obtain ⟨habsent, hself, hpeers, hnone, hs⟩ := ht hc
    exact ⟨(standing_congr hview _).trans habsent, hown ▸ hself, fun p => hpeer p ▸ hpeers p,
      fun hv => hnone (hvotes ht hc hv), hserves hs⟩

/-- A change that leaves the view and what self's standing mirrors; entries and the serving may go. -/
theorem KeepsLanes.of_less {s t : State} (g : t.lines.straps = s.lines.straps ∧ t.map.image = s.map.image ∧
    t.link1.peer = s.link1.peer ∧ t.link2.peer = s.link2.peer ∧ t.vote.view = s.vote.view ∧
    mirrorOf t.lane.state = mirrorOf s.lane.state ∧ (t.copy.serving = s.copy.serving ∨ t.copy.serving = none))
    (htable : ∀ e ∈ t.vote.table, e ∈ s.vote.table) : KeepsLanes s t :=
  .of_votes g fun _ _ ⟨e, he, hv⟩ => ⟨e, htable e he, hv⟩

/-- A change of other fields. -/
theorem KeepsLanes.of_frame {s t : State} (g : t.lines.straps = s.lines.straps ∧ t.map.image = s.map.image ∧
    t.link1.peer = s.link1.peer ∧ t.link2.peer = s.link2.peer ∧ t.vote.view = s.vote.view ∧
    t.lane.state = s.lane.state ∧ t.copy.serving = s.copy.serving ∧ t.vote.table = s.vote.table) : KeepsLanes s t := by
  obtain ⟨hstraps, himage, hpeer1, hpeer2, hview, hstate, hserving, htable⟩ := g
  exact .of_less ⟨hstraps, himage, hpeer1, hpeer2, hview, congrArg mirrorOf hstate, .inl hserving⟩
    fun e he => htable ▸ he

theorem KeepsLanes.frame {s t u : State} (h : KeepsLanes s t) (g : u.lines.straps = t.lines.straps ∧
    u.map.image = t.map.image ∧ u.link1.peer = t.link1.peer ∧ u.link2.peer = t.link2.peer ∧ u.vote.view = t.vote.view ∧
    u.lane.state = t.lane.state ∧ u.copy.serving = t.copy.serving ∧ u.vote.table = t.vote.table) : KeepsLanes s u :=
  h.trans (.of_frame g)

/-- The lane state set: self's standing mirrors it, and no other lane's changes (R111). -/
theorem KeepsLanes.then_setLaneState {s t : State} (h : KeepsLanes s t) (x : LaneState) :
    KeepsLanes s (setLaneState x t) := by
  have hown : ownLane (setLaneState x t) = ownLane t := ownLane_congr (by simp)
  have hcount : laneCount (setLaneState x t) = laneCount t := laneCount_congr (by simp)
  have hview : viewOf (setLaneState x t) = PerLane.set (viewOf t) (ownLane t) (mirrorOf x) := by
    simp [viewOf, setLaneState_vote]
  have hport (p : PortId) : getPort (setLaneState x t) p = getPort t p := by cases p <;> simp
  refine h.trans ⟨by simp, by simp, by simp, by simp, fun hm => ?_, fun ht hc => ?_⟩
  · obtain ⟨-, hpeers, hserves⟩ := hm
    refine (mirrorLaw_iff _).2 ⟨?_, fun p => ?_, ?_⟩
    · rw [hown, standing, hview, PerLane.get_set_self, setLaneState_state]
    · rw [hport, hown]
      exact hpeers p
    · simpa [hown] using hserves
  · rw [hcount] at hc
    obtain ⟨habsent, hself, hpeers, hnone, hserves⟩ := ht hc
    refine ⟨?_, hown ▸ hself, fun p => hport p ▸ hpeers p, by simpa [Votes] using hnone, by simpa using hserves⟩
    rw [standing, hview, PerLane.get_set_of_ne _ _ hself.symm]
    exact habsent

/-! The changes of one lane (R104, R112). -/

theorem setStanding_standing_of_ne {l k : Lane} (x : Standing) (s : State) (h : k ≠ l) :
    standing (setStanding l x s) k = standing s k := by
  simp [standing, viewOf, PerLane.get_set_of_ne _ _ h]

theorem votersOf_withoutVoter {k l : Lane} {e : VoteEntry} (h : k ∈ votersOf (withoutVoter l e)) : k ∈ votersOf e := by
  cases hv : e.voters with
  | none => simp [withoutVoter, votersOf, hv] at h
  | some v =>
    rw [mem_votersOf (e := withoutVoter l e) (v := PerLane.set v l false) (by simp [withoutVoter, hv])] at h
    rw [mem_votersOf hv]
    by_cases hk : k = l
    · simp [hk] at h
    · rwa [PerLane.get_set_of_ne _ _ hk] at h

/-- A standing set over a table from which lanes have been taken out. -/
theorem setStanding_touches {l : Lane} {x : Standing} {s t : State} (hw : t.lines.straps = s.lines.straps ∧
    t.map.image = s.map.image ∧ t.link1.peer = s.link1.peer ∧ t.link2.peer = s.link2.peer)
    (hk : t.lane.state = s.lane.state ∧ t.copy.serving = s.copy.serving) (hview : t.vote.view = s.vote.view)
    (hvotes : ∀ k, k ≠ l → Votes t k → Votes s k) : TouchesLane l s (setStanding l x t) := by
  refine ⟨by simpa using hw, by simpa using hk, fun k hk => ?_, fun k hk hv => hvotes k hk (by simpa [Votes] using hv)⟩
  rw [setStanding_standing_of_ne x t hk, standing_congr hview]

theorem votes_withoutVoter {l k : Lane} {s t : State} (ht : t.vote.table = s.vote.table.map (withoutVoter l))
    (h : Votes t k) : Votes s k := by
  obtain ⟨e, he, hk⟩ := h
  rw [ht] at he
  obtain ⟨x, hx, rfl⟩ := List.mem_map.1 he
  exact ⟨x, hx, votersOf_withoutVoter hk⟩

theorem excludePeer_touches (l : Lane) (s : State) : TouchesLane l s (excludePeer l s) := by
  unfold excludePeer
  split
  · exact setStanding_touches ⟨rfl, rfl, rfl, rfl⟩ ⟨rfl, rfl⟩ rfl fun k _ => votes_withoutVoter rfl
  · exact setStanding_touches ⟨rfl, rfl, rfl, rfl⟩ ⟨rfl, rfl⟩ rfl fun _ _ => id

theorem standJoining_touches (l : Lane) (s : State) : TouchesLane l s (standJoining l s) := by
  unfold standJoining
  split
  · exact setStanding_touches ⟨rfl, rfl, rfl, rfl⟩ ⟨rfl, rfl⟩ rfl fun k _ => votes_withoutVoter rfl
  · exact setStanding_touches ⟨rfl, rfl, rfl, rfl⟩ ⟨rfl, rfl⟩ rfl fun _ _ => id

/-- The lane made MEMBER by a frame becomes a voter, and no other lane does (R104, R112). -/
theorem memberByFrame_touches (l : Lane) (w : Word) (s : State) : TouchesLane l s (memberByFrame l w s) := by
  refine setStanding_touches ⟨rfl, rfl, rfl, rfl⟩ ⟨rfl, rfl⟩ rfl fun k hk ⟨e, he, hv⟩ => ?_
  obtain ⟨x, hx, rfl⟩ := List.mem_map.1 he
  refine ⟨x, hx, ?_⟩
  split at hv
  case isFalse => exact hv
  case isTrue =>
    cases hxv : x.voters with
    | none => simp [votersOf, hxv] at hv
    | some v =>
      rw [mem_votersOf (v := PerLane.set v l true) (by simp [hxv]), PerLane.get_set_of_ne _ _ hk] at hv
      exact (mem_votersOf hxv k).2 hv

/-- The peers a vote excludes change one after another. -/
theorem KeepsLanes.then_excludeAll {s t : State} {xs : List (Lane × Cause)} (h : KeepsLanes s t)
    (hx : ∀ x ∈ xs, OtherLane s x.1) : KeepsLanes s (excludeAll xs t) := by
  induction xs generalizing t with
  | nil => exact h
  | cons x xs ih =>
    obtain ⟨hfirst, hrest⟩ := List.forall_mem_cons.1 hx
    exact ih (h.then_touch hfirst (excludePeer_touches ..)) hrest

/-- The partners of a formation change one after another (R114). -/
theorem KeepsLanes.then_makeMembers {s t : State} {ls : List Lane} (h : KeepsLanes s t)
    (hl : ∀ l ∈ ls, OtherLane s l) : KeepsLanes s (makeMembers ls t) := by
  induction ls generalizing t with
  | nil => exact h
  | cons l ls ih =>
    obtain ⟨hfirst, hrest⟩ := List.forall_mem_cons.1 hl
    exact ih (h.then_touch hfirst (setStanding_touches ⟨rfl, rfl, rfl, rfl⟩ ⟨rfl, rfl⟩ rfl fun _ _ => id)) hrest

end Sys2Proof.Machine
end

section
/-! The vote table (R98, R101, R104): what its law reads, and the changes that leave it. -/

namespace Sys2Proof.Machine

/-- What the law of the vote table reads of an entry. -/
def VoteEntry.shape (e : VoteEntry) : Word × Bool × Bool × Bool := (e.cycle, e.window, e.own.isSome, e.voters.isSome)

/-- The vote table emptied with its window timer stopped, or left as it is but for peers' frames and for who votes. -/
def LikeTable (s t : State) : Prop :=
  t.vote.table = [] ∧ t.vote.window = none ∨
    t.vote.counter = s.vote.counter ∧ t.vote.window.isSome = s.vote.window.isSome ∧
      t.vote.table.map VoteEntry.shape = s.vote.table.map VoteEntry.shape

theorem LikeTable.of_frame {s t : State} (h : t.vote.counter = s.vote.counter ∧
    t.vote.window.isSome = s.vote.window.isSome ∧ t.vote.table = s.vote.table) : LikeTable s t := by
  obtain ⟨hcounter, hwindow, htable⟩ := h
  exact .inr ⟨hcounter, hwindow, by rw [htable]⟩

theorem LikeTable.refl (s : State) : LikeTable s s := .of_frame ⟨rfl, rfl, rfl⟩

theorem LikeTable.trans {s t u : State} (h : LikeTable s t) (g : LikeTable t u) : LikeTable s u := by
  obtain g | ⟨gc, gw, gt⟩ := g
  · exact .inl g
  obtain ⟨ht, hw⟩ | ⟨hc, hw, ht⟩ := h
  · exact .inl ⟨by simpa [ht] using gt, by simpa [hw] using gw⟩
  · exact .inr ⟨gc.trans hc, gw.trans hw, gt.trans ht⟩

/-- An entry afterwards has the shape of an entry before. -/
theorem LikeTable.exists_shape {s t : State} (h : LikeTable s t) {e : VoteEntry} (he : e ∈ t.vote.table) :
    t.vote.counter = s.vote.counter ∧ ∃ x ∈ s.vote.table, x.shape = e.shape := by
  obtain ⟨ht, -⟩ | ⟨hc, -, ht⟩ := h
  · rw [ht] at he
    cases he
  · refine ⟨hc, List.mem_map.1 ?_⟩
    rw [← ht]
    exact List.mem_map_of_mem he

theorem LikeTable.empty {s t : State} (h : LikeTable s t) (hs : s.vote.table = []) : t.vote.table = [] := by
  obtain ⟨ht, -⟩ | ⟨-, -, ht⟩ := h
  · exact ht
  · simpa [hs] using ht

theorem LikeTable.nodup {s t : State} (h : LikeTable s t) (hs : (s.vote.table.map (·.cycle)).Nodup) :
    (t.vote.table.map (·.cycle)).Nodup := by
  obtain ⟨ht, -⟩ | ⟨-, -, ht⟩ := h
  · simp [ht]
  · have hcycles := congrArg (List.map (·.1)) ht
    simp only [List.map_map, Function.comp_def, VoteEntry.shape] at hcycles
    rwa [hcycles]

theorem LikeTable.voteTableLaw {s t : State} (h : LikeTable s t) (hs : VoteTableLaw s) : VoteTableLaw t := by
  obtain ⟨hnodup, hentries, hwindow⟩ := hs
  refine ⟨h.nodup hnodup, fun e he => ?_, ?_⟩
  · obtain ⟨hc, x, hx, hshape⟩ := h.exists_shape he
    obtain ⟨hcycle, hwin, hown, hvoters⟩ : x.cycle = e.cycle ∧ x.window = e.window ∧ x.own.isSome = e.own.isSome ∧
      x.voters.isSome = e.voters.isSome := by simpa [VoteEntry.shape] using hshape
    rw [hc, ← hcycle, ← hwin, ← hown, ← hvoters]
    exact hentries x hx
  · obtain ⟨ht, hw⟩ | ⟨-, hw, ht⟩ := h
    · simp [ht, hw]
    · have hwindows := congrArg (List.any · (·.2.1)) ht
      simp only [List.any_map, Function.comp_def, VoteEntry.shape] at hwindows
      rw [hw, hwindow, hwindows]

/-- No entry is open: none has own pairs, a voter set or a running window, and the window timer is stopped. So it is between
the vote of an entry and the next own mark (R100). -/
structure NoneOpen (s : State) : Prop where
  nodup : (s.vote.table.map (·.cycle)).Nodup
  early : ∀ e ∈ s.vote.table, (e.cycle - s.vote.counter).toNat ≤ 3
  bare : ∀ e ∈ s.vote.table, e.window = false ∧ e.own = none ∧ e.voters = none
  stopped : s.vote.window = none

theorem NoneOpen.of_empty {s : State} (ht : s.vote.table = []) (hw : s.vote.window = none) : NoneOpen s :=
  ⟨by simp [ht], by simp [ht], by simp [ht], hw⟩

theorem NoneOpen.like {s t : State} (hs : NoneOpen s) (h : LikeTable s t) : NoneOpen t := by
  refine ⟨h.nodup hs.nodup, fun e he => ?_, fun e he => ?_, ?_⟩
  · obtain ⟨hc, x, hx, hshape⟩ := h.exists_shape he
    have hcycle : x.cycle = e.cycle := congrArg Prod.fst hshape
    rw [hc, ← hcycle]
    exact hs.early x hx
  · obtain ⟨-, x, hx, hshape⟩ := h.exists_shape he
    obtain ⟨hwindow, hown, hvoters⟩ := hs.bare x hx
    simpa [VoteEntry.shape, hwindow, hown, hvoters] using (congrArg Prod.snd hshape).symm
  · obtain ⟨-, hw⟩ | ⟨-, hw, -⟩ := h
    · exact hw
    · simpa [hs.stopped] using hw

/-- With no entry for the own cycle the law holds. -/
theorem NoneOpen.voteTableLaw {s : State} (h : NoneOpen s) (hc : ∀ e ∈ s.vote.table, e.cycle ≠ s.vote.counter) :
    VoteTableLaw s := by
  refine ⟨h.nodup, fun e he => ?_, ?_⟩
  · obtain ⟨hwindow, hown, hvoters⟩ := h.bare e he
    exact ⟨h.early e he, by simp [hwindow, hc e he], by simp [hwindow, hown], by simp [hwindow, hvoters]⟩
  · have hnone : s.vote.table.any (·.window) = false := by
      rw [List.any_eq_false]
      exact fun e he => by simp [(h.bare e he).1]
    simp [h.stopped, hnone]

/-! An entry changed (R100, R102). -/

theorem updateEntry_map_cycle {c : Word} {f : VoteEntry → VoteEntry} (hf : ∀ e, (f e).cycle = e.cycle)
    (table : List VoteEntry) : (updateEntry c f table).map (·.cycle) =
      if table.any (fun e => decide (e.cycle = c)) then table.map (·.cycle) else table.map (·.cycle) ++ [c] := by
  unfold updateEntry
  split
  · rw [List.map_map]
    refine List.map_congr_left fun e _ => ?_
    simp only [Function.comp_apply]
    split
    · exact hf e
    · rfl
  · simp [hf, earlyEntry]

theorem updateEntry_nodup {c : Word} {f : VoteEntry → VoteEntry} (hf : ∀ e, (f e).cycle = e.cycle)
    {table : List VoteEntry} (h : (table.map (·.cycle)).Nodup) : ((updateEntry c f table).map (·.cycle)).Nodup := by
  rw [updateEntry_map_cycle hf]
  split
  · exact h
  · rename_i hnone
    have hc : c ∉ table.map (·.cycle) := by
      simpa using hnone
    exact List.nodup_append.2 ⟨h, by simp, by simpa using hc⟩

end Sys2Proof.Machine
end

section
/-! The changes that touch neither the own cycle's entry nor the wiring: the ends of serving, the changes of lane state and
the attempts (R112, R115, R121 to R128, R148). -/

namespace Sys2Proof.Machine

theorem excludePeer_like (l : Lane) (s : State) : LikeTable s (excludePeer l s) := by
  unfold excludePeer
  split
  · exact .inr ⟨by simp, by simp, by simp [withoutVoter, VoteEntry.shape]⟩
  · exact .of_frame (by simp)

theorem standJoining_like (l : Lane) (s : State) : LikeTable s (standJoining l s) := by
  unfold standJoining
  split
  · exact .inr ⟨by simp, by simp, by simp [withoutVoter, VoteEntry.shape]⟩
  · exact .of_frame (by simp)

theorem memberByFrame_like (l : Lane) (w : Word) (s : State) : LikeTable s (memberByFrame l w s) := by
  refine .inr ⟨by simp, by simp, ?_⟩
  simp only [memberByFrame, setStanding_frame, List.map_map]
  refine List.map_congr_left fun e _ => ?_
  simp only [Function.comp_apply]
  split <;> simp [VoteEntry.shape]

/-- A change that keeps the laws of self's standing and of the absent lane, leaves the vote table or empties it, and begins
no serving. -/
structure LeavesVote (s t : State) : Prop extends KeepsLanes s t where
  table : LikeTable s t
  serving : s.copy.serving = none → t.copy.serving = none

namespace LeavesVote

variable {s t u : State}

theorem refl (s : State) : LeavesVote s s := ⟨.refl s, .refl s, id⟩

theorem trans (h : LeavesVote s t) (g : LeavesVote t u) : LeavesVote s u :=
  ⟨h.toKeepsLanes.trans g.toKeepsLanes, h.table.trans g.table, g.serving ∘ h.serving⟩

/-- A change of other fields. -/
theorem of_frame (g : t.lines.straps = s.lines.straps ∧ t.map.image = s.map.image ∧ t.link1.peer = s.link1.peer ∧
    t.link2.peer = s.link2.peer ∧ t.vote.view = s.vote.view ∧ t.lane.state = s.lane.state ∧
    t.copy.serving = s.copy.serving ∧ t.vote.table = s.vote.table ∧ t.vote.counter = s.vote.counter ∧
    t.vote.window = s.vote.window) : LeavesVote s t := by
  obtain ⟨hstraps, himage, hpeer1, hpeer2, hview, hstate, hserving, htable, hcounter, hwindow⟩ := g
  exact ⟨.of_frame ⟨hstraps, himage, hpeer1, hpeer2, hview, hstate, hserving, htable⟩,
    .of_frame ⟨hcounter, by rw [hwindow], htable⟩, hserving.trans⟩

theorem frame (h : LeavesVote s t) (g : u.lines.straps = t.lines.straps ∧ u.map.image = t.map.image ∧
    u.link1.peer = t.link1.peer ∧ u.link2.peer = t.link2.peer ∧ u.vote.view = t.vote.view ∧
    u.lane.state = t.lane.state ∧ u.copy.serving = t.copy.serving ∧ u.vote.table = t.vote.table ∧
    u.vote.counter = t.vote.counter ∧ u.vote.window = t.vote.window) : LeavesVote s u := h.trans (.of_frame g)

/-- The serving ended, the table emptied, or neither; the view is left. -/
theorem of_less (g : t.lines.straps = s.lines.straps ∧ t.map.image = s.map.image ∧ t.link1.peer = s.link1.peer ∧
    t.link2.peer = s.link2.peer ∧ t.vote.view = s.vote.view ∧ mirrorOf t.lane.state = mirrorOf s.lane.state ∧
    (t.copy.serving = s.copy.serving ∨ t.copy.serving = none))
    (k : t.vote.table = [] ∧ t.vote.window = none ∨ t.vote = s.vote) : LeavesVote s t := by
  have hserving : s.copy.serving = none → t.copy.serving = none := by
    obtain ⟨-, -, -, -, -, -, h⟩ := g
    exact fun hs => h.elim (·.trans hs) id
  obtain ⟨ht, hw⟩ | hv := k
  · exact ⟨.of_less g (by simp [ht]), .inl ⟨ht, hw⟩, hserving⟩
  · exact ⟨.of_less g fun e he => hv ▸ he, .of_frame (by simp [hv]), hserving⟩

theorem then_excludePeer (h : LeavesVote s t) {l : Lane} (hl : OtherLane s l) : LeavesVote s (excludePeer l t) :=
  ⟨h.then_touch hl (excludePeer_touches l t), h.table.trans (excludePeer_like l t),
    fun hs => by simpa using h.serving hs⟩

theorem then_memberByFrame (h : LeavesVote s t) {l : Lane} (hl : OtherLane s l) (w : Word) :
    LeavesVote s (memberByFrame l w t) :=
  ⟨h.then_touch hl (memberByFrame_touches l w t), h.table.trans (memberByFrame_like l w t),
    fun hs => by simpa using h.serving hs⟩

theorem then_setLaneState (h : LeavesVote s t) (x : LaneState) : LeavesVote s (setLaneState x t) :=
  ⟨h.toKeepsLanes.then_setLaneState x, h.table.trans (.of_frame (by simp)),
    fun hs => by simpa using h.serving hs⟩

end LeavesVote

/-! The end of serving (R148). -/

theorem endServingStep_leaves (o : Cause) (a : Option Cause) (s : State) : LeavesVote s (endServingStep o a s) := by
  cases hs : s.copy.serving with
  | none => rw [endServingStep_of_none hs]; exact .refl s
  | some x =>
    have hstopped : LeavesVote s (abandonTo x.1 x.2 a (purgeFor x.1 x.2 (stopServing (endRestoreJob s)))) :=
      .of_less (by simp [stopServing]) (.inr (by simp [stopServing]))
    rw [endServingStep_of_some hs]
    split
    · exact hstopped.then_excludePeer (.of_serving hs)
    · exact hstopped

theorem endServing_leaves (o : Cause) (a : Option Cause) (n : Option Nat) (s : State) :
    LeavesVote s (endServing o a n s) := (endServingStep_leaves o a s).frame (by simp [endServing])

/-! Isolation (R123). -/

theorem emptyVote_leaves (s : State) : LeavesVote s (emptyVote s) :=
  .of_less (by simp [emptyVote]) (.inl ⟨rfl, rfl⟩)

theorem isolate_leaves (c : Cause) (n : Option Nat) (s : State) : LeavesVote s (isolate c n s) := by
  unfold isolate
  extract_lets s1 s2 s3 s4 s5 control s6 s7 s8 s9
  have h2 : LeavesVote s s2 := (LeavesVote.then_setLaneState (t := dropFoundCause s) (.of_frame (by simp)) .isolated).frame
    (by simp [s2, s1])
  have h4 : LeavesVote s s4 := (h2.trans (emptyVote_leaves s2)).trans (endServingStep_leaves ..)
  have h7 : LeavesVote s s7 := by
    unfold s7
    split <;> exact h4.frame (by simp [s5, control, s6])
  exact h7.frame (by simp [s8, s9])

theorem leave_leaves (c : Cause) (n : Option Nat) (s : State) : LeavesVote s (leave c n s) := by
  unfold leave
  split
  · exact isolate_leaves ..
  · exact .refl s

/-! Attempts (R127, R128, R131, R132, R137, R138). -/

theorem startAttempt_leaves (s : State) : LeavesVote s (startAttempt s) := by
  have hprepare : LeavesVote s (prepareAttempt s) :=
    .of_less (by simp [prepareAttempt]) (.inl ⟨(prepareAttempt_spec s).1, by simp [prepareAttempt, clearStart]⟩)
  obtain ⟨h, -⟩ | ⟨h, -⟩ := startAttempt_cases s
  · rwa [h]
  · rw [h]
    exact hprepare.frame (by simp)

theorem enterJoining_leaves (g : Trigger) (s : State) : LeavesVote s (enterJoining g s) := by
  unfold enterJoining
  extract_lets s1 control s2 s3 s4
  have h4 : LeavesVote s s4 := (LeavesVote.then_setLaneState (t := dropFoundCause s) (.of_frame (by simp)) .joining).frame
    (by simp [s4, s3, s2, control, s1])
  exact (h4.trans (startAttempt_leaves s4)).frame (by simp)

theorem hearMember_leaves (s : State) : LeavesVote s (hearMember s) := by
  unfold hearMember
  split
  · exact isolate_leaves ..
  · split
    · exact leave_leaves ..
    · exact enterJoining_leaves ..

theorem failAttempt_leaves (c : Cause) (b : Bool) (d : Option Cause) (s : State) : LeavesVote s (failAttempt c b d s) := by
  unfold failAttempt
  split
  · have h : LeavesVote s (setLaneState .isolated (dropFoundCause (endAttempt c b s))) :=
      .then_setLaneState (.of_frame (by simp)) .isolated
    exact h.frame (by simp)
  · exact .refl s

theorem askOther_leaves (b : Bool) (s : State) : LeavesVote s (askOther b s) := by
  unfold askOther
  split
  · exact .of_frame (by simp)
  · exact failAttempt_leaves ..

/-- The view of an admitted lane shows self MEMBER, and ABSENT the lane that a two-lane part lacks (R115). -/
theorem admission_leaves (x : Snapshot) (s : State) : LeavesVote s (admission x s) := by
  have hvote := admission_vote x s
  have hown : ownLane (admission x s) = ownLane s := ownLane_congr (by simp)
  have hcount : laneCount (admission x s) = laneCount s := laneCount_congr (by simp)
  have hpeers : (admission x s).link1.peer = s.link1.peer ∧ (admission x s).link2.peer = s.link2.peer := by
    simp [admission_eq, takeSnapshot]
  have hpeer := getPort_peer_congr hpeers.1 hpeers.2
  have hview (l : Lane) : standing (admission x s) l = PerLane.get (admittedView x s) l := by simp [standing, viewOf, hvote]
  refine ⟨⟨by simp, by simp, hpeers.1, hpeers.2, fun hm => ?_, fun ht hc => ?_⟩, .inl (by simp [hvote]),
    fun hs => by simpa using hs⟩
  · obtain ⟨-, hwired, hserves⟩ := hm
    refine (mirrorLaw_iff _).2 ⟨?_, by simpa [hown, hpeer] using hwired, by simpa [hown] using hserves⟩
    rw [hown, hview, admittedView, PerLane.get_set_self, (admission_state x s).1]
    rfl
  · rw [hcount] at hc
    obtain ⟨-, hself, hwired, -, hserves⟩ := ht hc
    refine ⟨?_, hown ▸ hself, by simpa [hpeer] using hwired, by simp [Votes, hvote], by simpa using hserves⟩
    rw [hview, admittedView, PerLane.get_set_of_ne _ _ hself.symm, if_pos hc, PerLane.get_set_self]

end Sys2Proof.Machine
end

section
/-! The vote (R105 to R109, R114) and the frames it waits for (R101, R102). -/

namespace Sys2Proof.Machine

/-- A change that keeps the laws of the vote table, of self's standing and of the absent lane. -/
structure KeepsVote (s t : State) : Prop extends KeepsLanes s t where
  table : VoteTableLaw s → VoteTableLaw t

theorem LeavesVote.keeps {s t : State} (h : LeavesVote s t) : KeepsVote s t := ⟨h.toKeepsLanes, h.table.voteTableLaw⟩

theorem KeepsVote.refl (s : State) : KeepsVote s s := (LeavesVote.refl s).keeps

theorem KeepsVote.trans {s t u : State} (h : KeepsVote s t) (g : KeepsVote t u) : KeepsVote s u :=
  ⟨h.toKeepsLanes.trans g.toKeepsLanes, g.table ∘ h.table⟩

/-- No entry stands and nobody is served. -/
def VoteIdle (s : State) : Prop := s.vote.table = [] ∧ s.copy.serving = none

/-- Such a change that opens no entry and begins no serving where none stands. -/
structure SettlesVote (s t : State) : Prop extends KeepsVote s t where
  idle : VoteIdle s → VoteIdle t

theorem SettlesVote.refl (s : State) : SettlesVote s s := ⟨.refl s, id⟩

theorem SettlesVote.trans {s t u : State} (h : SettlesVote s t) (g : SettlesVote t u) : SettlesVote s u :=
  ⟨h.toKeepsVote.trans g.toKeepsVote, g.idle ∘ h.idle⟩

theorem LeavesVote.settles {s t : State} (h : LeavesVote s t) : SettlesVote s t :=
  ⟨h.keeps, fun ⟨ht, hs⟩ => ⟨h.table.empty ht, h.serving hs⟩⟩

/-! What a vote excludes and hands on. -/

/-- Only another lane that votes in the entry is excluded by its vote (R107, R108). -/
theorem outOf_votes {e : VoteEntry} {s : State} {x : Lane × Cause} (hx : x ∈ outOf e s) :
    x.1 ∈ votersOf e ∧ x.1 ≠ ownLane s := by
  obtain ⟨l, -, hl⟩ := List.mem_filterMap.1 hx
  obtain ⟨c, hc, rfl⟩ := Option.map_eq_some_iff.1 hl
  unfold exclusionReason at hc
  split at hc
  · cases hc
  case isFalse hown =>
    refine ⟨?_, hown⟩
    split at hc
    case isTrue hpresent => exact List.mem_of_mem_filter (List.contains_iff_mem.1 hpresent)
    case isFalse =>
      split at hc
      case isTrue hlate => exact List.mem_of_mem_filter (List.contains_iff_mem.1 hlate.1)
      case isFalse => cases hc

theorem partnersOf_votes {own l : Lane} {e : VoteEntry} {rs : List SlotResult} (h : l ∈ partnersOf own e rs) :
    l ∈ votersOf e ∧ l ≠ own := by
  obtain ⟨hpresent, hl⟩ := List.mem_filter.1 h
  exact ⟨List.mem_of_mem_filter hpresent, by simp_all⟩

theorem KeepsLanes.then_handOnVote {s t : State} (h : KeepsLanes s t) {own : Lane} {e : VoteEntry}
    (hv : ∀ l ∈ votersOf e, l ≠ own → OtherLane s l) (g : Option Word) (rs : List SlotResult) :
    KeepsLanes s (handOnVote own g e rs t) := by
  have hleave (c : Cause) : KeepsLanes s (leave c none t) := h.trans (leave_leaves c none t).toKeepsLanes
  have hform : KeepsLanes s (endFormation own e rs t) := by
    unfold endFormation
    split
    · have hmember : KeepsLanes s (enterMember t) := (h.then_setLaneState .member).frame (by simp [enterMember])
      have hpartners := hmember.then_makeMembers (ls := partnersOf own e rs) fun l hl =>
        hv l (partnersOf_votes hl).1 (partnersOf_votes hl).2
      exact hpartners.frame (by simp)
    · exact h
  unfold handOnVote
  split
  · exact hleave _
  split
  · exact hleave _
  split
  · exact hform
  split
  · exact hleave _
  · exact h

theorem handOnVote_like (own : Lane) (g : Option Word) (e : VoteEntry) (rs : List SlotResult) (s : State) :
    LikeTable s (handOnVote own g e rs s) := by
  unfold handOnVote
  split
  · exact (leave_leaves ..).table
  split
  · exact (leave_leaves ..).table
  split
  · exact .of_frame (by simp)
  split
  · exact (leave_leaves ..).table
  · exact .refl s

theorem excludeAll_like (xs : List (Lane × Cause)) (s : State) : LikeTable s (excludeAll xs s) := by
  induction xs generalizing s with
  | nil => exact .refl s
  | cons x xs ih => exact (excludePeer_like ..).trans (ih _)

/-- A lane that a vote stops is isolated, its table empty (R115, R122). -/
theorem handOnVote_stops {own : Lane} {g : Option Word} {e : VoteEntry} {rs : List SlotResult} {s : State}
    (hr : running s = true) (hstop : running (handOnVote own g e rs s) = false) :
    (handOnVote own g e rs s).vote.table = [] := by
  have hleave (c : Cause) : (leave c none s).vote.table = [] := by
    rw [leave_of_running hr]
    exact (isolate_ends ..).2.1
  revert hstop
  unfold handOnVote
  split
  · exact fun _ => hleave _
  split
  · exact fun _ => hleave _
  split
  · intro hstop
    unfold endFormation at hstop
    split at hstop
    · simp [running] at hstop
    · simp [hr] at hstop
  split
  · exact fun _ => hleave _
  · intro hstop
    simp [hr] at hstop

/-! The vote of an entry of the table. -/

/-- A vote of an entry of the table changes the standings of its voters alone, but for self (R107, R108, R114). -/
theorem castVote_lanes {e : VoteEntry} {s : State} (he : e ∈ s.vote.table) : KeepsLanes s (castVote e s) := by
  have hother (l : Lane) (hl : l ∈ votersOf e) (hown : l ≠ ownLane s) : OtherLane s l := .of_votes ⟨e, he, hl⟩ hown
  unfold castVote
  extract_lets own rs counts out vote s1 s2 clean s3 s4
  have h1 : KeepsLanes s s1 := .of_less (by simp [s1, vote]) fun x hx => List.mem_of_mem_filter hx
  have h2 : KeepsLanes s s2 := h1.then_excludeAll fun x hx => hother _ (outOf_votes hx).1 (outOf_votes hx).2
  have h3 : KeepsLanes s s3 := by
    unfold s3
    split
    · exact h2
    · exact h2.frame (by simp)
  exact (h3.frame (by simp [s4])).then_handOnVote hother ..

theorem castVote_like (e : VoteEntry) (s : State) : LikeTable (closeEntry e s) (castVote e s) := by
  obtain ⟨u, hcast, hvote⟩ := castVote_eq e s
  rw [hcast]
  have hu : LikeTable (closeEntry e s) u := (excludeAll_like (outOf e s) _).trans (.of_frame (by simp [hvote]))
  exact hu.trans (handOnVote_like ..)

/-- Once the one open entry is voted none is open. -/
theorem castVote_noneOpen {e : VoteEntry} {s : State} (hnodup : (s.vote.table.map (·.cycle)).Nodup)
    (hrest : ∀ x ∈ s.vote.table, x.cycle ≠ e.cycle → (x.cycle - s.vote.counter).toNat ≤ 3 ∧
      x.window = false ∧ x.own = none ∧ x.voters = none) : NoneOpen (castVote e s) := by
  have hmem (x : VoteEntry) (hx : x ∈ (closeEntry e s).vote.table) : x ∈ s.vote.table ∧ x.cycle ≠ e.cycle := by
    simpa [closeEntry] using hx
  refine NoneOpen.like ⟨?_, fun x hx => ?_, fun x hx => ?_, rfl⟩ (castVote_like e s)
  · exact hnodup.sublist (List.filter_sublist.map _)
  · exact (hrest x (hmem x hx).1 (hmem x hx).2).1
  · exact (hrest x (hmem x hx).1 (hmem x hx).2).2

/-- An entry of another cycle than the own one is not open. -/
theorem VoteTableLaw.bare {s : State} (h : VoteTableLaw s) {x : VoteEntry} (hx : x ∈ s.vote.table)
    (hc : x.cycle ≠ s.vote.counter) : x.window = false ∧ x.own = none ∧ x.voters = none := by
  obtain ⟨-, hentries, -⟩ := h
  obtain ⟨-, hwindow, hown, hvoters⟩ := hentries x hx
  have hw : x.window = false := by simpa [hc] using hwindow
  exact ⟨hw, by simpa [hw] using hown, by simpa [hw] using hvoters⟩

theorem VoteTableLaw.own_of_window {s : State} (h : VoteTableLaw s) {e : VoteEntry} (he : e ∈ s.vote.table)
    (hw : e.window = true) : e.cycle = s.vote.counter := by
  obtain ⟨-, hentries, -⟩ := h
  obtain ⟨-, hwindow, -⟩ := hentries e he
  simpa [hw] using hwindow

theorem VoteTableLaw.window_of_voters {s : State} (h : VoteTableLaw s) {e : VoteEntry} (he : e ∈ s.vote.table)
    (hv : e.voters.isSome = true) : e.window = true := by
  obtain ⟨-, hentries, -⟩ := h
  obtain ⟨-, -, -, hvoters⟩ := hentries e he
  rw [← hvoters, hv]

/-- The vote of the own cycle's entry. -/
theorem castVote_keepsVote {e : VoteEntry} {s : State} (he : e ∈ s.vote.table)
    (hc : VoteTableLaw s → e.cycle = s.vote.counter) : KeepsVote s (castVote e s) := by
  refine ⟨castVote_lanes he, fun h => ?_⟩
  have hown := hc h
  obtain ⟨hnodup, hentries, -⟩ := id h
  refine NoneOpen.voteTableLaw (castVote_noneOpen hnodup fun x hx hxe => ?_) fun x hx => ?_
  · exact ⟨(hentries x hx).1, h.bare hx (hown ▸ hxe)⟩
  · have hcounter : (castVote e s).vote.counter = s.vote.counter := by simp
    rw [hcounter, ← hown]
    exact (castVote_removes e s).2 x hx

theorem windowEntry_spec {s : State} {e : VoteEntry} (h : windowEntry s = some e) :
    e ∈ s.vote.table ∧ e.window = true := by
  unfold windowEntry at h
  exact ⟨List.mem_of_find?_eq_some h, by simpa using List.find?_some h⟩

theorem voteWindow_keepsVote {s : State} {e : VoteEntry} (h : windowEntry s = some e) : KeepsVote s (castVote e s) := by
  obtain ⟨he, hw⟩ := windowEntry_spec h
  exact castVote_keepsVote he fun hlaw => hlaw.own_of_window he hw

/-- The entry voted because it is complete is the own cycle's (R105). -/
theorem voteIfComplete_settles (s : State) : SettlesVote s (voteIfComplete s) := by
  unfold voteIfComplete
  split
  case h_1 e h =>
    have he := List.mem_of_find?_eq_some h
    have hcomplete := List.find?_some h
    refine ⟨castVote_keepsVote he fun hlaw => hlaw.own_of_window he (hlaw.window_of_voters he ?_), fun hidle => ?_⟩
    · simp_all [isComplete]
    · rw [hidle.1] at he
      cases he
  case h_2 => exact .refl s

theorem LeavesVote.then_vote {s t : State} (h : LeavesVote s t) : SettlesVote s (voteIfComplete t) :=
  h.settles.trans (voteIfComplete_settles t)

/-! A peer's frame stored (R101, R102). -/

/-- An entry with a lane's frame in it. -/
def withPeerFrame (l : Lane) (f : PeerFrame) (e : VoteEntry) : VoteEntry := { e with peers := PerLane.set e.peers l (some f) }

theorem storeFrame_eq (l : Lane) (c : Word) (f : PeerFrame) (s : State) : storeFrame l c f s =
    { s with vote := { s.vote with table := updateEntry c (withPeerFrame l f) s.vote.table } } := rfl

/-- An entry after a frame is stored is one of before but for peers' frames, or a new early one. -/
theorem of_mem_storeFrame {l : Lane} {c : Word} {f : PeerFrame} {s : State} {e : VoteEntry}
    (he : e ∈ (storeFrame l c f s).vote.table) : (∃ x ∈ s.vote.table, x.shape = e.shape ∧ x.voters = e.voters) ∨
      (e = withPeerFrame l f (earlyEntry c) ∧ ∀ y ∈ s.vote.table, y.cycle ≠ c) := by
  by_cases hc : e.cycle = c
  · obtain ⟨x, rfl, -, hx | ⟨rfl, hnone⟩⟩ := of_mem_updateEntry (f := withPeerFrame l f) he hc
    · exact .inl ⟨x, hx, rfl, rfl⟩
    · exact .inr ⟨rfl, hnone⟩
  · exact .inl ⟨e, (mem_updateEntry_of_ne (f := withPeerFrame l f) (fun _ => rfl) hc).1 he, rfl, rfl⟩

theorem storeFrame_window (l : Lane) (c : Word) (f : PeerFrame) (s : State) :
    (storeFrame l c f s).vote.table.any (·.window) = s.vote.table.any (·.window) := by
  have hsame (e : VoteEntry) : (if e.cycle = c then withPeerFrame l f e else e).window = e.window := by split <;> rfl
  simp only [storeFrame_eq, updateEntry]
  split
  · simp only [List.any_map, Function.comp_def, hsame]
  · simp [withPeerFrame, earlyEntry]

theorem storeFrame_lanes (l : Lane) (c : Word) (f : PeerFrame) (s : State) : KeepsLanes s (storeFrame l c f s) := by
  refine .of_votes (by simp) fun _ _ ⟨e, he, hk⟩ => ?_
  obtain ⟨x, hx, -, hvoters⟩ | ⟨rfl, -⟩ := of_mem_storeFrame he
  · exact ⟨x, hx, by simpa [votersOf, hvoters] using hk⟩
  · cases hk

/-- A frame is stored for the own cycle's entry or for a cycle up to three later (R98, R102). -/
theorem storeFrame_keepsVote {c : Word} {s : State} (hc : (c - s.vote.counter).toNat ≤ 3)
    (hown : c = s.vote.counter → ∃ e ∈ s.vote.table, e.cycle = c) (l : Lane) (f : PeerFrame) :
    KeepsVote s (storeFrame l c f s) := by
  refine ⟨storeFrame_lanes l c f s, fun ⟨hnodup, hentries, hwindow⟩ => ⟨?_, fun e he => ?_, ?_⟩⟩
  · exact updateEntry_nodup (f := withPeerFrame l f) (fun _ => rfl) hnodup
  · obtain ⟨x, hx, hshape, -⟩ | ⟨rfl, hnone⟩ := of_mem_storeFrame he
    · obtain ⟨hcycle, hwin, hownPairs, hvoters⟩ : x.cycle = e.cycle ∧ x.window = e.window ∧
        x.own.isSome = e.own.isSome ∧ x.voters.isSome = e.voters.isSome := by simpa [VoteEntry.shape] using hshape
      rw [← hcycle, ← hwin, ← hownPairs, ← hvoters]
      exact hentries x hx
    · have hne : c ≠ s.vote.counter := fun h => by
        obtain ⟨x, hx, hxc⟩ := hown h
        exact hnone x hx hxc
      exact ⟨hc, by simp [withPeerFrame, earlyEntry, hne], rfl, rfl⟩
  · rw [storeFrame_window]
    exact hwindow

theorem classifyArrival_current {s : State} {c : Word} (h : classifyArrival s c = .current) :
    c = s.vote.counter ∧ ∃ e ∈ s.vote.table, e.cycle = s.vote.counter := by
  simp only [classifyArrival] at h
  split at h
  case isTrue hzero =>
    split at h
    case h_1 e he => exact ⟨by bv_omega, e, List.mem_of_find?_eq_some he, by simpa using List.find?_some he⟩
    case h_2 => cases h
  case isFalse => (repeat' split at h) <;> cases h

theorem classifyArrival_early {s : State} {c : Word} (h : classifyArrival s c = .early) :
    c ≠ s.vote.counter ∧ (c - s.vote.counter).toNat ≤ 3 := by
  simp only [classifyArrival] at h
  split at h
  case isTrue => (repeat' split at h) <;> cases h
  case isFalse hzero =>
    split at h
    case isTrue hearly => exact ⟨fun hc => hzero (by simp [hc]), hearly⟩
    case isFalse => split at h <;> cases h

theorem takeSignature_keepsVote (l : Lane) (c : Word) (f : PeerFrame) (s : State) : KeepsVote s (takeSignature l c f s) := by
  unfold takeSignature
  split
  case h_1 h =>
    obtain ⟨rfl, hentry⟩ := classifyArrival_current h
    exact storeFrame_keepsVote (by simp) (fun _ => hentry) l f
  case h_2 h =>
    obtain ⟨hne, hearly⟩ := classifyArrival_early h
    exact storeFrame_keepsVote hearly (fun hc => absurd hc hne) l f
  case h_3 => exact (LeavesVote.of_frame (by simp [reportSkew])).keeps
  case h_4 =>
    refine LeavesVote.keeps (.of_frame ?_)
    unfold reportPeerLate
    split <;> simp

end Sys2Proof.Machine
end

section
/-! The own mark and the vote table (R100, R104). -/

namespace Sys2Proof.Machine

/-! Step 2: the entry of the last cycle is closed. -/

theorem closeEarlier_lanes (s : State) : KeepsLanes s (closeEarlier s) := by
  unfold closeEarlier
  split
  case h_1 e h => exact castVote_lanes (windowEntry_spec h).1
  case h_2 => exact .refl s

/-- A later cycle within three of the own one is within two of the next. -/
theorem early_of_raised {x c : Word} (h : (x - c).toNat ≤ 3) (hne : x ≠ c) : (x - (c + 1)).toNat ≤ 3 := by
  have hoffset : x - (c + 1) = x - c - 1 := by ring
  have hpos : x - c ≠ 0 := fun h0 => hne (sub_eq_zero.1 h0)
  rw [hoffset]
  generalize x - c = y at *
  bv_omega

/-- After step 2 of R100 no entry is open. -/
theorem closeEarlier_noneOpen {s : State} (h : VoteTableLaw s) : NoneOpen (closeEarlier (raiseCounter s)) := by
  obtain ⟨hnodup, hentries, hwindow⟩ := id h
  have hrest (x : VoteEntry) (hx : x ∈ s.vote.table) (hc : x.cycle ≠ s.vote.counter) :
      (x.cycle - (s.vote.counter + 1)).toNat ≤ 3 ∧ x.window = false ∧ x.own = none ∧ x.voters = none :=
    ⟨early_of_raised (hentries x hx).1 hc, h.bare hx hc⟩
  cases he : windowEntry (raiseCounter s) with
  | some e =>
    obtain ⟨hmem, hw⟩ := windowEntry_spec he
    rw [closeEarlier_of_some he]
    exact castVote_noneOpen hnodup fun x hx hxe => hrest x hx (h.own_of_window hmem hw ▸ hxe)
  | none =>
    have hclosed (x : VoteEntry) (hx : x ∈ s.vote.table) : ¬ x.window = true := List.find?_eq_none.1 he x hx
    have hlater (x : VoteEntry) (hx : x ∈ s.vote.table) : x.cycle ≠ s.vote.counter := fun hc =>
      hclosed x hx (by rw [(hentries x hx).2.1, decide_eq_true hc])
    rw [closeEarlier_of_none he]
    refine ⟨hnodup, fun x hx => (hrest x hx (hlater x hx)).1, fun x hx => (hrest x hx (hlater x hx)).2, ?_⟩
    have hany : s.vote.table.any (·.window) = false := List.any_eq_false.2 hclosed
    rw [hany] at hwindow
    simpa [raiseCounter] using hwindow

/-- A lane that its own mark stops has been isolated by the vote of the last cycle, its table empty (R115). -/
theorem closeEarlier_stops {s : State} (hr : running s = true) (hstop : running (closeEarlier s) = false) :
    (closeEarlier s).vote.table = [] := by
  cases he : windowEntry s with
  | none =>
    rw [closeEarlier_of_none he, hr] at hstop
    cases hstop
  | some e =>
    rw [closeEarlier_of_some he] at hstop ⊢
    unfold castVote at hstop ⊢
    refine handOnVote_stops ?_ hstop
    rw [← hr]
    refine running_congr ?_
    split <;> simp

/-! Step 3: the entry of the mark. -/

/-- The lane that a two-lane part lacks is no voter of the mark's entry (R104, R113). -/
theorem votersAtMark_two {s : State} (h : LaneTwoLaw s) (hc : laneCount s = 2) :
    PerLane.get (votersAtMark s) .two = false := by
  obtain ⟨habsent, hown, -⟩ := h hc
  have hpeers : .two ∉ peers s := by simp [peers, hc, Lane.number]
  simp [votersAtMark, PerLane.get, hown.symm, habsent, hpeers]

theorem signed_lanes (s : State) : KeepsLanes s (signed s) := by
  refine .of_votes (by simp [signed, markEntry]) fun ht hc ⟨e, he, hv⟩ => ?_
  rw [signed_vote] at he
  by_cases hcycle : e.cycle = s.vote.counter
  · obtain ⟨x, rfl, -⟩ := of_mem_updateEntry (f := marked s) he hcycle
    rw [mem_votersOf (v := votersAtMark s) rfl, votersAtMark_two ht hc] at hv
    cases hv
  · exact ⟨e, (mem_updateEntry_of_ne (marked_cycle s) hcycle).1 he, hv⟩

/-! Step 5: the entry voted, or its window started. -/

/-- The state of a mark whose entry waits for its voters' frames. -/
def waitingMark (u : State) : State :=
  { signed u with vote := { u.vote with window := some ((settings u).voteWindow * 1000), table := waitingTable u } }

theorem waitingMark_lanes (u : State) : KeepsLanes u (waitingMark u) := by
  refine (signed_lanes u).trans (.of_votes (by simp [waitingMark, signed_vote]) fun _ _ ⟨e, he, hv⟩ => ?_)
  simp only [Votes, signed_vote]
  by_cases hcycle : e.cycle = u.vote.counter
  · obtain ⟨x, rfl, hx, hmem | ⟨rfl, -⟩⟩ := of_mem_updateEntry (f := waiting) he hcycle
    · exact ⟨x, hmem, hv⟩
    · cases hv
  · exact ⟨e, (mem_updateEntry_of_ne waiting_cycle hcycle).1 he, hv⟩

theorem voteOrWait_lanes (u : State) : KeepsLanes u (voteOrWait (signed u)) := by
  obtain ⟨x, hentry, -⟩ := ownEntry_signed u
  cases hc : isComplete (ownLane u) (marked u x) with
  | true =>
    rw [voteOrWait_of_complete hentry hc]
    exact (signed_lanes u).trans (castVote_lanes (List.mem_of_find?_eq_some hentry))
  | false =>
    rw [voteOrWait_of_incomplete hentry hc]
    exact waitingMark_lanes u

/-- The own cycle's entry of a mark is open, and it alone (R100). -/
theorem waitingMark_table {u : State} (h : NoneOpen u) : VoteTableLaw (waitingMark u) := by
  have hcycles : ((waitingTable u).map (·.cycle)).Nodup :=
    updateEntry_nodup waiting_cycle (updateEntry_nodup (marked_cycle u) h.nodup)
  refine ⟨hcycles, fun e he => ?_, ?_⟩
  · by_cases hcycle : e.cycle = u.vote.counter
    · obtain ⟨x, rfl⟩ := of_mem_waitingTable he hcycle
      have hx : x.cycle = u.vote.counter := hcycle
      exact ⟨by simp [waitingMark, hx], by simp [waiting, waitingMark, hx], rfl, rfl⟩
    · have hmem := (mem_waitingTable_of_ne hcycle).1 he
      obtain ⟨hwindow, hown, hvoters⟩ := h.bare e hmem
      exact ⟨h.early e hmem, by simp [waitingMark, hwindow, hcycle], by simp [hwindow, hown], by simp [hwindow, hvoters]⟩
  · obtain ⟨e, he, hcycle⟩ := exists_mem_waitingTable u
    obtain ⟨x, rfl⟩ := of_mem_waitingTable he hcycle
    have hany : (waitingTable u).any (·.window) = true := List.any_eq_true.2 ⟨_, he, rfl⟩
    simp [waitingMark, hany]

/-- A vote at the mark leaves no entry of the own cycle (R105). -/
theorem completeVote_table {u : State} {x : VoteEntry} (h : NoneOpen u) (hx : x.cycle = u.vote.counter) :
    VoteTableLaw (castVote (marked u x) (signed u)) := by
  have hcycles : (((signed u).vote.table).map (·.cycle)).Nodup := by
    rw [signed_vote]
    exact updateEntry_nodup (marked_cycle u) h.nodup
  refine NoneOpen.voteTableLaw (castVote_noneOpen hcycles fun e he hne => ?_) fun e he => ?_
  · have hcycle : e.cycle ≠ u.vote.counter := hx ▸ hne
    rw [signed_vote] at he
    have hmem := (mem_updateEntry_of_ne (marked_cycle u) hcycle).1 he
    simpa only [signed_vote] using ⟨h.early e hmem, h.bare e hmem⟩
  · simpa [signed_vote, hx] using (castVote_removes (marked u x) (signed u)).2 e he

theorem voteOrWait_table {u : State} (h : NoneOpen u) : VoteTableLaw (voteOrWait (signed u)) := by
  obtain ⟨x, hentry, hx, -⟩ := ownEntry_signed u
  cases hc : isComplete (ownLane u) (marked u x) with
  | true =>
    rw [voteOrWait_of_complete hentry hc]
    exact completeVote_table h hx
  | false =>
    rw [voteOrWait_of_incomplete hentry hc]
    exact waitingMark_table h

/-! The whole mark. -/

theorem restartSupervision_leaves (s : State) : LeavesVote s (restartSupervision s) := by
  refine .of_frame ?_
  unfold restartSupervision
  split <;> simp

theorem completeMark_lanes (u : State) : KeepsLanes u (completeMark u) := by
  have h := (voteOrWait_lanes u).trans (restartSupervision_leaves _).toKeepsLanes
  exact h.frame (by simp [completeMark_eq])

theorem completeMark_table {u : State} (h : NoneOpen u) : VoteTableLaw (completeMark u) := by
  have hvoted := (restartSupervision_leaves _).table.voteTableLaw (voteOrWait_table h)
  exact LikeTable.voteTableLaw (.of_frame (by simp [completeMark_eq])) hvoted

/-- An own mark keeps the laws: the last cycle's entry is closed, and the new one open or voted (R100). -/
theorem takeMark_keepsVote {s : State} (hr : running s = true) : KeepsVote s (takeMark s) := by
  have hraise : KeepsLanes s (raiseCounter s) := .of_frame (by simp [raiseCounter])
  have hclose : KeepsLanes s (closeEarlier (raiseCounter s)) := hraise.trans (closeEarlier_lanes _)
  simp only [takeMark]
  split
  case isTrue => exact ⟨hclose.trans (completeMark_lanes _), fun h => completeMark_table (closeEarlier_noneOpen h)⟩
  case isFalse hstop =>
    refine ⟨hclose, fun h => (closeEarlier_noneOpen h).voteTableLaw ?_⟩
    have hempty := closeEarlier_stops (s := raiseCounter s) hr (by simpa using hstop)
    simp [hempty]

end Sys2Proof.Machine
end

section
/-! The ends of bursts, the timers and the deliveries (R92, R132 to R152). -/

namespace Sys2Proof.Machine

/-! The end of a burst (R41, R160). -/

theorem copyClassAction_leaves (b : Nat) (s : State) : LeavesVote s (copyClassAction b s) := by
  unfold copyClassAction
  split
  · exact leave_leaves ..
  · split
    · exact .of_frame (by simp)
    · exact .refl s

theorem endWork_leaves (e : AtEnd) (s : State) : LeavesVote s (endWork e s) := by
  cases e with
  | nothing => exact .refl s
  | leave c n => exact leave_leaves ..
  | failAttempt c => exact failAttempt_leaves ..
  | sendBlock p attempt b words => exact .of_frame (by simp [endWork])
  | damaged p b live =>
    cases live with
    | true =>
      have hfree : LeavesVote s (freeSlot p s) := .of_frame (by simp)
      exact (hfree.trans (endServing_leaves ..)).trans (copyClassAction_leaves b _)
    | false => exact copyClassAction_leaves b s
  | sendFetched p b words => exact .of_frame (by simp [endWork])
  | refuseFetched p b =>
    have hrefuse : LeavesVote s (offerControl p (.refuse (.fetch b) .damaged) (freeSlot p s)) := .of_frame (by simp)
    exact hrefuse.trans (copyClassAction_leaves b _)

theorem endStartingClear_leaves (s : State) : LeavesVote s (endStartingClear s) := by
  unfold endStartingClear
  extract_lets s1 s2 s3 control s4
  have h4 : LeavesVote s s4 := .of_frame (by simp [s4, control, s3, s2, s1])
  split
  · exact h4.trans (hearMember_leaves s4)
  · exact h4

theorem fillGoesOn_leaves (s : State) : LeavesVote s (fillGoesOn s) := by
  unfold fillGoesOn
  split
  · exact .of_frame (by simp)
  · exact .of_frame (by simp)
  · exact endStartingClear_leaves s
  · exact .refl s

theorem endBurst_settles (b : Burst) (s : State) : SettlesVote s (endBurst b s) := by
  unfold endBurst
  extract_lets s1 s2 s3 s4
  have h2 : LeavesVote s s2 := by
    unfold s2
    split <;> exact .of_frame (by simp [s1])
  have h3 : SettlesVote s s3 := (h2.trans (endWork_leaves b.atEnd s2)).then_vote
  have h4 : SettlesVote s s4 := by
    unfold s4
    split
    · exact h3.trans (fillGoesOn_leaves s3).settles
    · exact h3
  exact h4.trans (LeavesVote.of_frame (by simp)).settles

/-! The timers of the copy engine (R132, R136, R137, R146, R147). -/

theorem giveUpServing_settles (c : Cause) (s : State) : SettlesVote s (giveUpServing c s) :=
  (endServing_leaves ..).then_vote

theorem silentInRequest_leaves (s : State) : LeavesVote s (silentInRequest s) := by
  unfold silentInRequest
  split
  · exact .trans (.of_frame (by simp)) (askOther_leaves ..)
  · exact askOther_leaves ..

theorem progressExpires_settles (s : State) : SettlesVote s (progressExpires s) := by
  unfold progressExpires
  split
  · exact (silentInRequest_leaves s).settles
  · exact (failAttempt_leaves ..).settles
  · exact (failAttempt_leaves ..).settles
  · split
    · exact giveUpServing_settles ..
    · exact .refl s

theorem holdRunsOut_settles (s : State) : SettlesVote s (holdRunsOut s) := by
  unfold holdRunsOut
  extract_lets engine t
  have ht : LeavesVote s t := .of_frame (by simp [t, engine])
  split
  · exact ht.settles.trans (giveUpServing_settles ..)
  · exact ht.settles

theorem holdExpires_settles (s : State) : SettlesVote s (holdExpires s) := by
  unfold holdExpires
  split
  · exact holdRunsOut_settles s
  · exact giveUpServing_settles ..
  · exact .refl s

theorem verifyAdmit_leaves (x : Snapshot) (s : State) : LeavesVote s (verifyAdmit x s) := by
  unfold verifyAdmit
  split
  · exact admission_leaves x s
  · unfold mismatchFound
    split
    · exact .trans (.of_frame (by simp)) (failAttempt_leaves ..)
    · exact failAttempt_leaves ..

theorem retryExpires_leaves (s : State) : LeavesVote s (retryExpires s) := by
  unfold retryExpires
  split
  · exact .of_frame (by simp)
  · exact .trans (.of_frame (by simp)) (enterJoining_leaves ..)

/-! SIGNATURE, STATE and NOTICE (R102, R112, R121). -/

theorem LeavesVote.then_excludeByState {s t : State} (h : LeavesVote s t) {l : Lane} (hl : OtherLane s l) (x : LaneState)
    (w : Word) : LeavesVote s (excludeByState l x w t) := by
  unfold excludeByState
  split
  · exact (h.then_excludePeer hl).frame (by simp)
  · exact h

theorem discover_leaves (x : LaneState) (b : Bool) (s : State) : LeavesVote s (discover x b s) := by
  unfold discover
  split
  · exact hearMember_leaves s
  · exact .refl s

theorem hear_leaves (l : Lane) (x : LaneState) (s : State) : LeavesVote s (hear l x s) := .of_frame (by simp [hear])

theorem signatureArrives_keepsVote {s : State} {l : Lane} (hl : OtherLane s l) (c : Word) (f : PeerFrame) :
    KeepsVote s (signatureArrives l c f s) := by
  unfold signatureArrives
  extract_lets s1 partner s2
  have h1 : LeavesVote s s1 := hear_leaves l f.state s
  have h2 : KeepsVote s s2 := by
    unfold s2
    split
    · exact ((h1.then_excludeByState hl f.state c).keeps.trans (takeSignature_keepsVote ..)).trans
        (voteIfComplete_settles _).toKeepsVote
    · exact h1.keeps
  exact h2.trans (discover_leaves ..).keeps

theorem stateArrives_settles {s : State} {l : Lane} (hl : OtherLane s l) (x : LaneState) (w : Word) :
    SettlesVote s (stateArrives l x w s) :=
  ((hear_leaves l x s).then_excludeByState hl x w).then_vote.trans (discover_leaves ..).settles

theorem noticeArrives_settles (l : Lane) (w : Word) (s : State) : SettlesVote s (noticeArrives l w s) := by
  unfold noticeArrives
  split
  case isTrue => exact .refl s
  case isFalse h =>
    simp only [not_or] at h
    obtain ⟨-, hown, -, habsent⟩ := h
    have hl : OtherLane s l := ⟨fun _ => hown, fun _ hc => by simpa [isAbsentLane, hc] using habsent⟩
    exact ((LeavesVote.refl s).then_memberByFrame hl w).then_vote

/-! JOIN (R140, R141). -/

/-- Serving a lane that is neither the own one nor one that a two-lane part lacks. -/
theorem KeepsLanes.then_serve {s t u : State} (h : KeepsLanes s t) {l : Lane} {n : Nat} (hl : OtherLane s l)
    (g : u.lines.straps = t.lines.straps ∧ u.map.image = t.map.image ∧ u.link1.peer = t.link1.peer ∧
      u.link2.peer = t.link2.peer ∧ u.vote = t.vote ∧ u.lane.state = t.lane.state ∧ u.copy.serving = some (l, n)) :
    KeepsLanes s u := by
  obtain ⟨hstraps, himage, hpeer1, hpeer2, hvote, hstate, hserving⟩ := g
  have hown : ownLane u = ownLane t := ownLane_congr hstraps
  have hcount : laneCount u = laneCount t := laneCount_congr himage
  have hpeer := getPort_peer_congr hpeer1 hpeer2
  have hview (k : Lane) : standing u k = standing t k := standing_congr (by rw [hvote]) k
  have hserves {k : Lane} (hk : l ≠ k) : ∀ m i, u.copy.serving = some (m, i) → m ≠ k := by
    rintro m i hm rfl
    rw [hserving] at hm
    cases hm
    exact hk rfl
  refine ⟨hstraps.trans h.straps, himage.trans h.image, hpeer1.trans h.peer1, hpeer2.trans h.peer2, fun hm => ?_,
    fun ht hc => ?_⟩
  · obtain ⟨hself, hwired, -⟩ := (mirrorLaw_iff t).1 (h.mirror hm)
    refine (mirrorLaw_iff u).2 ⟨by rw [hown, hview, hself, hstate], fun p => ?_, hserves ?_⟩
    · rw [hpeer, hown]
      exact hwired p
    · rw [hown, h.ownLane_eq]
      exact hl.own hm
  · rw [hcount] at hc
    obtain ⟨habsent, hself, hwired, hnone, -⟩ := h.two ht hc
    refine ⟨(hview _).trans habsent, hown ▸ hself, fun p => hpeer p ▸ hwired p, ?_, hserves (hl.two ht ?_)⟩
    · simpa [Votes, hvote] using hnone
    · rw [← h.laneCount_eq, hc]

theorem acceptJoin_keepsVote {s t : State} (h : LeavesVote s t) {l : Lane} (hl : OtherLane s l) (p : PortId)
    (n : Nat) : KeepsVote s (acceptJoin p l n t) := by
  unfold acceptJoin
  extract_lets s1 engine control s2 s3
  have h2 : KeepsLanes s s2 := h.toKeepsLanes.then_serve (n := n) hl (by simp [s2, engine, s1])
  have htable : LikeTable s s3 := (h.table.trans (.of_frame (by simp [s2, s1]))).trans (standJoining_like l s2)
  have h3 : KeepsVote s s3 := ⟨h2.then_touch hl (standJoining_touches l s2), htable.voteTableLaw⟩
  have hreported : LeavesVote s3 (report .serveBegin none 0 (packFields [(Lane.number l, 0), (n, 8)]) 0 s3) :=
    .of_frame (by simp)
  exact (h3.trans hreported.keeps).trans (voteIfComplete_settles _).toKeepsVote

theorem joinArrives_keepsVote {s : State} {l : Lane} (hl : OtherLane s l) (p : PortId) (n : Nat) (x : Pair) :
    KeepsVote s (joinArrives p l n x s) := by
  unfold joinArrives
  split
  · exact (LeavesVote.of_frame (by simp)).keeps
  · exact acceptJoin_keepsVote (endServing_leaves ..) hl p n
  · exact acceptJoin_keepsVote (.refl s) hl p n

/-! REFUSE, ADMITTED, MISMATCH and ABANDON (R132, R138, R139, R147). -/

theorem refuseArrives_leaves (l : Lane) (x : RefuseSubject) (r : RefuseReason) (s : State) :
    LeavesVote s (refuseArrives l x r s) := by
  unfold refuseArrives
  split
  · split
    · exact askOther_leaves ..
    · exact .refl s
  · split
    · split
      · exact .of_frame (by simp)
      · exact .refl s
    · exact .refl s

theorem verdictCounts_serving {s : State} {l : Lane} {n : Nat} (h : verdictCounts l n s = true) :
    s.copy.serving = some (l, n) := by simp_all [verdictCounts]

theorem admittedArrives_settles (l : Lane) (n : Nat) (w : Word) (s : State) : SettlesVote s (admittedArrives l n w s) := by
  unfold admittedArrives
  split
  case isTrue h =>
    have hl : OtherLane s l := .of_serving (verdictCounts_serving h)
    have hmember : LeavesVote s (memberByFrame l (w + 1) (endServing .admitted none none s)) :=
      (endServing_leaves ..).then_memberByFrame hl _
    exact (hmember.frame (by simp)).then_vote
  case isFalse => exact .refl s

theorem mismatchArrives_settles (l : Lane) (n k : Nat) (s : State) : SettlesVote s (mismatchArrives l n k s) := by
  unfold mismatchArrives
  split
  · exact (endServing_leaves ..).then_vote
  · exact .refl s

theorem abandonArrives_settles (l : Lane) (n : Nat) (c : Cause) (s : State) : SettlesVote s (abandonArrives l n c s) := by
  unfold abandonArrives
  split
  · split
    · exact (failAttempt_leaves ..).settles
    · exact .refl s
  · split
    · exact (leave_leaves ..).settles
    · split
      · exact (endServing_leaves ..).then_vote
      · exact .refl s
  · exact .refl s

/-! The image read (R84, R111, R155, R157). -/

theorem number_ownLane {s : State} (h : s.lines.straps.toNat < 3) : Lane.number (ownLane s) = s.lines.straps.toNat := by
  unfold ownLane
  split <;> simp_all [Lane.number]
  omega

/-- No port is wired to the own lane, and with two lanes none to lane 2 (R84). -/
theorem wiredPeer_other {lanes own : Nat} (hown : own < lanes) (hlanes : lanes = 2 ∨ lanes = 3) {p : PortId} {l : Lane}
    (h : wiredPeer lanes own p = some l) : Lane.number l ≠ own ∧ (lanes = 2 → l ≠ .two) := by
  have htwo : ∀ own < 2, ∀ p ∈ [PortId.link1, .link2],
      (wiredPeer 2 own p).all (fun l => decide (Lane.number l ≠ own ∧ l ≠ .two)) = true := by decide
  have hthree : ∀ own < 3, ∀ p ∈ [PortId.link1, .link2],
      (wiredPeer 3 own p).all (fun l => decide (Lane.number l ≠ own)) = true := by decide
  have hp : p ∈ [PortId.link1, .link2] := by cases p <;> decide
  obtain rfl | rfl := hlanes
  · have hwired := htwo own hown p hp
    rw [h] at hwired
    obtain ⟨hne, hl⟩ : Lane.number l ≠ own ∧ l ≠ .two := by simpa using hwired
    exact ⟨hne, fun _ => hl⟩
  · have hwired := hthree own hown p hp
    rw [h] at hwired
    exact ⟨by simpa using hwired, fun h => absurd h (by decide)⟩

end Sys2Proof.Machine
end

section
/-! Every step keeps the vote table, self's standing and the absent lane (R84, R98, R101, R105, R111). -/

namespace Sys2Proof.Machine

/-! The end of the image read (R111, R155, R157). -/

theorem acceptImage_standing (im : Image) (s : State) (l : Lane) :
    standing (acceptImage im s) l = PerLane.get (firstView im.laneCount) l := by
  simp [standing, viewOf, acceptImage, loadTables]

theorem acceptImage_wired (im : Image) (s : State) (p : PortId) :
    (getPort (acceptImage im s) p).peer = wiredPeer im.laneCount s.lines.straps.toNat p := by
  cases p <;> simp [acceptImage, loadTables, startLink]

/-- Self and every peer are EXCLUDED as an image is accepted (R111, R157). -/
theorem firstView_own {lanes : Nat} {l : Lane} (h : Lane.number l < lanes) (hlanes : lanes = 2 ∨ lanes = 3) :
    PerLane.get (firstView lanes) l = .excluded := by
  cases l with
  | zero => rfl
  | one => rfl
  | two =>
    obtain rfl | rfl := hlanes
    · exact absurd h (by decide)
    · rfl

/-- The image read gives the lane count: self is EXCLUDED, and the lane that a two-lane part lacks ABSENT (R84, R157). -/
theorem acceptImage_laws {words : List Word} {im : Image} {s : State} (hr : readsImage s = true)
    (hi : loadImage? s.lines.straps.toNat words = some im) : (VoteTableLaw s → VoteTableLaw (acceptImage im s)) ∧
      (MirrorLaw s → MirrorLaw (acceptImage im s)) ∧ (VoteIdle s → LaneTwoLaw (acceptImage im s)) := by
  have hreads := loadImage?_eq_some.1 hi
  have hstraps : s.lines.straps.toNat < 3 := by
    have hlt := hreads.straps_lt
    have hlanes := hreads.lanes
    omega
  have hnumber := number_ownLane hstraps
  have hown : ownLane (acceptImage im s) = ownLane s := ownLane_congr (by simp)
  have hstate : (acceptImage im s).lane.state = .starting := by simpa using readsImage_starting hr
  have hwired {p : PortId} {l : Lane} (h : (getPort (acceptImage im s) p).peer = some l) :=
    wiredPeer_other hreads.straps_lt hreads.lanes ((acceptImage_wired im s p).symm.trans h)
  refine ⟨LikeTable.voteTableLaw (.of_frame (by simp [acceptImage, loadTables])), fun ⟨_, _, hserves⟩ => ?_,
    fun ⟨htable, hserving⟩ hc => ?_⟩
  · refine (mirrorLaw_iff _).2 ⟨?_, fun p hp => ?_, by simpa [hown] using hserves⟩
    · rw [acceptImage_standing, hown, hstate]
      exact firstView_own (hnumber ▸ hreads.straps_lt) hreads.lanes
    · exact (hwired hp).1 (hown ▸ hnumber)
  · have hcount : im.laneCount = 2 := by simpa [laneCount, acceptImage, loadTables] using hc
    refine ⟨?_, fun h => ?_, fun p hp => (hwired hp).2 hcount rfl, ?_, by simp [hserving]⟩
    · rw [acceptImage_standing, hcount]
      rfl
    · rw [hown] at h
      have hlt := hreads.straps_lt
      rw [hcount, ← hnumber, h] at hlt
      exact absurd hlt (by decide)
    · simp [Votes, acceptImage, loadTables, htable]

theorem enterFailed_leaves {s : State} (h : s.lane.state = .starting) : LeavesVote s (enterFailed s) :=
  .of_less (by simp [enterFailed, h, mirrorOf]) (.inr rfl)

/-! Every effect. -/

theorem enterForming_leaves (s : State) : LeavesVote s (enterForming s) := by
  unfold enterForming
  extract_lets control s1
  have h1 : LeavesVote s s1 := LeavesVote.then_setLaneState (.of_frame (by simp [control])) .forming
  exact h1.frame (by simp)

/-- The lane state in which the image is read: neither the formation window runs nor do frames count (R117, R161). -/
def BeforeImage (s : State) : Prop := s.lane.state = .starting ∧ s.lane.formation = none

/-- Before the image a peer heard as MEMBER changes nothing (R121). -/
theorem discover_beforeImage {s : State} (h : BeforeImage s) (x : LaneState) (b : Bool) : discover x b s = s := by
  simp [discover, discovers, h.1, h.2]

theorem joinArrives_beforeImage {s : State} (h : BeforeImage s) (p : PortId) (l : Lane) (n : Nat) (x : Pair) :
    joinArrives p l n x s = offerControl p (.refuse (.join n) .notMember) s := by
  simp [joinArrives, judgeJoin, h.1]

theorem signatureArrives_beforeImage {s : State} (h : BeforeImage s) (l : Lane) (c : Word) (f : PeerFrame) :
    signatureArrives l c f s = hear l f.state s := by
  have hheard : BeforeImage (hear l f.state s) := h
  simp [signatureArrives, running_of_starting hheard.1, discover_beforeImage hheard]

theorem arrive_leaves (p : PortId) (rest : List Frame) (l : Lane) (s : State) : LeavesVote s (arrive p rest l s) :=
  .of_frame (by simp)

theorem OtherLane.of_arrive {s : State} {p : PortId} {l : Lane} (h : (getPort s p).peer = some l) (rest : List Frame) :
    OtherLane (arrive p rest l s) l :=
  .of_peer (p := p) ((arrive_leaves p rest l s).toKeepsLanes.peer_eq p ▸ h)

/-- An effect other than the acceptance of an image keeps the laws, and before the image no entry and no serving begins. -/
theorem effect_keepsVote {c : Instr} {s u : State} (h : Effect c s u) (hi : ∀ words, c ≠ .imageReadComplete words) :
    KeepsVote s u ∧ (BeforeImage s → VoteIdle s → VoteIdle u) := by
  have settled {u : State} (h : SettlesVote s u) : KeepsVote s u ∧ (BeforeImage s → VoteIdle s → VoteIdle u) :=
    ⟨h.toKeepsVote, fun _ => h.idle⟩
  have delivered (p : PortId) (rest : List Frame) (l : Lane) {u : State} (h : SettlesVote (arrive p rest l s) u) :=
    settled ((arrive_leaves p rest l s).settles.trans h)
  cases h with
  | imageAccepted | imageRefused => exact absurd rfl (hi _)
  | burstEnd => exact settled (endBurst_settles ..)
  | ownMark h =>
    have hr : running s = true := by simp_all [marksCycle]
    exact ⟨takeMark_keepsVote hr, fun hb => by simp [running_of_starting hb.1] at hr⟩
  | voteWindowExpiry _ he =>
    refine ⟨voteWindow_keepsVote he, fun _ hidle => ?_⟩
    have hmem := (windowEntry_spec he).1
    rw [hidle.1] at hmem
    cases hmem
  | cycleSupervisionExpiry => exact settled (leave_leaves ..).settles
  | formationWindowExpiry => exact settled (enterForming_leaves s).settles
  | retryTimerExpiry => exact settled (retryExpires_leaves s).settles
  | restoreEdge => exact settled (LeavesVote.trans (.of_frame (by simp)) (enterJoining_leaves ..)).settles
  | supplyLowActive => exact settled (LeavesVote.trans (.of_frame (by simp)) (failAttempt_leaves ..)).settles
  | supplyLowRetry => exact settled (LeavesVote.trans (.of_frame (by simp)) (enterJoining_leaves ..)).settles
  | progressTimerExpiry =>
    have hstopped : LeavesVote s { s with copy := { s.copy with progress := none } } := .of_frame (by simp)
    exact settled (hstopped.settles.trans (progressExpires_settles _))
  | holdTimerExpiry =>
    have hstopped : LeavesVote s { s with copy := { s.copy with holdTimer := none } } := .of_frame (by simp)
    exact settled (hstopped.settles.trans (holdExpires_settles _))
  | admitVerify => exact settled (verifyAdmit_leaves ..).settles
  | @signatureDelivery _ p _ _ _ _ rest l _ hl =>
    have harrive := arrive_leaves p rest l s
    refine ⟨harrive.keeps.trans (signatureArrives_keepsVote (.of_arrive hl _) ..), fun hb hidle => ?_⟩
    rw [signatureArrives_beforeImage (by simpa [BeforeImage] using hb)]
    exact (harrive.trans (hear_leaves ..)).settles.idle hidle
  | stateDelivery _ hl => exact delivered _ _ _ (stateArrives_settles (.of_arrive hl _) ..)
  | noticeDelivery => exact delivered _ _ _ (noticeArrives_settles ..)
  | @joinDelivery _ p _ _ rest l _ hl =>
    have harrive := arrive_leaves p rest l s
    refine ⟨harrive.keeps.trans (joinArrives_keepsVote (.of_arrive hl _) ..), fun hb hidle => ?_⟩
    rw [joinArrives_beforeImage (by simpa [BeforeImage] using hb)]
    exact (harrive.frame (by simp)).settles.idle hidle
  | refuseDelivery => exact delivered _ _ _ (refuseArrives_leaves ..).settles
  | admittedDelivery => exact delivered _ _ _ (admittedArrives_settles ..)
  | mismatchDelivery => exact delivered _ _ _ (mismatchArrives_settles ..)
  | abandonDelivery => exact delivered _ _ _ (abandonArrives_settles ..)
  | _ => exact settled (LeavesVote.of_frame (by simp)).settles

/-! Every command and every step. -/

/-- The three laws of the vote unit kept by a step. -/
structure KeepsVoteLaws (s t : State) : Prop where
  table : VoteTableLaw s → VoteTableLaw t
  mirror : MirrorLaw s → MirrorLaw t
  absent : AbsentLaw s → StartLaw s → AbsentLaw t

theorem effect_loader {c : Instr} {s u : State} (h : Effect c s u) (hc : ∀ words, c ≠ .imageReadComplete words) :
    u.loader = s.loader := by
  cases h with
  | imageAccepted | imageRefused => exact absurd rfl (hc _)
  | _ => simp

theorem StartLaw.beforeImage {s : State} (h : StartLaw s) (hr : s.loader.reading = true) : BeforeImage s := by
  obtain ⟨hreading, -⟩ := h
  obtain ⟨hstate, -, hformation⟩ := hreading hr
  exact ⟨hstate, hformation⟩

theorem effect_keepsVoteLaws {c : Instr} {s u : State} (h : Effect c s u) : KeepsVoteLaws s u := by
  have himage {words : List Word} (h : Effect (.imageReadComplete words) s u) : KeepsVoteLaws s u := by
    cases h with
    | @imageAccepted _ _ im hr hi =>
      obtain ⟨htable, hmirror, htwo⟩ := acceptImage_laws hr hi
      have hreading : s.loader.reading = true := by simp_all [readsImage]
      refine ⟨htable, hmirror, fun ha _ => (absentLaw_iff _).2 ⟨fun hread => ?_, htwo ?_⟩⟩
      · simp [acceptImage_blocks] at hread
      · exact ((absentLaw_iff s).1 ha).1 hreading
    | imageRefused hr =>
      have hfailed := enterFailed_leaves (readsImage_starting hr)
      refine ⟨hfailed.table.voteTableLaw, hfailed.mirror, fun ha _ => ?_⟩
      exact (absentLaw_iff _).2 ⟨by simp [enterFailed], hfailed.two ((absentLaw_iff s).1 ha).2⟩
  by_cases hc : ∃ words, c = .imageReadComplete words
  · obtain ⟨words, rfl⟩ := hc
    exact himage h
  · have hother : ∀ words, c ≠ .imageReadComplete words := fun words hw => hc ⟨words, hw⟩
    obtain ⟨hkeeps, hidle⟩ := effect_keepsVote h hother
    refine ⟨hkeeps.table, hkeeps.mirror, fun ha hs => ?_⟩
    obtain ⟨hread, htwo⟩ := (absentLaw_iff s).1 ha
    refine (absentLaw_iff u).2 ⟨fun hr => ?_, hkeeps.two htwo⟩
    rw [effect_loader h hother] at hr
    exact hidle (hs.beforeImage hr) (hread hr)

/-- A change that the laws of the vote unit do not see. -/
theorem KeepsVoteLaws.then_leaves {s t u : State} (h : KeepsVoteLaws s t) (g : LeavesVote t u)
    (hloader : u.loader = t.loader) : KeepsVoteLaws s u := by
  refine ⟨g.table.voteTableLaw ∘ h.table, g.mirror ∘ h.mirror, fun ha hs => ?_⟩
  obtain ⟨hread, htwo⟩ := (absentLaw_iff t).1 (h.absent ha hs)
  exact (absentLaw_iff u).2 ⟨fun hr => g.settles.idle (hread (hloader ▸ hr)), g.two htwo⟩

theorem KeepsVoteLaws.refl (s : State) : KeepsVoteLaws s s := ⟨id, id, fun h _ => h⟩

/-- A reset leaves no entry, no image, no serving and no wiring (R85, R115). -/
theorem exec_reset_voteLaws {c : Instr} {s t : State} (h : exec c s = .next t) (hc : isReset c = true) :
    VoteTableLaw t ∧ MirrorLaw t ∧ AbsentLaw t := by
  have hempty {u : State} (ht : u.vote.table = []) (hw : u.vote.window = none) : VoteTableLaw u :=
    (NoneOpen.of_empty ht hw).voteTableLaw (by simp [ht])
  have hmirror {u : State} (hu : u.vote.view = none ∧ u.lane.state = .starting ∧ u.link1.peer = none ∧
      u.link2.peer = none ∧ u.copy.serving = none) : MirrorLaw u := by
    obtain ⟨hview, hstate, hpeer1, hpeer2, hserving⟩ := hu
    refine (mirrorLaw_iff u).2 ⟨by simp [standing, viewOf, hview, hstate, mirrorOf], fun p => ?_, by simp [hserving]⟩
    cases p <;> simp [hpeer1, hpeer2]
  have habsent {u : State} (ht : u.vote.table = []) (hs : u.copy.serving = none) (hi : u.map.image = none) :
      AbsentLaw u := (absentLaw_iff u).2 ⟨fun _ => ⟨ht, hs⟩, fun hcount => by simp [laneCount, hi] at hcount⟩
  cases c with
  | powerReset | pinReset => cases h; exact ⟨hempty rfl rfl, hmirror ⟨rfl, rfl, rfl, rfl, rfl⟩, habsent rfl rfl rfl⟩
  | _ => cases hc

theorem exec_keepsVoteLaws {c : Instr} {s t : State} (h : exec c s = .next t) : KeepsVoteLaws s t := by
  cases hc : isReset c with
  | true =>
    obtain ⟨htable, hmirror, habsent⟩ := exec_reset_voteLaws h hc
    exact ⟨fun _ => htable, fun _ => hmirror, fun _ _ => habsent⟩
  | false =>
    obtain rfl | ⟨u, rfl, hu⟩ := exec_cases h hc
    · exact .refl _
    · exact (effect_keepsVoteLaws hu).then_leaves (.of_frame (by simp)) (by simp)

/-- A tick moves the window timer and leaves it running or stopped (R105). -/
theorem tick_leaves (s : State) : LeavesVote s (tick s) :=
  ⟨.of_frame (by simp [tick]), .of_frame (by simp [tick, tickTimer]), id⟩

/-- Settles O57: each effect keeps the three laws, and what follows it or stands in for it leaves what they read. -/
theorem everyStepKeepsTheVoteTable : Obligations.EveryStepKeepsTheVoteTable := by
  intro s t h
  suffices hkeeps : KeepsVoteLaws s t from ⟨hkeeps.table, hkeeps.mirror, hkeeps.absent⟩
  unfold step at h
  split at h
  case h_1 c rest _ =>
    have hexec := exec_keepsVoteLaws h
    exact ⟨hexec.table, hexec.mirror, hexec.absent⟩
  case h_2 =>
    cases h
    unfold idle
    split
    · exact (KeepsVoteLaws.refl s).then_leaves (.of_frame (by simp)) rfl
    · exact (KeepsVoteLaws.refl s).then_leaves (tick_leaves s) rfl

end Sys2Proof.Machine
end

section
/-! A link port's transmitter and its errors (R86, R91, R93, R94). -/

namespace Sys2Proof.Machine

@[simp] theorem setPort_setPort (s : State) (p : PortId) (v w : LinkPort) :
    setPort (setPort s p v) p w = setPort s p w := by cases p <;> rfl

/-! Starting a frame. -/

/-- A transmitter with a frame on the line (R86, R94). -/
def sendingOf (s : State) (f : Frame) : Transmitter :=
  .sending (frameBytes s.lines.straps.toNat f)
    ((frameBytes s.lines.straps.toNat f).length * 8 * (settings s).linkDivisor)

theorem startPort_setPort (p : PortId) (v : LinkPort) (s : State) : startPort p (setPort s p v) =
    setPort s p (startNext s.lines.straps.toNat (settings s).linkDivisor v) := by
  have hsettings : settings (setPort s p v) = settings s := settings_congr (by simp)
  have hlines : (setPort s p v).lines = s.lines := by simp
  rw [startPort, getPort_setPort_self, setPort_setPort, hsettings, hlines]

theorem startNext_of_control {s : State} {v : LinkPort} {f : Frame} {rest : List Frame} (ht : v.transmitter = .resting)
    (hc : v.control = f :: rest) : startNext s.lines.straps.toNat (settings s).linkDivisor v =
      { v with control := rest, transmitter := sendingOf s f } := by
  simp [startNext, ht, hc, sendingOf, lineClocks]

theorem startNext_of_bulk {s : State} {v : LinkPort} {f : Frame} {rest : List Frame} (ht : v.transmitter = .resting)
    (hc : v.control = []) (hb : v.bulk = f :: rest) : startNext s.lines.straps.toNat (settings s).linkDivisor v =
      { v with bulk := rest, transmitter := sendingOf s f } := by
  simp [startNext, ht, hc, hb, sendingOf, lineClocks]

theorem startNext_of_empty {n d : Nat} {v : LinkPort} (hc : v.control = []) (hb : v.bulk = []) : startNext n d v = v := by
  unfold startNext
  split <;> simp [hc, hb]

/-! Errors (R91, R93). -/

theorem getPort_linkError (p : PortId) (k : LinkErrorKind) (r : Option FormReason) (x y : Nat × Bool) (s : State) :
    getPort (linkError p k r x y s) p = { getPort s p with errors := raiseError (getPort s p).errors k } := by
  simp [linkError, report]

theorem getPort_linkError_of_ne {p q : PortId} (h : q ≠ p) (k : LinkErrorKind) (r : Option FormReason) (x y : Nat × Bool)
    (s : State) : getPort (linkError p k r x y s) q = getPort s q := by
  simp [linkError, report, getPort_setPort_of_ne _ _ h]

/-! Frames offered to a port (R93). -/

section
variable {s : State} {p : PortId} (ha : LinkPort.active (getPort s p) = true) (f : Frame)
include ha

/-- A control frame offered to a resting transmitter is started at once (R94). -/
theorem offerControl_of_resting (ht : (getPort s p).transmitter = .resting) (hc : (getPort s p).control = []) :
    offerControl p f s = setPort s p { getPort s p with transmitter := sendingOf s f } := by
  have hroom : (getPort s p).control.length < Config.controlDepth := by simp [hc, Config.controlDepth]
  rw [offerControl, if_pos ha, if_pos hroom, startPort_setPort]
  have hstart := startNext_of_control (s := s) (v := { getPort s p with control := (getPort s p).control ++ [f] })
    (f := f) (rest := []) ht (by simp [hc])
  exact congrArg (setPort s p) (hstart.trans (by simp [hc]))

/-- A bulk frame offered to a resting transmitter with nothing queued is started at once (R94). -/
theorem offerBulk_of_resting (ht : (getPort s p).transmitter = .resting) (hc : (getPort s p).control = [])
    (hb : (getPort s p).bulk = []) (hr : (getPort s p).reserved < 4) :
    offerBulk p f s = setPort s p { getPort s p with transmitter := sendingOf s f } := by
  have hfree : bulkFree (getPort s p) = true := by simp [bulkFree, hb, Config.bulkDepth, hr]
  rw [offerBulk, if_pos ha, if_pos hfree, startPort_setPort]
  have hstart := startNext_of_bulk (s := s) (v := { getPort s p with bulk := (getPort s p).bulk ++ [f] })
    (f := f) (rest := []) ht hc (by simp [hb])
  exact congrArg (setPort s p) (hstart.trans (by simp [hb]))

/-- A control frame offered to a full queue is counted and dropped. -/
theorem getPort_offerControl_of_full (h : ¬ (getPort s p).control.length < 8) : getPort (offerControl p f s) p =
    { getPort s p with errors := raiseError (getPort s p).errors .txFull } := by
  have hfull : ¬ (getPort s p).control.length < Config.controlDepth := h
  rw [offerControl, if_pos ha, if_neg hfull]
  exact getPort_linkError ..

theorem getPort_offerBulk_of_full (h : ¬ (getPort s p).bulk.length + (getPort s p).reserved < 4) :
    getPort (offerBulk p f s) p = { getPort s p with errors := raiseError (getPort s p).errors .txFull } := by
  have hfull : ¬ bulkFree (getPort s p) = true := mt bulkFree_iff.1 h
  rw [offerBulk, if_pos ha, if_neg hfull]
  exact getPort_linkError ..

end

theorem exec_transmitFrameEnd {s : State} {p : PortId} {bytes : List Byte} {n : Nat}
    (h : (getPort s p).transmitter = .sending bytes n) : exec (.transmitFrameEnd p) s =
      .next (settle (setPort s p { getPort s p with transmitter := .gap (16 * (settings s).linkDivisor) })) := by
  simp [exec, execTransmitFrameEnd, h, done]

/-- The end of a gap leaves the port to its next frame. -/
theorem exec_gapEnd {s : State} {p : PortId} {n : Nat} (h : (getPort s p).transmitter = .gap n) :
    exec (.gapEnd p) s = .next (settle (setPort s p (startNext s.lines.straps.toNat (settings s).linkDivisor
      { getPort s p with transmitter := .resting }))) := by
  simp [exec, execGapEnd, h, done, startPort_setPort]

/-- Settles O41: each offer by the state of its queue and of the transmitter, and the end of the gap by what is queued. -/
theorem transmitterSendsControlBeforeBulk : Obligations.TransmitterSendsControlBeforeBulk := by
  intro s p f
  refine ⟨fun ha => ⟨offerControl_of_room ha, offerBulk_of_room ha, fun ht hc => ?resting, fun hfull => ?controlFull,
    fun hfull => ?bulkFull⟩, fun ha => ?inactive, fun bytes n ht => exec_transmitFrameEnd ht, fun n ht => ?gap⟩
  case resting => exact ⟨offerControl_of_resting ha f ht hc, offerBulk_of_resting ha f ht hc⟩
  case controlFull =>
    rw [getPort_offerControl_of_full ha f hfull]
    exact ⟨rfl, rfl⟩
  case bulkFull =>
    rw [getPort_offerBulk_of_full ha f hfull]
    exact ⟨rfl, rfl⟩
  case inactive => simp [offerControl, offerBulk, ha]
  case gap =>
    rw [exec_gapEnd ht]
    have hstarted {v w : LinkPort} (h : v = w) : (.next (settle (setPort s p v)) : Host.Outcome State Fault Refusal) =
        .next (settle (setPort s p w)) := by rw [h]
    exact ⟨fun g rest hc => hstarted (startNext_of_control rfl hc),
      fun g rest hc hb => hstarted (startNext_of_bulk rfl hc hb), fun hc hb => hstarted (startNext_of_empty hc hb)⟩

end Sys2Proof.Machine
end

section
/-! A link port's receiver (R89, R91). -/

namespace Sys2Proof.Machine

section
variable {s : State} {p : PortId} {l : Lane} (hr : (getPort s p).running = true) (hl : (getPort s p).peer = some l)
include hr hl

theorem active_of_running : LinkPort.active (getPort s p) = true := by simp [LinkPort.active, hr, hl]

/-- A gathering port gathers by the envelope of its peer's frames (R89). -/
theorem gathered_of_gathering (hg : (getPort s p).gathering = true) (bytes : List Byte) :
    gathered s p bytes = gather l bytes := by simp [gathered, hr, hl, hg]

theorem exec_frameStart (hg : (getPort s p).gathering = false) :
    exec (.frameStart p) s = .next (settle (setPort s p { getPort s p with gathering := true })) := by
  simp [exec, execFrameStart, active_of_running hr hl, hg, done]

end

theorem exec_frameStart_ignored {s : State} {p : PortId} (hg : (getPort s p).gathering = true) :
    exec (.frameStart p) s = .next s := by simp [exec, execFrameStart, hg]

/-- The envelope checks that fail at the delimiter, the kind or the sender byte (R89). -/
theorem gather_formError {l : Lane} {bytes : List Byte}
    (h : (∃ d, bytes = [d] ∧ d ≠ 0x5A#8) ∨ (∃ k, bytes = [0x5A#8, k] ∧ FrameKind.ofCode? k.toNat = none) ∨
      (∃ k kind x, bytes = [0x5A#8, k, x] ∧ FrameKind.ofCode? k.toNat = some kind ∧ x.toNat ≠ Lane.number l)) :
    ∃ reason kind sender, gather l bytes = .formError reason kind sender := by
  obtain ⟨d, rfl, hd⟩ | ⟨k, rfl, hk⟩ | ⟨k, kind, x, rfl, hk, hx⟩ := h
  · exact ⟨.delimiter, none, none, by simp [gather, Config.delimiter, hd]⟩
  · exact ⟨.kind, some k, none, by simp [gather, Config.delimiter, hk]⟩
  · exact ⟨.sender, some k, some x, by simp [gather, Config.delimiter, hk, hx]⟩

@[simp] theorem getPort_hunt (p : PortId) (s : State) : getPort (hunt p s) p = { getPort s p with gathering := false } :=
  getPort_setPort_self ..

theorem getPort_hunt_of_ne {p q : PortId} (h : q ≠ p) (s : State) : getPort (hunt p s) q = getPort s q :=
  getPort_setPort_of_ne _ _ h

/-- An error of the receiver after which it hunts again: the port with its count raised, and no more than the report. -/
theorem linkError_hunt (p : PortId) (k : LinkErrorKind) (r : Option FormReason) (x y : Nat × Bool) (s : State) :
    getPort (linkError p k r x y (hunt p s)) p =
      { getPort s p with gathering := false, errors := raiseError (getPort s p).errors k } := by
  simp [getPort_linkError]

/-- Settles O42: the start of a frame, and the three envelope errors by the one effect they have. -/
theorem receiverGathersAndHunts : Obligations.ReceiverGathersAndHunts := by
  intro s p l hr hl
  refine ⟨exec_frameStart hr hl, exec_frameStart_ignored, fun bytes hg h => ?_⟩
  obtain ⟨reason, kind, sender, herror⟩ := gather_formError (l := l) h
  have hgathered := (gathered_of_gathering hr hl hg bytes).trans herror
  refine ⟨linkError p .form (some reason) (reachedByte kind) (reachedByte sender) (hunt p s), ?exec, ?frame, ?port,
    fun q hq => ?other⟩
  case exec => simp [exec, execFrameEnvelopeError, hgathered, done]
  case frame => exact State.ext (by simp)
  case port => exact linkError_hunt ..
  case other => rw [getPort_linkError_of_ne hq, getPort_hunt_of_ne hq]

end Sys2Proof.Machine
end

section
/-! Frames as bytes: what a peer sends is gathered and parsed as the frame it sent (R87, R88, R89, R90, R96, R97, R169). -/

namespace Sys2Proof.Machine

/-! Numbers as bytes (R86). -/

@[simp] theorem beBytes_length (k n : Nat) : (beBytes k n).length = k := by
  induction k with
  | zero => rfl
  | succ k ih => simp [beBytes, ih]

theorem beNat_foldl (bytes : List Byte) (acc : Nat) :
    bytes.foldl (fun acc b => acc * 256 + b.toNat) acc = acc * 256 ^ bytes.length + beNat bytes := by
  induction bytes generalizing acc with
  | nil => simp [beNat]
  | cons b bytes ih =>
    rw [beNat, List.foldl_cons, List.foldl_cons, ih, ih (0 * 256 + _), List.length_cons]
    ring

theorem beNat_cons (b : Byte) (bytes : List Byte) : beNat (b :: bytes) = b.toNat * 256 ^ bytes.length + beNat bytes := by
  rw [beNat, List.foldl_cons, beNat_foldl]
  ring

/-- A number is read from its bytes, as far as they hold it. -/
theorem beNat_beBytes_mod (k n : Nat) : beNat (beBytes k n) = n % 256 ^ k := by
  induction k with
  | zero => simp [beNat, beBytes, Nat.mod_one]
  | succ k ih =>
    have hbyte : (BitVec.ofNat 8 (n / 256 ^ k)).toNat = n / 256 ^ k % 256 := BitVec.toNat_ofNat ..
    rw [beBytes, beNat_cons, ih, beBytes_length, hbyte, pow_succ, Nat.mod_mul, Nat.add_comm, Nat.mul_comm]

theorem beNat_beBytes {k n : Nat} (h : n < 256 ^ k) : beNat (beBytes k n) = n := by
  rw [beNat_beBytes_mod, Nat.mod_eq_of_lt h]

theorem ofNat_beBytes (w : Word) : BitVec.ofNat 32 (beNat (beBytes 4 w.toNat)) = w := by
  rw [beNat_beBytes (by have := w.isLt; omega), BitVec.ofNat_toNat, BitVec.setWidth_eq]

/-- The single byte of a number below 256. -/
def lowByte (n : Nat) : Byte := BitVec.ofNat 8 (n / 256 ^ 0)

theorem lowByte_toNat {n : Nat} (h : n < 256) : (lowByte n).toNat = n := by
  rw [lowByte, BitVec.toNat_ofNat, pow_zero, Nat.div_one, Nat.mod_eq_of_lt h]

/-! Codes read back (R169). -/

theorem FrameKind.ofCode?_sent (k : FrameKind) : FrameKind.ofCode? (BitVec.ofNat 8 (FrameKind.code k)).toNat = some k := by
  cases k <;> rfl

theorem LaneState.ofCode?_sent (x : LaneState) : LaneState.ofCode? (lowByte (LaneState.code x)).toNat = some x := by
  cases x <;> rfl

theorem Standing.ofCode?_sent (x : Standing) : Standing.ofCode? (BitVec.ofNat 8 (Standing.code x)).toNat = some x := by
  cases x <;> rfl

theorem RefuseReason.ofCode?_sent (x : RefuseReason) :
    RefuseReason.ofCode? (lowByte (RefuseReason.code x)).toNat = some x := by
  cases x <;> rfl

theorem Lane.ofNumber?_sent (l : Lane) : Lane.ofNumber? (lowByte (Lane.number l)).toNat = some l := by cases l <;> rfl

theorem Lane.number_sent (l : Lane) : (BitVec.ofNat 8 (Lane.number l)).toNat = Lane.number l := by cases l <;> rfl

theorem Cause.ofAbandonCode?_sent {c : Cause} (h : Cause.ofAbandonCode? (Cause.code c) = some c) :
    Cause.ofAbandonCode? (lowByte (Cause.code c)).toNat = some c := by
  rw [lowByte_toNat (by cases c <;> decide), h]

theorem parseView?_sent (v : View) : parseView? (BitVec.ofNat 8 (Standing.code v.l0)) (BitVec.ofNat 8 (Standing.code v.l1))
    (BitVec.ofNat 8 (Standing.code v.l2)) = some v := by
  simp only [parseView?, Standing.ofCode?_sent]

theorem attempt?_sent {n : Nat} (h1 : 1 ≤ n) (h2 : n ≤ 255) : attempt? (lowByte n).toNat = some n := by
  rw [lowByte_toNat (by omega), attempt?, if_pos ⟨h1, h2⟩]

/-! Pairs and words read back (R96, R97). -/

@[simp] theorem pairBytes_length (p : Pair) : (pairBytes p).length = 10 := by simp [pairBytes]

theorem pairs_length (pairs : List Pair) : (pairs.flatMap pairBytes).length = 10 * pairs.length := by
  induction pairs with
  | nil => rfl
  | cons p pairs ih => rw [List.flatMap_cons, List.length_append, ih, pairBytes_length, List.length_cons]; ring

theorem words_length (words : List Word) : (words.flatMap (fun w => beBytes 4 w.toNat)).length = 4 * words.length := by
  induction words with
  | nil => rfl
  | cons w words ih => rw [List.flatMap_cons, List.length_append, ih, beBytes_length, List.length_cons]; ring

theorem parsePairs_append (p : Pair) (rest : List Byte) : parsePairs (pairBytes p ++ rest) =
    (parsePairs rest).map (fun ps => { a := beNat (beBytes 5 p.a), b := beNat (beBytes 5 p.b) } :: ps) := rfl

theorem parsePairs_sent {pairs : List Pair} (h : ∀ p ∈ pairs, p.a < 2 ^ 40 ∧ p.b < 2 ^ 40) :
    parsePairs (pairs.flatMap pairBytes) = some pairs := by
  induction pairs with
  | nil => rfl
  | cons p pairs ih =>
    obtain ⟨⟨ha, hb⟩, hrest⟩ := List.forall_mem_cons.1 h
    rw [List.flatMap_cons, parsePairs_append, ih hrest, beNat_beBytes (by omega), beNat_beBytes (by omega)]
    rfl

theorem parseWords_append (w : Word) (rest : List Byte) : parseWords (beBytes 4 w.toNat ++ rest) =
    (parseWords rest).map (fun ws => BitVec.ofNat 32 (beNat (beBytes 4 w.toNat)) :: ws) := rfl

theorem parseWords_sent (words : List Word) : parseWords (words.flatMap (fun w => beBytes 4 w.toNat)) = some words := by
  induction words with
  | nil => rfl
  | cons w words ih =>
    rw [List.flatMap_cons, parseWords_append, ih, ofNat_beBytes]
    rfl

theorem parseCounted_sent {pairs : List Pair} (hl : pairs.length ≤ 16) (h : ∀ p ∈ pairs, p.a < 2 ^ 40 ∧ p.b < 2 ^ 40) :
    parseCounted (lowByte pairs.length) (pairs.flatMap pairBytes) = some pairs := by
  rw [parseCounted, lowByte_toNat (by omega), if_pos ⟨hl, pairs_length pairs⟩, parsePairs_sent h]

/-! Bodies (R90, R96, R97). -/

/-- A body holds at most as many bytes as its kind allows (R89). -/
theorem bodyBytes_length_le {f : Frame} (h : Frame.wellFormed f = true) :
    (bodyBytes f).length ≤ FrameKind.largestBody (Frame.kind f) := by
  cases f with
  | refuse subject reason => cases subject <;> simp [bodyBytes, Frame.kind, FrameKind.largestBody]
  | signature | admitSnapshot | block | fetched =>
    simp only [Frame.wellFormed, Bool.and_eq_true, decide_eq_true_eq] at h
    simp only [bodyBytes, Frame.kind, FrameKind.largestBody, viewBytes, List.length_append, List.length_cons,
      List.length_nil, beBytes_length, pairs_length, words_length]
    omega
  | _ => simp [bodyBytes, Frame.kind, FrameKind.largestBody]

/-- A body is parsed as the frame it was made of (R90). -/
theorem parseBody_sent {f : Frame} (h : Frame.wellFormed f = true) : parseBody (Frame.kind f) (bodyBytes f) = some f := by
  cases f with
  | signature cycle st view pairs =>
    obtain ⟨hl, hp⟩ : pairs.length ≤ 16 ∧ ∀ p ∈ pairs, p.a < 2 ^ 40 ∧ p.b < 2 ^ 40 := by simpa [Frame.wellFormed] using h
    change (match LaneState.ofCode? (lowByte (LaneState.code st)).toNat, parseView? _ _ _,
      parseCounted (lowByte pairs.length) (pairs.flatMap pairBytes) with
      | some st, some view, some pairs =>
        some (Frame.signature (BitVec.ofNat 32 (beNat (beBytes 4 cycle.toNat))) st view pairs)
      | _, _, _ => none) = _
    rw [LaneState.ofCode?_sent, parseView?_sent, parseCounted_sent hl hp, ofNat_beBytes]
  | state st counter =>
    change (LaneState.ofCode? (lowByte (LaneState.code st)).toNat).map
      (fun st => Frame.state st (BitVec.ofNat 32 (beNat (beBytes 4 counter.toNat)))) = _
    rw [LaneState.ofCode?_sent, ofNat_beBytes]
    rfl
  | join attempt digest =>
    obtain ⟨⟨⟨h1, h2⟩, ha⟩, hb⟩ : ((1 ≤ attempt ∧ attempt ≤ 255) ∧ digest.a < 2 ^ 40) ∧ digest.b < 2 ^ 40 := by
      simpa [Frame.wellFormed] using h
    change (attempt? (lowByte attempt).toNat).map
      (fun n => Frame.join n { a := beNat (beBytes 5 digest.a), b := beNat (beBytes 5 digest.b) }) = _
    rw [attempt?_sent h1 h2, beNat_beBytes (by omega), beNat_beBytes (by omega)]
    rfl
  | accept attempt =>
    obtain ⟨h1, h2⟩ : 1 ≤ attempt ∧ attempt ≤ 255 := by simpa [Frame.wellFormed] using h
    change (attempt? (lowByte attempt).toNat).map Frame.accept = _
    rw [attempt?_sent h1 h2]
    rfl
  | refuse subject reason =>
    cases subject with
    | join attempt =>
      obtain ⟨h1, h2⟩ : 1 ≤ attempt ∧ attempt ≤ 255 := by simpa [Frame.wellFormed] using h
      have hattempt : attempt? (beNat (beBytes 2 attempt)) = some attempt := by
        rw [beNat_beBytes (by omega), attempt?, if_pos ⟨h1, h2⟩]
      change (match RefuseReason.ofCode? (lowByte (RefuseReason.code reason)).toNat with
        | none => none
        | some reason => (attempt? (beNat (beBytes 2 attempt))).map (fun n => Frame.refuse (.join n) reason)) = _
      rw [RefuseReason.ofCode?_sent, hattempt]
      rfl
    | fetch b =>
      have hb : b < 2 ^ 16 := by simpa [Frame.wellFormed] using h
      change (match RefuseReason.ofCode? (lowByte (RefuseReason.code reason)).toNat with
        | none => none
        | some reason => some (Frame.refuse (.fetch (beNat (beBytes 2 b))) reason)) = _
      rw [RefuseReason.ofCode?_sent, beNat_beBytes (by omega)]
  | nak attempt b =>
    obtain ⟨⟨h1, h2⟩, hb⟩ : (1 ≤ attempt ∧ attempt ≤ 255) ∧ b < 2 ^ 16 := by simpa [Frame.wellFormed] using h
    change (attempt? (lowByte attempt).toNat).map (fun n => Frame.nak n (beNat (beBytes 2 b))) = _
    rw [attempt?_sent h1 h2, beNat_beBytes (by omega)]
    rfl
  | admitted attempt cycle =>
    obtain ⟨h1, h2⟩ : 1 ≤ attempt ∧ attempt ≤ 255 := by simpa [Frame.wellFormed] using h
    change (attempt? (lowByte attempt).toNat).map
      (fun n => Frame.admitted n (BitVec.ofNat 32 (beNat (beBytes 4 cycle.toNat)))) = _
    rw [attempt?_sent h1 h2, ofNat_beBytes]
    rfl
  | mismatch attempt slot =>
    obtain ⟨⟨h1, h2⟩, hs⟩ : (1 ≤ attempt ∧ attempt ≤ 255) ∧ slot < 256 := by simpa [Frame.wellFormed] using h
    change (attempt? (lowByte attempt).toNat).map (fun n => Frame.mismatch n (lowByte slot).toNat) = _
    rw [attempt?_sent h1 h2, lowByte_toNat hs]
    rfl
  | abandon attempt cause =>
    obtain ⟨⟨h1, h2⟩, hc⟩ : (1 ≤ attempt ∧ attempt ≤ 255) ∧ Cause.ofAbandonCode? (Cause.code cause) = some cause := by
      simpa [Frame.wellFormed] using h
    change (match attempt? (lowByte attempt).toNat, Cause.ofAbandonCode? (lowByte (Cause.code cause)).toNat with
      | some n, some c => some (Frame.abandon n c)
      | _, _ => none) = _
    rw [attempt?_sent h1 h2, Cause.ofAbandonCode?_sent hc]
  | notice lane cycle =>
    change (Lane.ofNumber? (lowByte (Lane.number lane)).toNat).map
      (fun l => Frame.notice l (BitVec.ofNat 32 (beNat (beBytes 4 cycle.toNat)))) = _
    rw [Lane.ofNumber?_sent, ofNat_beBytes]
    rfl
  | fetch b =>
    have hb : b < 2 ^ 16 := by simpa [Frame.wellFormed] using h
    change some (Frame.fetch (beNat (beBytes 2 b))) = _
    rw [beNat_beBytes (by omega)]
  | block attempt b words =>
    obtain ⟨⟨⟨h1, h2⟩, hb⟩, hw⟩ : ((1 ≤ attempt ∧ attempt ≤ 255) ∧ b < 2 ^ 16) ∧ words.length = 64 := by
      simpa [Frame.wellFormed] using h
    change (if (words.flatMap (fun w => beBytes 4 w.toNat)).length = 256 then
      match attempt? (lowByte attempt).toNat, parseWords (words.flatMap (fun w => beBytes 4 w.toNat)) with
      | some n, some ws => some (Frame.block n (beNat (beBytes 2 b)) ws)
      | _, _ => none
      else none) = _
    rw [if_pos (by rw [words_length, hw]), attempt?_sent h1 h2, parseWords_sent, beNat_beBytes (by omega)]
  | fetched b words =>
    obtain ⟨hb, hw⟩ : b < 2 ^ 16 ∧ words.length = 64 := by simpa [Frame.wellFormed] using h
    change (if (words.flatMap (fun w => beBytes 4 w.toNat)).length = 256 then
      (parseWords (words.flatMap (fun w => beBytes 4 w.toNat))).map (fun ws => Frame.fetched (beNat (beBytes 2 b)) ws)
      else none) = _
    rw [if_pos (by rw [words_length, hw]), parseWords_sent, beNat_beBytes (by omega)]
    rfl
  | admitSnapshot attempt cycle view pairs =>
    obtain ⟨⟨⟨h1, h2⟩, hl⟩, hp⟩ : ((1 ≤ attempt ∧ attempt ≤ 255) ∧ pairs.length ≤ 16) ∧
      ∀ p ∈ pairs, p.a < 2 ^ 40 ∧ p.b < 2 ^ 40 := by simpa [Frame.wellFormed] using h
    change (match attempt? (lowByte attempt).toNat, parseView? _ _ _,
      parseCounted (lowByte pairs.length) (pairs.flatMap pairBytes) with
      | some k, some view, some pairs =>
        some (Frame.admitSnapshot k (BitVec.ofNat 32 (beNat (beBytes 4 cycle.toNat))) view pairs)
      | _, _, _ => none) = _
    rw [attempt?_sent h1 h2, parseView?_sent, parseCounted_sent hl hp, ofNat_beBytes]

end Sys2Proof.Machine
end

section
/-! The envelope of a frame and its check (R87, R88, R89, R90). -/

namespace Sys2Proof.Machine

/-! The check register (R88). -/

theorem crcBit_lt (reg bitIn : Nat) : crcBit reg bitIn < 2 ^ 16 := by
  have hshifted : reg * 2 % 2 ^ 16 < 2 ^ 16 := Nat.mod_lt _ (by decide)
  unfold crcBit
  extract_lets combined shifted
  split
  · exact Nat.xor_lt_two_pow hshifted (by decide)
  · exact hshifted

theorem frameCheck_lt (bytes : List Byte) : frameCheck bytes < 2 ^ 16 := by
  have hfold (bytes : List Byte) (reg : Nat) (h : reg < 2 ^ 16) : bytes.foldl crcByte reg < 2 ^ 16 := by
    induction bytes generalizing reg with
    | nil => exact h
    | cons b bytes ih => exact ih _ (crcBit_lt ..)
  exact hfold bytes _ (by decide)

/-! The envelope (R87, R89). -/

/-- The bytes of a frame with any two bytes in the place of its check are gathered whole (R89). -/
theorem gather_sent {l : Lane} {f : Frame} (hf : Frame.wellFormed f = true) (c0 c1 : Byte) :
    gather l (Config.delimiter :: (coveredBytes (Lane.number l) f ++ [c0, c1])) =
      .whole (Frame.kind f) (BitVec.ofNat 8 (Lane.number l)) (coveredBytes (Lane.number l) f) (bodyBytes f)
        (beNat [c0, c1]) := by
  have hlarge := bodyBytes_length_le hf
  have hlargest : FrameKind.largestBody (Frame.kind f) < 256 ^ 2 := by cases Frame.kind f <;> decide
  have hlength : beNat (beBytes 2 (bodyBytes f).length) = (bodyBytes f).length := beNat_beBytes (by omega)
  obtain ⟨l0, l1, hbytes⟩ : ∃ l0 l1, beBytes 2 (bodyBytes f).length = [l0, l1] := ⟨_, _, rfl⟩
  rw [hbytes] at hlength
  have hroom : ¬ FrameKind.largestBody (Frame.kind f) < (bodyBytes f).length := by omega
  have hkind := FrameKind.ofCode?_sent (Frame.kind f)
  have hsender := Lane.number_sent l
  simp only [coveredBytes, hbytes, List.cons_append, List.nil_append, gather, hkind, hsender, hlength, hroom, ne_eq,
    not_true_eq_false, if_false, List.length_append, List.length_cons, List.length_nil, if_true, List.take_left,
    List.drop_left]

/-- A frame's bytes end with the two of its check (R87). -/
theorem frameBytes_eq (n : Nat) (f : Frame) : ∃ c0 c1, beBytes 2 (frameCheck (coveredBytes n f)) = [c0, c1] ∧
    frameBytes n f = Config.delimiter :: (coveredBytes n f ++ [c0, c1]) := ⟨_, _, rfl, rfl⟩

theorem beNat_two (c0 c1 : Byte) : beNat [c0, c1] = c0.toNat * 256 + c1.toNat := by simp [beNat]

/-! The receiver (R90). -/

section
variable {s : State} {p : PortId} {l : Lane} {f : Frame} (hf : Frame.wellFormed f = true)
  (hr : (getPort s p).running = true) (hl : (getPort s p).peer = some l) (hg : (getPort s p).gathering = true)
include hf hr hl hg

theorem exec_frameReceived (c0 c1 : Byte) :
    exec (.frameReceived p (Config.delimiter :: (coveredBytes (Lane.number l) f ++ [c0, c1]))) s =
      .next (settle (frameWhole p (Frame.kind f) (BitVec.ofNat 8 (Lane.number l)) (coveredBytes (Lane.number l) f)
        (bodyBytes f) (beNat [c0, c1]) (hunt p s))) := by
  simp [exec, execFrameReceived, gathered_of_gathering hr hl hg, gather_sent hf, done]

/-- A frame as its peer sends it is accepted, if there is room (R90). -/
theorem exec_frameReceived_sent : exec (.frameReceived p (frameBytes (Lane.number l) f)) s =
    .next (settle (acceptFrame p (BitVec.ofNat 8 (FrameKind.code (Frame.kind f))) (BitVec.ofNat 8 (Lane.number l)) f
      (hunt p s))) := by
  obtain ⟨c0, c1, hcheck, hbytes⟩ := frameBytes_eq (Lane.number l) f
  have hlt := frameCheck_lt (coveredBytes (Lane.number l) f)
  have hread : frameCheck (coveredBytes (Lane.number l) f) = beNat [c0, c1] := by
    rw [← hcheck, beNat_beBytes (by omega)]
  rw [hbytes, exec_frameReceived hf hr hl hg, frameWhole, if_pos hread, parseBody_sent hf]

/-- A frame whose last byte is another than its peer sends fails the check (R88, R91). -/
theorem exec_frameReceived_changed {last : Byte} (h : (frameBytes (Lane.number l) f).getLast? ≠ some last) :
    exec (.frameReceived p ((frameBytes (Lane.number l) f).dropLast ++ [last])) s =
      .next (settle (linkError p .check none (seen (BitVec.ofNat 8 (FrameKind.code (Frame.kind f))))
        (seen (BitVec.ofNat 8 (Lane.number l))) (hunt p s))) := by
  obtain ⟨c0, c1, hcheck, hbytes⟩ := frameBytes_eq (Lane.number l) f
  have hlast : c1 ≠ last := by simpa [hbytes, List.getLast?_cons] using h
  have hdrop : (frameBytes (Lane.number l) f).dropLast ++ [last] =
      Config.delimiter :: (coveredBytes (Lane.number l) f ++ [c0, last]) := by
    rw [hbytes, ← List.singleton_append, ← List.append_assoc, List.dropLast_append_of_ne_nil (by simp)]
    simp
  have hlt := frameCheck_lt (coveredBytes (Lane.number l) f)
  have hwrong : frameCheck (coveredBytes (Lane.number l) f) ≠ beNat [c0, last] := fun heq => by
    have hread : beNat [c0, c1] = frameCheck (coveredBytes (Lane.number l) f) := by rw [← hcheck, beNat_beBytes (by omega)]
    rw [heq, beNat_two, beNat_two] at hread
    exact hlast (BitVec.eq_of_toNat_eq (by omega))
  rw [hdrop, exec_frameReceived hf hr hl hg, frameWhole, if_neg hwrong]

end

/-- Settles O43: the frame's bytes are gathered whole, its check agrees unless the last byte was changed, and its body is
parsed as the frame. -/
theorem sentFramesAreReceived : Obligations.SentFramesAreReceived := by
  intro s p l f hf hr hl hg
  refine ⟨fun hroom => ?room, fun hfull => ?full, fun last hlast =>
    ⟨_, exec_frameReceived_changed hf hr hl hg hlast, linkError_hunt ..⟩⟩
  case room =>
    have hroom' : (getPort (hunt p s) p).received.length < Config.receiveDepth := by simpa [Config.receiveDepth] using hroom
    rw [exec_frameReceived_sent hf hr hl hg, acceptFrame, if_pos hroom', getPort_hunt, hunt, setPort_setPort]
  case full =>
    have hfull' : ¬ (getPort (hunt p s) p).received.length < Config.receiveDepth := by
      simpa [Config.receiveDepth] using hfull
    refine ⟨_, exec_frameReceived_sent hf hr hl hg, ?_⟩
    rw [acceptFrame, if_neg hfull']
    exact linkError_hunt ..

end Sys2Proof.Machine
end

section
/-! JOIN: refused, accepted, or taken in the place of the attempt served (R95, R140, R141, R148). -/

namespace Sys2Proof.Machine

/-! The arrival. -/

/-- A frame taken off the receive queue, `rest` being what stays in it (R92). -/
def takenFrom (p : PortId) (rest : List Frame) (s : State) : State := setPort s p { getPort s p with received := rest }

@[simp] theorem getPort_takenFrom (p : PortId) (rest : List Frame) (s : State) :
    getPort (takenFrom p rest s) p = { getPort s p with received := rest } := getPort_setPort_self ..

/-- Outside JOINING a frame that arrives leaves its queue and no more (R92, R136). -/
theorem arrive_of_not_joining {p : PortId} {rest : List Frame} {l : Lane} {s : State} (h : s.lane.state ≠ .joining) :
    arrive p rest l s = takenFrom p rest s := by
  simp [arrive, sourceHeard, h, takenFrom]

theorem exec_joinDelivery {s : State} {p : PortId} {l : Lane} {n : Nat} {digest : Pair} {rest : List Frame}
    (hq : (getPort s p).received = .join n digest :: rest) (hl : (getPort s p).peer = some l)
    (hj : s.lane.state ≠ .joining) : exec (.joinDelivery p) s =
      .next (settle (joinArrives p l n digest (takenFrom p rest s))) := by
  simp [exec, execJoinDelivery, hq, hl, done, arrive_of_not_joining hj]

/-! The judgement (R140). -/

theorem judgeJoin_of_notMember {s : State} (h : s.lane.state ≠ .member) (l : Lane) (digest : Pair) :
    judgeJoin l digest s = .refuse .notMember := by simp [judgeJoin, h]

section
variable {s : State} {l : Lane} {digest : Pair} (hm : s.lane.state = .member)
include hm

theorem judgeJoin_of_image (h : s.map.image.map (·.digest) ≠ some digest) : judgeJoin l digest s = .refuse .image := by
  simp [judgeJoin, hm, h]

theorem judgeJoin_of_other (h : s.map.image.map (·.digest) = some digest) {k : Lane} {m : Nat}
    (hs : s.copy.serving = some (k, m)) (hk : k ≠ l) : judgeJoin l digest s = .refuse .busy := by
  simp [judgeJoin, hm, h, hs, hk]

theorem judgeJoin_of_same (h : s.map.image.map (·.digest) = some digest) {m : Nat} (hs : s.copy.serving = some (l, m)) :
    judgeJoin l digest s = .replace := by simp [judgeJoin, hm, h, hs]

theorem judgeJoin_of_none (h : s.map.image.map (·.digest) = some digest) (hs : s.copy.serving = none) :
    judgeJoin l digest s = .accept := by simp [judgeJoin, hm, h, hs]

end

/-! Serving begins (R140). -/

/-- The joiner taken into the copy engine (R129, R140). -/
def beginServing (l : Lane) (n : Nat) (s : State) : State :=
  { s with
    copy := { s.copy with serving := some (l, n), dirty := [], cursor := some (firstCursor s), tries := 0,
                          catchUp := .none }
    lane := { s.lane with retainedServing := true } }

/-- The SERVE-BEGIN report (R140, R170). -/
def servingBegun (l : Lane) (n : Nat) (s : State) : Report :=
  makeReport s .serveBegin none 0 (packFields [(Lane.number l, 0), (n, 8)]) 0

/-- A JOIN accepted, but for the vote that may follow. -/
def joinAccepted (p : PortId) (l : Lane) (n : Nat) (s : State) : State :=
  let u := standJoining l (beginServing l n (offerControl p (.accept n) s))
  offer (servingBegun l n u) u

theorem acceptJoin_eq (p : PortId) (l : Lane) (n : Nat) (s : State) :
    acceptJoin p l n s = voteIfComplete (joinAccepted p l n s) := rfl

theorem firstCursor_congr {s t : State} (h : t.map.image = s.map.image) : firstCursor t = firstCursor s := by
  simp only [firstCursor, cursorFrom, nextCopyable, h]

theorem standJoining_standing (l : Lane) (s : State) : standing (standJoining l s) l = .joining := by
  unfold standJoining
  split <;> simp [standing, viewOf]

theorem standJoining_vote (l : Lane) (s : State) : (standJoining l s).vote =
    { s.vote with table := (standJoining l s).vote.table, view := (standJoining l s).vote.view } := by
  unfold standJoining
  split <;> simp [setStanding]

theorem joinAccepted_copy (p : PortId) (l : Lane) (n : Nat) (s : State) : (joinAccepted p l n s).copy =
    { s.copy with serving := some (l, n), dirty := [], cursor := some (firstCursor s), tries := 0, catchUp := .none } := by
  simp [joinAccepted, beginServing, firstCursor_congr (t := offerControl p (.accept n) s) (s := s)]

theorem joinAccepted_lane (p : PortId) (l : Lane) (n : Nat) (s : State) :
    (joinAccepted p l n s).lane.retainedServing = true ∧ (joinAccepted p l n s).lane.state = s.lane.state ∧
      standing (joinAccepted p l n s) l = .joining := by
  refine ⟨by simp [joinAccepted, beginServing], by simp [joinAccepted, beginServing], ?_⟩
  have hview := standing_congr (s := standJoining l (beginServing l n (offerControl p (.accept n) s)))
    (t := joinAccepted p l n s) (by simp [joinAccepted]) l
  rw [hview, standJoining_standing]

/-- ACCEPT is all that the ports take. -/
theorem getPort_joinAccepted (p q : PortId) (l : Lane) (n : Nat) (s : State) :
    getPort (joinAccepted p l n s) q = getPort (offerControl p (.accept n) s) q := by
  cases q <;> simp [joinAccepted, beginServing]

theorem joinAccepted_vote (p : PortId) (l : Lane) (n : Nat) (s : State) : (joinAccepted p l n s).vote =
    { s.vote with table := (joinAccepted p l n s).vote.table, view := (joinAccepted p l n s).vote.view } := by
  have hvote : (beginServing l n (offerControl p (.accept n) s)).vote = s.vote := by simp [beginServing]
  simp only [joinAccepted, offer_frame]
  rw [standJoining_vote, hvote]

theorem joinAccepted_frame (p : PortId) (l : Lane) (n : Nat) (s : State) :
    joinAccepted p l n s = { s with
      copy := (joinAccepted p l n s).copy, lane := (joinAccepted p l n s).lane,
      vote := { s.vote with table := (joinAccepted p l n s).vote.table, view := (joinAccepted p l n s).vote.view },
      link1 := (joinAccepted p l n s).link1, link2 := (joinAccepted p l n s).link2, log := (joinAccepted p l n s).log,
      port := (joinAccepted p l n s).port } := by
  refine State.ext ?_
  rw [← joinAccepted_vote p l n s]
  simp [joinAccepted, beginServing]

/-! The old attempt ends (R95, R148). -/

/-- A change that touches nothing of the ports but reserved slots and nothing of the copy engine but its request. -/
def OnlyFreesSlots (s t : State) : Prop :=
  t.copy = { s.copy with job := t.copy.job } ∧ ∀ q, getPort t q = { getPort s q with reserved := (getPort t q).reserved }

theorem OnlyFreesSlots.refl (s : State) : OnlyFreesSlots s s := ⟨rfl, fun _ => rfl⟩

theorem OnlyFreesSlots.then_freeSlot {s t : State} (h : OnlyFreesSlots s t) (p : PortId) :
    OnlyFreesSlots s (freeSlot p t) := by
  obtain ⟨hcopy, hports⟩ := h
  refine ⟨by simpa using hcopy, fun q => ?_⟩
  by_cases hq : q = p
  · subst hq
    simp only [freeSlot, getPort_setPort_self]
    rw [hports q]
  · rw [freeSlot, getPort_setPort_of_ne _ _ hq]
    exact hports q

theorem OnlyFreesSlots.frame {s t u : State} (h : OnlyFreesSlots s t) (hcopy : u.copy = { t.copy with job := u.copy.job })
    (h1 : u.link1 = t.link1) (h2 : u.link2 = t.link2) : OnlyFreesSlots s u := by
  obtain ⟨hcopy', hports⟩ := h
  refine ⟨by rw [hcopy, hcopy'], fun q => ?_⟩
  have hq : getPort u q = getPort t q := by cases q <;> simp [h1, h2]
  rw [hq]
  exact hports q

/-- The restoration's request withdrawn and its slots freed: nothing else of the ports changes (R95). -/
theorem endRestoreJob_onlyFreesSlots (s : State) : OnlyFreesSlots s (endRestoreJob s) := by
  unfold endRestoreJob
  extract_lets engine u
  have hu : OnlyFreesSlots s u := by
    unfold u
    split
    · exact ((OnlyFreesSlots.refl s).frame (by simp [engine]) (by simp) (by simp)).then_freeSlot _
    · exact .refl s
  clear_value u
  split
  · split
    · exact (hu.frame (by simp) (by simp) (by simp)).then_freeSlot _
    · exact (hu.frame (by simp) (by simp) (by simp)).then_freeSlot _
    · exact hu
  · exact hu

/-- The SERVE-END report of a replaced attempt (R141, R148, R170). -/
def servingReplaced (l : Lane) (m : Nat) (tries : Nat) (s : State) : Report :=
  makeReport s .serveEnd none 0 (packFields [(Lane.number l, 0), (m, 8), (19, 16)]) (packFields [(tries, 0), (0xFF, 8)])

/-- Serving stopped, its frames purged from the bulk queue of the joiner's port. -/
def servingPurged (p : PortId) (m : Nat) (s : State) : State := purgeBulk p m (stopServing (endRestoreJob s))

section
variable {s : State} {p : PortId} {l : Lane} {m : Nat}

/-- An attempt replaced sends no ABANDON and excludes nobody (R141, R148). -/
theorem endServing_replaced (hs : s.copy.serving = some (l, m)) (hp : portTo s l = some p) :
    endServing .replaced none none s =
      offer (servingReplaced l m s.copy.tries (servingPurged p m s)) (servingPurged p m s) := by
  have hport : portTo (stopServing (endRestoreJob s)) l = some p := by
    rw [← hp]
    exact portTo_congr (by simp [stopServing]) (by simp [stopServing]) l
  have hexcludes : outcomeExcludes .replaced = false := rfl
  simp only [endServing, endServingStep_of_some hs, reportServeEnd, hs, hexcludes, purgeFor, hport]
  rfl

theorem servingPurged_copy : (servingPurged p m s).copy = { s.copy with
    progress := none, holdTimer := none, catchUp := .none, kept := none, dirty := [], cursor := none, serving := none,
    job := (servingPurged p m s).copy.job } := by
  obtain ⟨hcopy, -⟩ := endRestoreJob_onlyFreesSlots s
  simp only [servingPurged, purgeBulk, setPort_frame, stopServing]
  rw [hcopy]

theorem getPort_servingPurged : getPort (servingPurged p m s) p = { getPort s p with
    bulk := (getPort s p).bulk.filter (fun f => !purged m f), reserved := (getPort (servingPurged p m s) p).reserved } := by
  obtain ⟨-, hports⟩ := endRestoreJob_onlyFreesSlots s
  have hstopped : getPort (stopServing (endRestoreJob s)) p = getPort (endRestoreJob s) p := by cases p <;> rfl
  simp only [servingPurged, purgeBulk, getPort_setPort_self, hstopped]
  rw [hports p]

theorem getPort_servingPurged_of_ne {q : PortId} (h : q ≠ p) : getPort (servingPurged p m s) q =
    { getPort s q with reserved := (getPort (servingPurged p m s) q).reserved } := by
  obtain ⟨-, hports⟩ := endRestoreJob_onlyFreesSlots s
  have hstopped : getPort (stopServing (endRestoreJob s)) q = getPort (endRestoreJob s) q := by cases q <;> rfl
  simp only [servingPurged, purgeBulk, getPort_setPort_of_ne _ _ h, hstopped]
  exact hports q

end

/-- What the end of a replaced attempt leaves, and what it reports (R95, R141, R148, R170). -/
structure Replaces (p : PortId) (l : Lane) (m : Nat) (s t : State) : Prop where
  frame : t = { s with copy := t.copy, lane := t.lane, link1 := t.link1, link2 := t.link2, log := t.log, port := t.port }
  copy : t.copy = { s.copy with progress := none, holdTimer := none, catchUp := .none, kept := none, dirty := [],
                                cursor := none, serving := none, job := t.copy.job }
  state : t.lane.state = s.lane.state
  joiner : getPort t p = { getPort s p with
    bulk := (getPort s p).bulk.filter (fun f => !purged m f), reserved := (getPort t p).reserved }
  others : ∀ q, q ≠ p → getPort t q = { getPort s q with reserved := (getPort t q).reserved }
  log : ∃ r : Report, t.log = logAfter s [r] ∧ r.kind = .serveEnd ∧
    r.detail1 = BitVec.ofNat 32 (Lane.number l + m * 2 ^ 8 + 19 * 2 ^ 16)

theorem packFields_bytes (x y z : Nat) :
    packFields [(x, 0), (y, 8), (z, 16)] = BitVec.ofNat 32 (x + y * 2 ^ 8 + z * 2 ^ 16) := by
  simp [packFields, Nat.add_assoc]

theorem endServing_replaces {s : State} {p : PortId} {l : Lane} {m : Nat} (hs : s.copy.serving = some (l, m))
    (hp : portTo s l = some p) : Replaces p l m s (endServing .replaced none none s) := by
  rw [endServing_replaced hs hp]
  have hlog : (servingPurged p m s).log = logAfter s [] := by simp [servingPurged, purgeBulk, stopServing]
  have himage : (servingPurged p m s).map.image = s.map.image := by simp [servingPurged, purgeBulk, stopServing]
  refine ⟨State.ext (by simp [servingPurged, purgeBulk, stopServing]), ?copy,
    by simp [servingPurged, purgeBulk, stopServing], ?joiner, fun q hq => ?others, _, offer_logAfter _ hlog himage, rfl, ?detail⟩
  case copy =>
    simp only [offer_frame]
    exact servingPurged_copy
  case joiner =>
    simp only [getPort_offer]
    exact getPort_servingPurged
  case others =>
    simp only [getPort_offer]
    exact getPort_servingPurged_of_ne hq
  case detail => exact packFields_bytes ..

/-- What the acceptance of a JOIN reports where the port has room for ACCEPT. -/
theorem joinAccepted_log {s u : State} {p : PortId} {l : Lane} {n : Nat} {rs : List Report}
    (ha : LinkPort.active (getPort s p) = true) (hr : (getPort s p).control.length < 8)
    (ht : (getPort s p).transmitter ≠ .resting) (hlog : s.log = logAfter u rs) (hi : s.map.image = u.map.image) :
    ∃ v, (joinAccepted p l n s).log = logAfter u (rs ++ [servingBegun l n v]) := by
  refine ⟨_, offer_logAfter _ ?_ ?_⟩
  · rw [← hlog, offerControl_of_room ha hr ht]
    simp [beginServing]
  · simp [beginServing, hi]

/-! The deliveries. -/

theorem joinArrives_of_refuse {s : State} {l : Lane} {digest : Pair} {reason : RefuseReason}
    (h : judgeJoin l digest s = .refuse reason) (p : PortId) (n : Nat) :
    joinArrives p l n digest s = offerControl p (.refuse (.join n) reason) s := by simp only [joinArrives, h]

theorem joinArrives_of_accept {s : State} {l : Lane} {digest : Pair} (h : judgeJoin l digest s = .accept) (p : PortId)
    (n : Nat) : joinArrives p l n digest s = voteIfComplete (joinAccepted p l n s) := by
  simp only [joinArrives, h, acceptJoin_eq]

theorem joinArrives_of_replace {s : State} {l : Lane} {digest : Pair} (h : judgeJoin l digest s = .replace) (p : PortId)
    (n : Nat) : joinArrives p l n digest s =
      voteIfComplete (joinAccepted p l n (endServing .replaced none none s)) := by
  simp only [joinArrives, h, acceptJoin_eq]

section
variable {s : State} {p : PortId} (ha : LinkPort.active (getPort s p) = true) (hr : (getPort s p).control.length < 8)
  (ht : (getPort s p).transmitter ≠ .resting) (rest : List Frame)
include ha hr ht

/-- A control frame offered to the port that a frame has just been taken from (R93). -/
theorem offerControl_takenFrom (f : Frame) : offerControl p f (takenFrom p rest s) = setPort s p { getPort s p with
    received := rest, control := (getPort s p).control ++ [f] } := by
  rw [offerControl_of_room (by simpa [LinkPort.active] using ha) (by simpa using hr) (by simpa using ht),
    getPort_takenFrom, takenFrom, setPort_setPort]

theorem getPort_joinAccepted_takenFrom (l : Lane) (n : Nat) : getPort (joinAccepted p l n (takenFrom p rest s)) p =
    { getPort s p with received := rest, control := (getPort s p).control ++ [.accept n] } := by
  rw [getPort_joinAccepted, offerControl_takenFrom ha hr ht, getPort_setPort_self]

end

/-- Settles O46: the judgement of the JOIN gives the answer, and what begins or ends with it is said above. -/
theorem joinIsRefusedOrServed : Obligations.JoinIsRefusedOrServed := by
  intro s p l n digest rest hq hl ha hr ht
  have hstate : (takenFrom p rest s).lane.state = s.lane.state := by simp [takenFrom]
  have himage : (takenFrom p rest s).map = s.map := by simp [takenFrom]
  have hcopy : (takenFrom p rest s).copy = s.copy := by simp [takenFrom]
  have hcursor : firstCursor (takenFrom p rest s) = firstCursor s := firstCursor_congr (by rw [himage])
  refine ⟨fun reason hreason => ?refused, fun hm hd hs => ?accepted, fun m hm hd hs hp => ?replaced⟩
  case refused =>
    have hanswer : s.lane.state ≠ .joining ∧ judgeJoin l digest (takenFrom p rest s) = .refuse reason := by
      obtain ⟨hm, hj, rfl⟩ | ⟨hm, ⟨hd, rfl⟩ | ⟨hd, rfl, k, m, hs, hk⟩⟩ := hreason
      · exact ⟨hj, judgeJoin_of_notMember (hstate ▸ hm) l digest⟩
      · exact ⟨by simp [hm], judgeJoin_of_image (hstate.trans hm) (by rwa [himage])⟩
      · exact ⟨by simp [hm], judgeJoin_of_other (hstate.trans hm) (by rwa [himage]) (hcopy ▸ hs) hk⟩
    rw [exec_joinDelivery hq hl hanswer.1, joinArrives_of_refuse hanswer.2, offerControl_takenFrom ha hr ht]
  case accepted =>
    have hanswer := judgeJoin_of_none (l := l) (hstate.trans hm) (by rwa [himage]) (hcopy ▸ hs)
    obtain ⟨hretained, hlane, hstanding⟩ := joinAccepted_lane p l n (takenFrom p rest s)
    refine ⟨joinAccepted p l n (takenFrom p rest s), ?_, ?_, hretained, hlane.trans (hstate.trans hm), hstanding,
      getPort_joinAccepted_takenFrom ha hr ht rest l n, ?_⟩
    · rw [exec_joinDelivery hq hl (by simp [hm]), joinArrives_of_accept hanswer]
    · rw [joinAccepted_copy, hcopy, hcursor]
      rfl
    · rw [joinAccepted_frame]
      exact State.ext (by simp [takenFrom])
  case replaced =>
    have hanswer := judgeJoin_of_same (l := l) (hstate.trans hm) (by rwa [himage]) (hcopy ▸ hs)
    have hport : portTo (takenFrom p rest s) l = some p :=
      (portTo_congr (by simp [takenFrom]) (by simp [takenFrom]) l).trans hp
    obtain ⟨hframe, hended, hover, hold, hothers, r, hlog, hkind, hdetail⟩ :=
      endServing_replaces (hcopy ▸ hs) hport
    generalize hb : endServing .replaced none none (takenFrom p rest s) = b at *
    rw [getPort_takenFrom] at hold
    have hab : LinkPort.active (getPort b p) = true := by rw [hold]; exact ha
    have hrb : (getPort b p).control.length < 8 := by rw [hold]; exact hr
    have htb : (getPort b p).transmitter ≠ .resting := by rw [hold]; exact ht
    have hlog : b.log = logAfter s [r] := hlog.trans (logAfter_congr _ (by simp [takenFrom]) (by rw [himage]))
    obtain ⟨hretained, hlane, hstanding⟩ := joinAccepted_lane p l n b
    obtain ⟨v, hbegun⟩ := joinAccepted_log (l := l) (n := n) hab hrb htb hlog (by rw [hframe, himage])
    have hnew : getPort (joinAccepted p l n b) p = { getPort b p with control := (getPort b p).control ++ [.accept n] } := by
      rw [getPort_joinAccepted, offerControl_of_room hab hrb htb, getPort_setPort_self]
    refine ⟨joinAccepted p l n b, r, servingBegun l n v, ?exec, ?frame, ?copy, hretained, hlane.trans ?state, hstanding,
      fun q hne => ?ports, ?received, ?control, ?bulk, hbegun, hkind, hdetail, rfl, ?begun⟩
    case exec => rw [exec_joinDelivery hq hl (by simp [hm]), joinArrives_of_replace hanswer, hb]
    case frame =>
      rw [joinAccepted_frame, hframe]
      exact State.ext (by simp [takenFrom])
    case copy =>
      rw [joinAccepted_copy, firstCursor_congr (t := b) (s := s) (by rw [hframe, himage]), hended, hcopy]
      rfl
    case state => rw [hover, hstate, hm]
    case ports =>
      rw [getPort_joinAccepted, getPort_offerControl_of_ne _ _ hne, hothers q hne, takenFrom, getPort_setPort_of_ne _ _ hne]
      exact ⟨rfl, rfl⟩
    case received => rw [hnew, hold]
    case control => rw [hnew, hold]
    case bulk =>
      rw [hnew, hold]
      exact List.filter_congr fun f _ => by cases f <;> simp [purged]
    case begun => simp [servingBegun, makeReport, packFields]

end Sys2Proof.Machine
end

section
/-! PERMIT (R111, R119): the permit timer runs exactly while its two conditions hold, through every effect. -/

namespace Sys2Proof.Machine

/-- The law reads the permit timer, the lane state and the view alone. -/
theorem PermitLaw.congr {s t : State} (h : PermitLaw s) (g : t.lane.permitTimer.isSome = s.lane.permitTimer.isSome ∧
    t.lane.state = s.lane.state ∧ t.vote.view = s.vote.view) : PermitLaw t := by
  obtain ⟨htimer, hstate, hview⟩ := g
  unfold PermitLaw
  rw [htimer, permitDue_congr hstate hview]
  exact h

/-- Outside MEMBER the law says that the permit timer is stopped. -/
theorem permitLaw_iff_of_not_member {s : State} (h : s.lane.state ≠ .member) :
    PermitLaw s ↔ s.lane.permitTimer = none := by simp [PermitLaw, permitDue, h]

/-! The vote and lane control: a standing or a lane state set tests PERMIT in the same step. -/

theorem excludeAll_permitLaw {s : State} (h : PermitLaw s) (xs : List (Lane × Cause)) : PermitLaw (excludeAll xs s) := by
  induction xs generalizing s with
  | nil => exact h
  | cons x xs ih => exact ih (excludePeer_permitLaw ..)

theorem makeMembers_permitLaw {s : State} (h : PermitLaw s) (ls : List Lane) : PermitLaw (makeMembers ls s) := by
  induction ls generalizing s with
  | nil => exact h
  | cons l ls ih => exact ih (setStanding_permitLaw ..)

theorem endServingStep_permitLaw {s : State} (h : PermitLaw s) (o : Cause) (a : Option Cause) :
    PermitLaw (endServingStep o a s) := by
  cases hs : s.copy.serving with
  | none => rwa [endServingStep_of_none hs]
  | some x =>
    rw [endServingStep_of_some hs]
    split
    · exact excludePeer_permitLaw ..
    · exact h.congr (by simp [stopServing])

theorem endServing_permitLaw {s : State} (h : PermitLaw s) (o : Cause) (a : Option Cause) (n : Option Nat) :
    PermitLaw (endServing o a n s) := (endServingStep_permitLaw h o a).congr (by simp [endServing])

theorem isolate_permitLaw (c : Cause) (n : Option Nat) (s : State) : PermitLaw (isolate c n s) := by
  unfold isolate
  extract_lets s1 s2 s3 s4 s5 control s6 s7 s8 s9
  have h3 : PermitLaw s3 := (setLaneState_permitLaw .isolated (dropFoundCause s)).congr (by simp [s3, s2, s1])
  have h7 : PermitLaw s7 := (endServingStep_permitLaw h3 .isolated (some .isolated)).congr (by
    unfold s7
    split <;> simp [s6, control, s5, s4])
  exact h7.congr (by simp [s9, s8])

theorem leave_permitLaw {s : State} (h : PermitLaw s) (c : Cause) (n : Option Nat) : PermitLaw (leave c n s) := by
  unfold leave
  split
  · exact isolate_permitLaw ..
  · exact h

theorem enterJoining_permitLaw (g : Trigger) (s : State) : PermitLaw (enterJoining g s) :=
  (setLaneState_permitLaw .joining (dropFoundCause s)).congr (by simp [enterJoining])

theorem hearMember_permitLaw {s : State} (h : PermitLaw s) : PermitLaw (hearMember s) := by
  unfold hearMember
  split
  · exact isolate_permitLaw ..
  · split
    · exact leave_permitLaw h ..
    · exact enterJoining_permitLaw ..

theorem failAttempt_permitLaw {s : State} (h : PermitLaw s) (c : Cause) (b : Bool) (d : Option Cause) :
    PermitLaw (failAttempt c b d s) := by
  unfold failAttempt
  split
  · exact (setLaneState_permitLaw .isolated (dropFoundCause (endAttempt c b s))).congr (by simp)
  · exact h

theorem askOther_permitLaw {s : State} (h : PermitLaw s) (b : Bool) : PermitLaw (askOther b s) := by
  unfold askOther
  split
  · exact h.congr (by simp)
  · exact failAttempt_permitLaw h ..

theorem enterMember_permitLaw (s : State) : PermitLaw (enterMember s) :=
  (setLaneState_permitLaw .member s).congr (by simp [enterMember, releaseHold])

theorem admission_permitLaw (x : Snapshot) (s : State) : PermitLaw (admission x s) := by
  have hmember := enterMember_permitLaw (dropFoundCause (takeSnapshot x (offerAdmitted x s)))
  rw [admission_eq]
  exact hmember.congr (by simp)

theorem enterForming_permitLaw (s : State) : PermitLaw (enterForming s) :=
  (setLaneState_permitLaw .forming { s with lane := { s.lane with formation := none } }).congr
    (by simp [enterForming, startPatrol, releaseHold])

theorem handOnVote_permitLaw {s : State} (h : PermitLaw s) (own : Lane) (g : Option Word) (e : VoteEntry)
    (rs : List SlotResult) : PermitLaw (handOnVote own g e rs s) := by
  unfold handOnVote
  split
  · exact leave_permitLaw h ..
  split
  · exact leave_permitLaw h ..
  split
  · unfold endFormation
    split
    · have hpartners := makeMembers_permitLaw (enterMember_permitLaw s) (partnersOf own e rs)
      exact hpartners.congr (by simp)
    · exact h
  split
  · exact leave_permitLaw h ..
  · exact h

theorem castVote_permitLaw {s : State} (h : PermitLaw s) (e : VoteEntry) : PermitLaw (castVote e s) := by
  unfold castVote
  extract_lets own rs counts out vote s1 s2 clean s3 s4
  have h1 : PermitLaw s1 := h.congr (by simp [s1, vote])
  have h2 : PermitLaw s2 := excludeAll_permitLaw h1 out
  have h3 : PermitLaw s3 := by
    unfold s3
    split
    · exact h2
    · exact h2.congr (by simp)
  exact handOnVote_permitLaw (h3.congr (by simp [s4])) ..

theorem voteIfComplete_permitLaw {s : State} (h : PermitLaw s) : PermitLaw (voteIfComplete s) := by
  unfold voteIfComplete
  split
  · exact castVote_permitLaw h _
  · exact h

/-! The own mark (R100). -/

theorem voteOrWait_permitLaw {s : State} (h : PermitLaw s) : PermitLaw (voteOrWait s) := by
  unfold voteOrWait
  split
  · split
    · exact castVote_permitLaw h _
    · exact h.congr (by simp)
  · exact h

theorem completeMark_permitLaw {s : State} (h : PermitLaw s) : PermitLaw (completeMark s) := by
  have hsigned : PermitLaw (signed s) := h.congr (by simp [signed_vote])
  rw [completeMark_eq]
  refine (voteOrWait_permitLaw hsigned).congr ?_
  unfold restartSupervision
  split <;> simp

theorem takeMark_permitLaw {s : State} (h : PermitLaw s) : PermitLaw (takeMark s) := by
  have hraised : PermitLaw (raiseCounter s) := h.congr (by simp [raiseCounter])
  have hclosed : PermitLaw (closeEarlier (raiseCounter s)) := by
    unfold closeEarlier
    split
    · exact castVote_permitLaw hraised _
    · exact hraised
  unfold takeMark
  extract_lets u
  split
  · exact completeMark_permitLaw hclosed
  · exact hclosed

/-! The end of a burst (R41, R131, R160). -/

theorem copyClassAction_permitLaw {s : State} (h : PermitLaw s) (b : Nat) : PermitLaw (copyClassAction b s) := by
  unfold copyClassAction
  split
  · exact leave_permitLaw h ..
  · split
    · exact h.congr (by simp)
    · exact h

theorem endWork_permitLaw {s : State} (h : PermitLaw s) (e : AtEnd) : PermitLaw (endWork e s) := by
  unfold endWork
  split
  case h_1 => exact h
  case h_2 => exact leave_permitLaw h ..
  case h_3 => exact failAttempt_permitLaw h ..
  case h_4 => exact h.congr (by simp)
  case h_5 => exact copyClassAction_permitLaw (endServing_permitLaw (h.congr (by simp)) ..) _
  case h_6 => exact copyClassAction_permitLaw h _
  case h_7 => exact h.congr (by simp)
  case h_8 => exact copyClassAction_permitLaw (h.congr (by simp)) _

theorem endStartingClear_permitLaw {s : State} (h : PermitLaw s) : PermitLaw (endStartingClear s) := by
  have hcleared : PermitLaw (startingCleared s) := h.congr (by simp [startingCleared_lane])
  rw [endStartingClear_eq]
  split
  · exact hearMember_permitLaw hcleared
  · exact hcleared

theorem fillGoesOn_permitLaw {s : State} (h : PermitLaw s) : PermitLaw (fillGoesOn s) := by
  unfold fillGoesOn
  split
  case h_1 => exact h.congr (by simp)
  case h_2 => exact h.congr (by simp)
  case h_3 => exact endStartingClear_permitLaw h
  case h_4 => exact h

theorem endBurst_permitLaw {s : State} (h : PermitLaw s) (b : Burst) : PermitLaw (endBurst b s) := by
  unfold endBurst
  extract_lets s1 s2 s3 s4
  have h2 : PermitLaw s2 := by
    unfold s2 s1
    split <;> exact h.congr (by simp)
  have h3 : PermitLaw s3 := voteIfComplete_permitLaw (endWork_permitLaw h2 _)
  have h4 : PermitLaw s4 := by
    unfold s4
    split
    · exact fillGoesOn_permitLaw h3
    · exact h3
  exact h4.congr (by simp)

/-! The timers of the copy engine (R132, R136, R137, R146, R147). -/

theorem giveUpServing_permitLaw {s : State} (h : PermitLaw s) (c : Cause) : PermitLaw (giveUpServing c s) :=
  voteIfComplete_permitLaw (endServing_permitLaw h ..)

theorem silentInRequest_permitLaw {s : State} (h : PermitLaw s) : PermitLaw (silentInRequest s) := by
  unfold silentInRequest
  refine askOther_permitLaw ?_ false
  split
  · exact h.congr (by simp)
  · exact h

theorem progressExpires_permitLaw {s : State} (h : PermitLaw s) : PermitLaw (progressExpires s) := by
  unfold progressExpires
  split
  · exact silentInRequest_permitLaw h
  · exact failAttempt_permitLaw h ..
  · exact failAttempt_permitLaw h ..
  · split
    · exact giveUpServing_permitLaw h _
    · exact h

theorem holdExpires_permitLaw {s : State} (h : PermitLaw s) : PermitLaw (holdExpires s) := by
  unfold holdExpires
  split
  · unfold holdRunsOut
    extract_lets engine s1
    have h1 : PermitLaw s1 := h.congr (by simp [s1])
    split
    · exact giveUpServing_permitLaw h1 _
    · exact h1
  · exact giveUpServing_permitLaw h _
  · exact h

theorem verifyAdmit_permitLaw {s : State} (h : PermitLaw s) (x : Snapshot) : PermitLaw (verifyAdmit x s) := by
  unfold verifyAdmit
  split
  · exact admission_permitLaw ..
  · unfold mismatchFound
    refine failAttempt_permitLaw ?_ ..
    split
    · exact h.congr (by simp)
    · exact h

/-! The deliveries (R102, R112, R113, R121, R132, R138 to R141, R147, R148). -/

theorem excludeByState_permitLaw {s : State} (h : PermitLaw s) (l : Lane) (x : LaneState) (w : Word) :
    PermitLaw (excludeByState l x w s) := by
  unfold excludeByState
  split
  · exact (excludePeer_permitLaw l s).congr (by simp)
  · exact h

theorem discover_permitLaw {s : State} (h : PermitLaw s) (x : LaneState) (b : Bool) : PermitLaw (discover x b s) := by
  unfold discover
  split
  · exact hearMember_permitLaw h
  · exact h

theorem signatureArrives_permitLaw {s : State} (h : PermitLaw s) (l : Lane) (c : Word) (f : PeerFrame) :
    PermitLaw (signatureArrives l c f s) := by
  unfold signatureArrives
  extract_lets s1 partner s2
  have h1 : PermitLaw s1 := h.congr (by simp [s1])
  refine discover_permitLaw ?_ ..
  unfold s2
  split
  · exact voteIfComplete_permitLaw ((excludeByState_permitLaw h1 l f.state c).congr (by simp))
  · exact h1

theorem stateArrives_permitLaw {s : State} (h : PermitLaw s) (l : Lane) (x : LaneState) (w : Word) :
    PermitLaw (stateArrives l x w s) :=
  discover_permitLaw (voteIfComplete_permitLaw (excludeByState_permitLaw (h.congr (by simp)) l x w)) ..

theorem noticeArrives_permitLaw {s : State} (h : PermitLaw s) (l : Lane) (w : Word) :
    PermitLaw (noticeArrives l w s) := by
  unfold noticeArrives
  split
  · exact h
  · exact voteIfComplete_permitLaw (memberByFrame_permitLaw l w s)

theorem acceptJoin_permitLaw (p : PortId) (l : Lane) (n : Nat) (s : State) : PermitLaw (acceptJoin p l n s) := by
  have hstands (u : State) : PermitLaw (standJoining l u) := by
    unfold standJoining
    split <;> exact setStanding_permitLaw ..
  rw [acceptJoin_eq]
  exact voteIfComplete_permitLaw ((hstands (beginServing l n (offerControl p (.accept n) s))).congr (by simp [joinAccepted]))

theorem joinArrives_permitLaw {s : State} (h : PermitLaw s) (p : PortId) (l : Lane) (n : Nat) (x : Pair) :
    PermitLaw (joinArrives p l n x s) := by
  unfold joinArrives
  split
  · exact h.congr (by simp)
  · exact acceptJoin_permitLaw ..
  · exact acceptJoin_permitLaw ..

theorem refuseArrives_permitLaw {s : State} (h : PermitLaw s) (l : Lane) (x : RefuseSubject) (r : RefuseReason) :
    PermitLaw (refuseArrives l x r s) := by
  unfold refuseArrives
  split
  · split
    · exact askOther_permitLaw h true
    · exact h
  · split
    · split
      · exact h.congr (by simp)
      · exact h
    · exact h

theorem admittedArrives_permitLaw {s : State} (h : PermitLaw s) (l : Lane) (n : Nat) (w : Word) :
    PermitLaw (admittedArrives l n w s) := by
  unfold admittedArrives
  split
  · have hmember := memberByFrame_permitLaw l (w + 1) (endServing .admitted none none s)
    exact voteIfComplete_permitLaw (hmember.congr (by simp))
  · exact h

theorem mismatchArrives_permitLaw {s : State} (h : PermitLaw s) (l : Lane) (n k : Nat) :
    PermitLaw (mismatchArrives l n k s) := by
  unfold mismatchArrives
  split
  · exact voteIfComplete_permitLaw (endServing_permitLaw h ..)
  · exact h

theorem abandonArrives_permitLaw {s : State} (h : PermitLaw s) (l : Lane) (n : Nat) (c : Cause) :
    PermitLaw (abandonArrives l n c s) := by
  unfold abandonArrives
  split
  · split
    · exact failAttempt_permitLaw h ..
    · exact h
  · split
    · exact leave_permitLaw h ..
    · split
      · exact voteIfComplete_permitLaw (endServing_permitLaw h ..)
      · exact h
  · exact h

/-! Every command and every step. -/

/-- The image read ends in STARTING, where PERMIT does not toggle, and leaves the lane there or in FAILED (R155, R157). -/
theorem imageRead_permitLaw {s u : State} (h : PermitLaw s) (hr : readsImage s = true)
    (hu : u.lane.state ≠ .member ∧ u.lane.permitTimer = s.lane.permitTimer) : PermitLaw u := by
  obtain ⟨hstate, htimer⟩ := hu
  have hstarting : s.lane.state ≠ .member := by simp [readsImage_starting hr]
  rw [permitLaw_iff_of_not_member hstate, htimer]
  exact (permitLaw_iff_of_not_member hstarting).1 h

theorem effect_permitLaw {c : Instr} {s u : State} (he : Effect c s u) (h : PermitLaw s) : PermitLaw u := by
  have harrive (p : PortId) (rest : List Frame) (l : Lane) : PermitLaw (arrive p rest l s) := h.congr (by simp)
  cases he with
  | imageAccepted hr => exact imageRead_permitLaw h hr (by simp [readsImage_starting hr])
  | imageRefused hr => exact imageRead_permitLaw h hr (by simp [enterFailed])
  | burstEnd => exact endBurst_permitLaw h _
  | ownMark => exact takeMark_permitLaw h
  | voteWindowExpiry => exact castVote_permitLaw h _
  | cycleSupervisionExpiry => exact leave_permitLaw h ..
  | permitTimerExpiry ht => exact h.congr ⟨by simp [ht], rfl, rfl⟩
  | formationWindowExpiry => exact enterForming_permitLaw s
  | retryTimerExpiry =>
    unfold retryExpires
    split
    · exact h.congr ⟨rfl, rfl, rfl⟩
    · exact enterJoining_permitLaw ..
  | restoreEdge | supplyLowRetry => exact enterJoining_permitLaw ..
  | supplyLowActive =>
    have hlow : PermitLaw { s with lines := { s.lines with supplyLow := true } } := h
    exact failAttempt_permitLaw hlow ..
  | progressTimerExpiry =>
    have hstopped : PermitLaw { s with copy := { s.copy with progress := none } } := h
    exact progressExpires_permitLaw hstopped
  | holdTimerExpiry =>
    have hstopped : PermitLaw { s with copy := { s.copy with holdTimer := none } } := h
    exact holdExpires_permitLaw hstopped
  | admitVerify => exact verifyAdmit_permitLaw h _
  | signatureDelivery => exact signatureArrives_permitLaw (harrive ..) ..
  | stateDelivery => exact stateArrives_permitLaw (harrive ..) ..
  | noticeDelivery => exact noticeArrives_permitLaw (harrive ..) ..
  | joinDelivery => exact joinArrives_permitLaw (harrive ..) ..
  | refuseDelivery => exact refuseArrives_permitLaw (harrive ..) ..
  | admittedDelivery => exact admittedArrives_permitLaw (harrive ..) ..
  | mismatchDelivery => exact mismatchArrives_permitLaw (harrive ..) ..
  | abandonDelivery => exact abandonArrives_permitLaw (harrive ..) ..
  | _ => exact h.congr (by simp)

/-- Only the expiry of the permit timer changes PERMIT's level, under the two conditions (R119). -/
theorem effect_permit {c : Instr} {s u : State} (he : Effect c s u) (h : PermitLaw s)
    (hp : u.lines.permit ≠ s.lines.permit) : c = .permitTimerExpiry ∧ permitDue s = true := by
  cases he with
  | permitTimerExpiry ht => exact ⟨rfl, h ▸ ht⟩
  | _ => exact absurd (by simp) hp

theorem exec_permitLaw {c : Instr} {s t : State} (h : exec c s = .next t) (hs : PermitLaw s) : PermitLaw t := by
  cases hc : isReset c with
  | true =>
    cases c with
    | powerReset | pinReset => cases h; rfl
    | _ => cases hc
  | false =>
    obtain rfl | ⟨u, rfl, hu⟩ := exec_cases h hc
    · exact hs
    · exact (effect_permitLaw hu hs).congr (by simp)

theorem exec_permit {c : Instr} {s t : State} (h : exec c s = .next t) (hc : isReset c = false) (hs : PermitLaw s)
    (hp : t.lines.permit ≠ s.lines.permit) : c = .permitTimerExpiry ∧ permitDue s = true := by
  obtain rfl | ⟨u, rfl, hu⟩ := exec_cases h hc
  · exact absurd rfl hp
  · exact effect_permit hu hs (by simpa using hp)

/-- With no command waiting the part queues a step of its own, or its timers tick and stay running or stopped (R172). -/
theorem idle_permit {s : State} (h : PermitLaw s) : PermitLaw (idle s) ∧ (idle s).lines.permit = s.lines.permit := by
  unfold idle
  split
  · exact ⟨h.congr ⟨rfl, rfl, rfl⟩, rfl⟩
  · exact ⟨h.congr (by simp [tick, tickTimer]), rfl⟩

/-- Settles O55: by the effect of each command; a standing or a lane state set tests PERMIT in the same step. -/
theorem everyStepKeepsThePermitLaw : Obligations.EveryStepKeepsThePermitLaw := by
  intro s t hs _ h
  unfold step at h
  split at h
  case h_1 c rest hpending =>
    refine ⟨exec_permitLaw h hs, fun hp hreset => ?_⟩
    have hc : isReset c = false := hreset c (by simp [hpending])
    obtain ⟨rfl, hdue⟩ := exec_permit (s := { s with pending := rest }) h hc hs hp
    exact ⟨by simp [hpending], hdue⟩
  case h_2 =>
    cases h
    obtain ⟨hlaw, hlevel⟩ := idle_permit hs
    exact ⟨hlaw, fun hp => absurd hlevel hp⟩

end Sys2Proof.Machine
end

section
/-! SUPPORT. What the exclusion of peers, the end of serving and isolation leave of the vote unit and of lane control, and the
standings after them (R104, R112, R115, R123, R148). -/

namespace Sys2Proof.Machine

/-! Changes of standings alone. -/

/-- A change that touches of the vote unit only the view and the entries, and of lane control only the permit timer and
whether a serving is remembered. -/
structure TouchesStandings (s t : State) : Prop where
  vote : t.vote = { s.vote with table := t.vote.table, view := t.vote.view }
  lane : t.lane = { s.lane with permitTimer := t.lane.permitTimer, retainedServing := t.lane.retainedServing }

namespace TouchesStandings

variable {s t u : State}

theorem of_frame (hv : t.vote = s.vote) (hl : t.lane = s.lane) : TouchesStandings s t := ⟨by rw [hv], by rw [hl]⟩

theorem refl (s : State) : TouchesStandings s s := .of_frame rfl rfl

theorem trans (h : TouchesStandings s t) (g : TouchesStandings t u) : TouchesStandings s u :=
  ⟨g.vote.trans (by rw [h.vote]), g.lane.trans (by rw [h.lane])⟩

end TouchesStandings

theorem setStanding_touchesStandings (l : Lane) (x : Standing) (s : State) : TouchesStandings s (setStanding l x s) := by
  refine ⟨by simp [setStanding], ?_⟩
  rw [setStanding, permitTest_lane]

theorem excludePeer_touchesStandings (l : Lane) (s : State) : TouchesStandings s (excludePeer l s) := by
  unfold excludePeer
  split
  · have hvoters : TouchesStandings s { s with vote := { s.vote with table := s.vote.table.map (withoutVoter l) } } :=
      ⟨rfl, rfl⟩
    exact hvoters.trans (setStanding_touchesStandings ..)
  · exact setStanding_touchesStandings ..

theorem excludeAll_touchesStandings (xs : List (Lane × Cause)) (s : State) : TouchesStandings s (excludeAll xs s) := by
  induction xs generalizing s with
  | nil => exact .refl s
  | cons x xs ih => exact (excludePeer_touchesStandings ..).trans (ih _)

theorem endServingStep_touchesStandings (o : Cause) (a : Option Cause) (s : State) :
    TouchesStandings s (endServingStep o a s) := by
  cases hs : s.copy.serving with
  | none => rw [endServingStep_of_none hs]; exact .refl s
  | some x =>
    have hstopped : TouchesStandings s (abandonTo x.1 x.2 a (purgeFor x.1 x.2 (stopServing (endRestoreJob s)))) :=
      ⟨by simp [stopServing], by simp [stopServing]⟩
    rw [endServingStep_of_some hs]
    split
    · exact hstopped.trans (excludePeer_touchesStandings ..)
    · exact hstopped

/-! Standings (R111, R112, R148). -/

theorem setStanding_standing (l : Lane) (x : Standing) (s : State) : standing (setStanding l x s) l = x := by
  simp [standing, viewOf]

theorem setLaneState_standing (x : LaneState) (s : State) : standing (setLaneState x s) (ownLane s) = mirrorOf x := by
  simp [standing, viewOf, setLaneState_vote]

theorem setLaneState_standing_of_ne {l : Lane} (x : LaneState) {s : State} (h : l ≠ ownLane s) :
    standing (setLaneState x s) l = standing s l := by
  simp [standing, viewOf, setLaneState_vote, PerLane.get_set_of_ne _ _ h]

theorem excludePeer_standing_of_ne {l k : Lane} (s : State) (h : k ≠ l) :
    standing (excludePeer l s) k = standing s k := (excludePeer_touches l s).standing k h

/-- A lane that is EXCLUDED stays so. -/
def KeepsExcluded (s t : State) : Prop := ∀ l, standing s l = .excluded → standing t l = .excluded

theorem KeepsExcluded.of_view {s t : State} (h : t.vote.view = s.vote.view) : KeepsExcluded s t :=
  fun l hl => (standing_congr h l).trans hl

theorem KeepsExcluded.trans {s t u : State} (h : KeepsExcluded s t) (g : KeepsExcluded t u) : KeepsExcluded s u :=
  fun l hl => g l (h l hl)

theorem excludePeer_keepsExcluded (k : Lane) (s : State) : KeepsExcluded s (excludePeer k s) := fun l hl => by
  by_cases h : l = k
  · rw [h, excludePeer_standing]
  · rw [excludePeer_standing_of_ne s h, hl]

theorem excludeAll_keepsExcluded (xs : List (Lane × Cause)) (s : State) : KeepsExcluded s (excludeAll xs s) := by
  induction xs generalizing s with
  | nil => exact .of_view rfl
  | cons x xs ih => exact (excludePeer_keepsExcluded x.1 s).trans (ih _)

theorem endServingStep_keepsExcluded (o : Cause) (a : Option Cause) (s : State) :
    KeepsExcluded s (endServingStep o a s) := by
  cases hs : s.copy.serving with
  | none => rw [endServingStep_of_none hs]; exact .of_view rfl
  | some x =>
    have hstopped : KeepsExcluded s (abandonTo x.1 x.2 a (purgeFor x.1 x.2 (stopServing (endRestoreJob s)))) :=
      .of_view (by simp [stopServing])
    rw [endServingStep_of_some hs]
    split
    · exact hstopped.trans (excludePeer_keepsExcluded x.1 _)
    · exact hstopped

/-! Isolation (R115, R123). -/

/-- The lane isolated, its vote unit emptied and its serving ended: the first steps of R123. -/
def isolatedLane (s : State) : State :=
  endServingStep .isolated (some .isolated) (emptyVote (assertHold (setLaneState .isolated (dropFoundCause s))))

theorem isolatedLane_vote (s : State) : (isolatedLane s).vote = { s.vote with
    table := [], window := none, supervision := none, grace := none, view := (isolatedLane s).vote.view } := by
  have htable : (isolatedLane s).vote.table = [] := endServingStep_table rfl
  have hserving : TouchesStandings _ (isolatedLane s) := endServingStep_touchesStandings ..
  rw [hserving.vote, htable]
  simp [emptyVote, setLaneState_vote]

theorem isolatedLane_lane (s : State) : (isolatedLane s).lane = { s.lane with
    state := .isolated, retainedState := .isolated, permitTimer := (isolatedLane s).lane.permitTimer,
    retainedServing := (isolatedLane s).lane.retainedServing } := by
  have hserving : TouchesStandings _ (isolatedLane s) := endServingStep_touchesStandings ..
  have hset : (emptyVote (assertHold (setLaneState .isolated (dropFoundCause s)))).lane =
      (setLaneState .isolated (dropFoundCause s)).lane := by simp
  have hdropped : (dropFoundCause s).lane = s.lane := by simp
  rw [hserving.lane, hset, setLaneState_lane, hdropped]

theorem isolatedLane_keepsExcluded (s : State) : KeepsExcluded (setLaneState .isolated (dropFoundCause s)) (isolatedLane s) :=
  KeepsExcluded.trans (.of_view (by simp)) (endServingStep_keepsExcluded .isolated (some .isolated) _)

/-- What isolation does after its first steps leaves the vote unit, and of lane control what R123 does not name. -/
theorem isolate_vote_lane (c : Cause) (n : Option Nat) (s : State) : (isolate c n s).vote = (isolatedLane s).vote ∧
    (isolate c n s).lane = { (isolatedLane s).lane with
      attempts := 0
      retry := if 0 < (settings s).attemptLimit then some (retryTicks s) else none
      retryDue := false
      retainedCause := some c
      formation := none } := by
  have hsettings : settings (dropRepairWork (isolatedLane s)) = settings s := settings_congr (by simp [isolatedLane])
  have hlane : (dropRepairWork (isolatedLane s)).lane = (isolatedLane s).lane := by simp
  have hvote : (dropRepairWork (isolatedLane s)).vote = (isolatedLane s).vote := by simp
  unfold isolate
  extract_lets s1 s2 s3 s4 s5 control s6 s7 s8 s9
  have h5 : s5 = dropRepairWork (isolatedLane s) := rfl
  have h7 : s7.vote = s5.vote ∧ s7.lane = s6.lane := by
    unfold s7
    split <;> simp [s6]
  simp only [offerState_frame, s9, s8, reportServeEnd_frame, reportIsolated_frame, h7]
  simp only [s6, control, h5, hlane, hvote, hsettings, retryTicks]
  exact ⟨trivial, rfl⟩

theorem isolate_vote (c : Cause) (n : Option Nat) (s : State) : (isolate c n s).vote = { s.vote with
    table := [], window := none, supervision := none, grace := none, view := (isolate c n s).vote.view } := by
  obtain ⟨hvote, -⟩ := isolate_vote_lane c n s
  rw [hvote]
  exact isolatedLane_vote s

theorem isolate_lane (c : Cause) (n : Option Nat) (s : State) : (isolate c n s).lane = { s.lane with
    state := .isolated, retainedState := .isolated, retainedCause := some c, attempts := 0, retryDue := false,
    retry := if 0 < (settings s).attemptLimit then some (retryTicks s) else none, permitTimer := none,
    formation := none, retainedServing := (isolate c n s).lane.retainedServing } := by
  obtain ⟨-, hlane⟩ := isolate_vote_lane c n s
  have hstate : (isolate c n s).lane.state ≠ .member := by simp
  have htimer : (isolatedLane s).lane.permitTimer = none := by
    have h := (permitLaw_iff_of_not_member hstate).1 (isolate_permitLaw c n s)
    rwa [hlane] at h
  rw [hlane, isolatedLane_lane, htimer]

theorem isolate_keepsExcluded (c : Cause) (n : Option Nat) (s : State) : KeepsExcluded s (isolate c n s) := fun l hl => by
  obtain ⟨hvote, -⟩ := isolate_vote_lane c n s
  have hkept : standing (setLaneState .isolated (dropFoundCause s)) l = .excluded := by
    by_cases h : l = ownLane (dropFoundCause s)
    · rw [h, setLaneState_standing]
      rfl
    · rw [setLaneState_standing_of_ne _ h, standing_congr (s := s) (by simp), hl]
  rw [standing_congr (s := isolatedLane s) (by rw [hvote])]
  exact isolatedLane_keepsExcluded s l hkept

/-- An isolated lane stands EXCLUDED in its own view (R111). -/
theorem isolate_standing_own (c : Cause) (n : Option Nat) (s : State) :
    standing (isolate c n s) (ownLane s) = .excluded := by
  obtain ⟨hvote, -⟩ := isolate_vote_lane c n s
  have hown : ownLane (dropFoundCause s) = ownLane s := ownLane_congr (by simp)
  rw [standing_congr (s := isolatedLane s) (by rw [hvote])]
  refine isolatedLane_keepsExcluded s _ ?_
  rw [← hown, setLaneState_standing]
  rfl

/-- The copy engine after isolation: repair work and serving are over (R123, R148). -/
theorem isolate_copy (c : Cause) (n : Option Nat) (s : State) :
    (isolate c n s).copy.serving = none ∧ (isolate c n s).copy.repairs = [] ∧ (isolate c n s).copy.repair = none ∧
      (isolate c n s).copy.answers = [] ∧ (isolate c n s).copy.repairTimer = none ∧
      (s.copy.serving.isSome = true → (isolate c n s).copy.dirty = [] ∧ (isolate c n s).copy.cursor = none ∧
        (isolate c n s).copy.catchUp = .none ∧ (isolate c n s).copy.progress = none ∧
        (isolate c n s).copy.holdTimer = none) := by
  have hcopy : (isolate c n s).copy = (dropRepairWork (isolatedLane s)).copy := by
    unfold isolate
    extract_lets s1 s2 s3 s4 s5 control s6 s7 s8 s9
    have h7 : s7.copy = s6.copy := by
      unfold s7
      split <;> simp
    simp only [offerState_frame, s9, s8, reportServeEnd_frame, reportIsolated_frame, h7]
    rfl
  rw [hcopy]
  refine ⟨by simp [isolatedLane], rfl, rfl, rfl, rfl, fun hs => ?_⟩
  obtain ⟨hdirty, hcursor, hcatch, hprogress, hhold, -⟩ := endServingStep_copy (o := .isolated) (a := some .isolated)
    (s := emptyVote (assertHold (setLaneState .isolated (dropFoundCause s)))) (by simpa using hs)
  simp [isolatedLane, hdirty, hcursor, hcatch, hprogress, hhold]

/-- A lane that leaves FORMING or MEMBER keeps its patrol running (R71, R123). -/
theorem isolate_patrol {c : Cause} {n : Option Nat} {s : State} (h : s.lane.state ≠ .starting) :
    (isolate c n s).patrol = s.patrol := by
  simp [isolate, h]

end Sys2Proof.Machine
end

section
/-! The expiry of cycle supervision (R110, R115, R122, R123, R124). -/

namespace Sys2Proof.Machine

/-- Settles O33: the step is the isolation of R123, taken in a lane that runs. -/
theorem stallIsolatesTheLane : Obligations.StallIsolatesTheLane := by
  intro s hs hr
  have hexec : exec .cycleSupervisionExpiry s = .next (settle (isolate .stall none s)) := by
    simp [exec, execCycleSupervisionExpiry, hs, hr, leave_of_running hr, done]
  have hstarting : s.lane.state ≠ .starting := fun h => by simp [running_of_starting h] at hr
  obtain ⟨hstate, hhold⟩ := isolate_state .stall none s
  obtain ⟨hserving, hrepairs, hrepair, hanswers, htimer, hended⟩ := isolate_copy .stall none s
  have hvote := isolate_vote .stall none s
  have hlane := isolate_lane .stall none s
  refine ⟨isolate .stall none s, hexec, hstate, by rw [hlane], by rw [hlane], by rw [hlane], by rw [hlane], by rw [hlane],
    by rw [hlane], ?retry, hhold, by simp, by rw [hvote], by rw [hvote], by rw [hvote], by rw [hvote],
    isolate_standing_own .., hserving, hrepairs, hrepair, hanswers, htimer, hended, ?frame⟩
  case retry =>
    rw [hlane]
    rfl
  case frame => exact State.ext (by simp [isolate_patrol hstarting])

end Sys2Proof.Machine
end

section
/-! ADMIT and its verdicts (R112, R136, R137, R147, R148). -/

namespace Sys2Proof.Machine

/-! The arrival at a joiner (R136). -/

/-- In COPY and VERIFY a frame from the source's lane restarts the progress timer as it arrives. -/
theorem arrive_of_source {p : PortId} {rest : List Frame} {l : Lane} {s : State} (hj : s.lane.state = .joining)
    (hp : s.copy.phase = .copy ∨ s.copy.phase = .verify) (ha : s.copy.asked = some l) :
    arrive p rest l s = { takenFrom p rest s with
      copy := { s.copy with progress := some ((settings s).progressLimit * 1000) } } := by
  have hsettings : settings (takenFrom p rest s) = settings s := settings_congr (by simp [takenFrom])
  have hcopy : (takenFrom p rest s).copy = s.copy := by simp [takenFrom]
  have hheard : arrive p rest l s = sourceHeard l (takenFrom p rest s) := rfl
  rw [hheard, sourceHeard, if_pos (by simp [takenFrom, hj, hp, ha]), hsettings, hcopy]
  rfl

theorem currentAttempt_iff {phase : JoinPhase} {l : Lane} {n : Nat} {s : State} : currentAttempt phase l n s = true ↔
    s.lane.state = .joining ∧ s.copy.phase = phase ∧ s.copy.asked = some l ∧ s.copy.attempt = n := by
  simp [currentAttempt, and_assoc]

/-- An ADMIT of the current attempt moves the joiner to VERIFY (R137). -/
theorem exec_admitDelivery {s : State} {p : PortId} {l : Lane} {n : Nat} {rest : List Frame} {snap : Snapshot}
    (hl : (getPort s p).peer = some l) (hq : (getPort s p).received = .admitSnapshot n snap.cycle snap.view snap.pairs :: rest)
    (hc : currentAttempt .copy l n s = true) : exec (.admitDelivery p) s = .next (settle (setPort { s with
      copy := { s.copy with
        phase := .verify, verifying := some snap, progress := some ((settings s).progressLimit * 1000) } } p
      { getPort s p with received := rest })) := by
  obtain ⟨hj, hp, ha, hn⟩ := currentAttempt_iff.1 hc
  have hexec : exec (.admitDelivery p) s = done (admitArrives l n snap (arrive p rest l s)) := by
    simp [exec, execAdmitDelivery, hq, hl]
  have hcurrent : currentAttempt .copy l n (arrive p rest l s) = true := by
    rw [arrive_of_source hj (.inl hp) ha]
    simp [currentAttempt, takenFrom, hj, hp, ha, hn]
  rw [hexec, admitArrives, if_pos hcurrent, arrive_of_source hj (.inl hp) ha, done, takenFrom]
  cases p <;> rfl

/-! The end of serving (R148). -/

/-- What belongs to the serving is stopped and forgotten. -/
theorem endServing_copy {o : Cause} {a : Option Cause} {n : Option Nat} {s : State} (h : s.copy.serving.isSome = true) :
    (endServing o a n s).copy.serving = none ∧ (endServing o a n s).copy.dirty = [] ∧
      (endServing o a n s).copy.cursor = none ∧ (endServing o a n s).copy.catchUp = .none ∧
      (endServing o a n s).copy.kept = none ∧ (endServing o a n s).copy.progress = none ∧
      (endServing o a n s).copy.holdTimer = none ∧ (endServing o a n s).lane.retainedServing = false := by
  have hkept : (endServingStep o a s).copy.kept = none := by
    obtain ⟨x, hs⟩ := Option.isSome_iff_exists.1 h
    rw [endServingStep_of_some hs]
    split <;> simp [stopServing]
  obtain ⟨hdirty, hcursor, hcatch, hprogress, hhold, hretained⟩ := endServingStep_copy (o := o) (a := a) h
  simp [endServing, hdirty, hcursor, hcatch, hkept, hprogress, hhold, hretained]

/-- An admitted joiner, and one that starts again, keeps its standing (R148). -/
theorem endServing_view {o : Cause} (h : outcomeExcludes o = false) (a : Option Cause) (n : Option Nat) (s : State) :
    (endServing o a n s).vote.view = s.vote.view := by
  have hview : (endServing o a n s).vote.view = (endServingStep o a s).vote.view := by simp [endServing]
  rw [hview]
  cases hs : s.copy.serving with
  | none => rw [endServingStep_of_none hs]
  | some x => simp [endServingStep_of_some hs, h, stopServing]

/-- A joiner whose serving ends otherwise is EXCLUDED (R148). -/
theorem endServing_standing {o : Cause} {a : Option Cause} {n : Option Nat} {s : State} {joiner : Lane} {attempt : Nat}
    (h : s.copy.serving = some (joiner, attempt)) (ho : outcomeExcludes o = true) :
    standing (endServing o a n s) joiner = .excluded := by
  rw [standing_congr (s := endServingStep o a s) (by simp [endServing])]
  exact endServingStep_standing h ho

/-! A lane made MEMBER by a frame (R112). -/

theorem memberByFrame_standing (l : Lane) (w : Word) (s : State) : standing (memberByFrame l w s) l = .member :=
  setStanding_standing ..

theorem memberByFrame_standing_of_ne {l k : Lane} (w : Word) (s : State) (h : k ≠ l) :
    standing (memberByFrame l w s) k = standing s k := (memberByFrame_touches l w s).standing k h

theorem memberByFrame_late (l : Lane) (w : Word) (s : State) :
    PerLane.get (memberByFrame l w s).vote.lateCount l = 0 ∧ PerLane.get (memberByFrame l w s).vote.lastLate l = none := by
  simp [memberByFrame, setStanding]

/-! The verdicts of a joiner (R147). -/

theorem verdictCounts_takenFrom (l : Lane) (n : Nat) (p : PortId) (rest : List Frame) (s : State) :
    verdictCounts l n (takenFrom p rest s) = verdictCounts l n s := by simp [verdictCounts, takenFrom]

section
variable {s : State} {p : PortId} {l : Lane} {n : Nat} {rest : List Frame} (hl : (getPort s p).peer = some l)
  (hm : s.lane.state = .member)
include hl hm

theorem exec_admittedDelivery {cycle : Word} (hq : (getPort s p).received = .admitted n cycle :: rest) :
    exec (.admittedDelivery p) s = .next (settle (admittedArrives l n cycle (takenFrom p rest s))) := by
  have hj : s.lane.state ≠ .joining := by simp [hm]
  simp [exec, execAdmittedDelivery, hq, hl, done, arrive_of_not_joining hj]

theorem exec_mismatchDelivery {slot : Nat} (hq : (getPort s p).received = .mismatch n slot :: rest) :
    exec (.mismatchDelivery p) s = .next (settle (mismatchArrives l n slot (takenFrom p rest s))) := by
  have hj : s.lane.state ≠ .joining := by simp [hm]
  simp [exec, execMismatchDelivery, hq, hl, done, arrive_of_not_joining hj]

end

/-- The joiner served made MEMBER once its serving has ended, and NOTICE sent to the third lane (R147). -/
def admittedServing (l : Lane) (cycle : Word) (s : State) : State :=
  offerNotice l s.copy.kept (memberByFrame l (cycle + 1) (endServing .admitted none none s))

theorem admittedArrives_of_counted {l : Lane} {n : Nat} {s : State} (h : verdictCounts l n s = true) (cycle : Word) :
    admittedArrives l n cycle s = voteIfComplete (admittedServing l cycle s) := by
  simp [admittedArrives, h, admittedServing]

theorem mismatchArrives_of_counted {l : Lane} {n : Nat} {s : State} (h : verdictCounts l n s = true) (slot : Nat) :
    mismatchArrives l n slot s = voteIfComplete (endServing .mismatch none (some slot) s) := by
  simp [mismatchArrives, h]

/-- ADMITTED leaves the engine without a serving and the joiner, and no other lane, changed in its standing. -/
theorem admittedServing_spec {l : Lane} (cycle : Word) {s : State} (h : s.copy.serving.isSome = true) :
    (admittedServing l cycle s).copy = (endServing .admitted none none s).copy ∧
      (admittedServing l cycle s).lane.retainedServing = false ∧ (admittedServing l cycle s).lane.state = s.lane.state ∧
      standing (admittedServing l cycle s) l = .member ∧
      (∀ k, k ≠ l → standing (admittedServing l cycle s) k = standing s k) ∧
      PerLane.get (admittedServing l cycle s).vote.lateCount l = 0 := by
  have hview (k : Lane) : standing (admittedServing l cycle s) k =
      standing (memberByFrame l (cycle + 1) (endServing .admitted none none s)) k :=
    standing_congr (by simp [admittedServing]) k
  obtain ⟨-, -, -, -, -, -, -, hretained⟩ := endServing_copy (o := .admitted) (a := none) (n := none) h
  refine ⟨by simp [admittedServing], by simp [admittedServing, hretained], by simp [admittedServing], ?_, fun k hk => ?_, ?_⟩
  · rw [hview, memberByFrame_standing]
  · rw [hview, memberByFrame_standing_of_ne _ _ hk, standing_congr (endServing_view rfl ..)]
  · simp [admittedServing, memberByFrame_late]

/-- Settles O49: a verdict counts or is discarded with its frame; one that counts ends the serving before a vote is taken. -/
theorem admitAndItsVerdicts : Obligations.AdmitAndItsVerdicts := by
  intro s p l n rest hl
  refine ⟨fun snap hq hc => exec_admitDelivery hl hq hc, fun hm => ⟨fun cycle hq => ?_, fun slot hq => ?_⟩⟩
  · rw [exec_admittedDelivery hl hm hq]
    refine ⟨fun hv => ?_, fun hv => ?_⟩
    · rw [admittedArrives, verdictCounts_takenFrom, hv]
      rfl
    · have hv' := (verdictCounts_takenFrom l n p rest s).trans hv
      have hserving : (takenFrom p rest s).copy.serving.isSome = true := by simp [verdictCounts_serving hv']
      obtain ⟨hcopy, hretained, hstate, hjoiner, hothers, hlate⟩ := admittedServing_spec (l := l) cycle hserving
      obtain ⟨hnone, hdirty, hcursor, hcatch, hkept, hprogress, hhold, -⟩ :=
        endServing_copy (o := .admitted) (a := none) (n := none) hserving
      refine ⟨_, admittedServing l cycle (takenFrom p rest s), rfl, admittedArrives_of_counted hv' cycle, ?_⟩
      rw [hcopy]
      refine ⟨hnone, hdirty, hcursor, hcatch, hkept, hprogress, hhold, hretained, hstate.trans (by simp [takenFrom, hm]),
        hjoiner, fun k hk => (hothers k hk).trans (standing_congr (by simp [takenFrom]) k), hlate, ?_⟩
      simp [admittedServing, takenFrom]
  · rw [exec_mismatchDelivery hl hm hq]
    refine ⟨fun hv => ?_, fun hv => ?_⟩
    · rw [mismatchArrives, verdictCounts_takenFrom, hv]
      rfl
    · have hv' := (verdictCounts_takenFrom l n p rest s).trans hv
      have hserving := verdictCounts_serving hv'
      obtain ⟨hnone, hdirty, hcursor, hcatch, -, -, -, hretained⟩ := endServing_copy (o := .mismatch) (a := none)
        (n := some slot) (Option.isSome_iff_exists.2 ⟨_, hserving⟩)
      refine ⟨_, _, rfl, mismatchArrives_of_counted hv' slot, hnone, hdirty, hcursor, hcatch, hretained, ?_,
        endServing_standing hserving rfl, ?_⟩
      all_goals simp [takenFrom, hm]

end Sys2Proof.Machine
end

section
/-! A member peer heard (R121), and what STATE and NOTICE change (R104, R111 to R113, R126, R157). -/

namespace Sys2Proof.Machine

/-! The cause found by the burst in progress (R21, R122). -/

/-- What a burst has found depends on the burst, the image and the lane state. -/
theorem foundCause_congr {s t : State} (hp : t.port.burst = s.port.burst) (hi : t.map.image = s.map.image)
    (hl : t.lane.state = s.lane.state) : foundCause t = foundCause s := by
  have hblock : blockCause t = blockCause s := funext fun b => by
    simp only [blockCause, locate_congr hi, classCause_congr hl]
  have hend : causeAtEnd t = causeAtEnd s := funext fun x => by cases x <;> simp [causeAtEnd, hblock]
  rw [foundCause, foundCause, hp, hend]

/-! The entry of JOINING (R127) leaves what was heard of the peers. -/

theorem startAttempt_lastHeard (s : State) : (startAttempt s).vote.lastHeard = s.vote.lastHeard := by
  have hprepared : (prepareAttempt s).vote.lastHeard = s.vote.lastHeard := by
    simp [prepareAttempt, clearStart, restartPatrol, regionStart, clearLivePairs]
  obtain ⟨h, -⟩ | ⟨h, -⟩ := startAttempt_cases s <;> rw [h]
  · exact hprepared
  · rwa [(endJoinerClear_frame _).2.2.2.2.2.2.2.1]

theorem enterJoining_heard (g : Trigger) (s : State) : (enterJoining g s).vote.lastHeard = s.vote.lastHeard ∧
    (enterJoining g s).lane.formation = none := by
  simp [enterJoining, startAttempt_lastHeard, setLaneState_vote]

/-! Discovery (R121, R126). -/

/-- What hearing a member peer makes of the lane, by SUPPLY-LOW. -/
structure MemberHeard (s t : State) : Prop where
  hold : t.lines.hold = true
  state : t.lane.state = if s.lines.supplyLow then .isolated else .joining
  cause : s.lines.supplyLow = true → t.lane.retainedCause = some .supply
  formation : t.lane.formation = none
  heard : t.vote.lastHeard = s.vote.lastHeard
  lock : t.map.lock = s.map.lock

theorem hearMember_memberHeard {s : State} (h : foundCause s = none) : MemberHeard s (hearMember s) := by
  have hlock : (hearMember s).map.lock = s.map.lock := by simp
  by_cases hlow : s.lines.supplyLow = true
  · have hheard : hearMember s = isolate .supply none s := by rw [hearMember, if_pos hlow]
    rw [hheard] at hlock ⊢
    exact ⟨by simp, by simp [hlow], fun _ => (isolate_ends ..).1, by rw [isolate_lane], by rw [isolate_vote], hlock⟩
  · have hheard : hearMember s = enterJoining .discovery s := by rw [hearMember, if_neg hlow, h]
    rw [hheard] at hlock ⊢
    obtain ⟨hlast, hformation⟩ := enterJoining_heard .discovery s
    exact ⟨by simp, by simp [hlow], fun hl => absurd hl hlow, hformation, hlast, hlock⟩

theorem discover_of_not_member {st : LaneState} (h : st ≠ .member) (b : Bool) (s : State) : discover st b s = s := by
  simp [discover, h]

theorem discover_of_not_discovers {s : State} (h : discovers s = false) (st : LaneState) (b : Bool) :
    discover st b s = s := by
  simp [discover, h]

theorem discover_of_discovers {s : State} (h : discovers s = true) : discover .member false s = hearMember s := by
  simp [discover, h]

/-! A frame heard (R113). -/

theorem hear_lastHeard (l : Lane) (st : LaneState) (s : State) : PerLane.get (hear l st s).vote.lastHeard l = some st :=
  PerLane.get_set_self ..

/-- A frame taken from its port and heard (R92, R113). -/
theorem hear_takenFrom (l : Lane) (st : LaneState) (p : PortId) (rest : List Frame) (s : State) :
    hear l st (takenFrom p rest s) = setPort { s with vote := { s.vote with
      lastHeard := PerLane.set s.vote.lastHeard l (some st) } } p { getPort s p with received := rest } := by
  cases p <;> rfl

/-- A frame that arrives leaves its queue (R92). -/
theorem getPort_arrive (p : PortId) (rest : List Frame) (l : Lane) (s : State) :
    (getPort (arrive p rest l s) p).received = rest := by
  have hheard : arrive p rest l s = sourceHeard l (takenFrom p rest s) := rfl
  rw [hheard, sourceHeard]
  split
  · exact congrArg LinkPort.received (getPort_takenFrom p rest s)
  · exact congrArg LinkPort.received (getPort_takenFrom p rest s)

theorem getPort_links_congr {s t : State} (h1 : t.link1 = s.link1) (h2 : t.link2 = s.link2) (p : PortId) :
    getPort t p = getPort s p := by
  cases p
  · exact h1
  · exact h2

/-! A peer that stands MEMBER and carries another state (R104, R112). -/

theorem excludePeer_table_of_member {l : Lane} {s : State} (h : standing s l = .member) :
    (excludePeer l s).vote.table = s.vote.table.map (withoutVoter l) := by
  rw [excludePeer, if_pos h]
  simp

theorem excludeByState_of_kept {l : Lane} {st : LaneState} {s : State} (h : st = .member ∨ standing s l ≠ .member)
    (c : Word) : excludeByState l st c s = s := by
  rw [excludeByState, if_neg fun ⟨hm, hst⟩ => h.elim hst fun hl => hl hm]

/-- It is EXCLUDED and taken out of every voter set; other lanes stand as before. -/
structure ExcludedByState (l : Lane) (s t : State) : Prop where
  excluded : standing t l = .excluded
  others : ∀ k, k ≠ l → standing t k = standing s k
  heard : t.vote.lastHeard = s.vote.lastHeard
  table : t.vote.table = s.vote.table.map (withoutVoter l)

theorem excludeByState_excluded {l : Lane} {st : LaneState} {s : State} (hm : standing s l = .member)
    (hst : st ≠ .member) (c : Word) : ExcludedByState l s (excludeByState l st c s) := by
  have hvote : (excludeByState l st c s).vote = (excludePeer l s).vote := by
    rw [excludeByState, if_pos ⟨hm, hst⟩]
    simp
  have hstand (k : Lane) : standing (excludeByState l st c s) k = standing (excludePeer l s) k :=
    standing_congr (congrArg VoteUnit.view hvote) k
  refine ⟨?_, fun k hk => ?_, ?_, ?_⟩
  · rw [hstand, excludePeer_standing]
  · rw [hstand, excludePeer_standing_of_ne s hk]
  · rw [hvote, (excludePeer_touchesStandings l s).vote]
  · rw [hvote, excludePeer_table_of_member hm]

/-- A lane taken out of an entry's voter set votes in it no more. -/
theorem voters_withoutVoter {l : Lane} {e : VoteEntry} {v : PerLane Bool} (h : (withoutVoter l e).voters = some v) :
    PerLane.get v l = false := by
  obtain ⟨w, -, rfl⟩ := Option.map_eq_some_iff.1 h
  exact PerLane.get_set_self ..

/-! STATE. -/

section
variable {s : State} {p : PortId} {l : Lane} {st : LaneState} {counter : Word} {rest : List Frame}
  (hl : (getPort s p).peer = some l) (hq : (getPort s p).received = .state st counter :: rest)
include hl hq

theorem exec_stateDelivery : exec (.stateDelivery p) s = .next (settle (stateArrives l st counter (arrive p rest l s))) := by
  simp [exec, execStateDelivery, hq, hl, done]

/-- STATE other than MEMBER from a peer that stands MEMBER. -/
theorem stateDelivery_excludes (hm : standing s l = .member) (hst : st ≠ .member) :
    ∃ t u, exec (.stateDelivery p) s = .next (settle t) ∧ t = voteIfComplete u ∧
      standing u l = .excluded ∧ PerLane.get u.vote.lastHeard l = some st ∧
      (∀ e ∈ u.vote.table, ∀ v, e.voters = some v → PerLane.get v l = false) ∧
      u.lane.state = s.lane.state ∧ (getPort u p).received = rest ∧ u.sram = s.sram ∧ u.map = s.map := by
  have hstand : standing (hear l st (arrive p rest l s)) l = .member := (standing_congr (by simp) l).trans hm
  obtain ⟨hexcluded, -, hheard, htable⟩ := excludeByState_excluded hstand hst counter
  refine ⟨_, excludeByState l st counter (hear l st (arrive p rest l s)), exec_stateDelivery hl hq,
    discover_of_not_member hst .., hexcluded, ?_, fun e he v hv => ?_, by simp, ?_, by simp, by simp⟩
  · rw [hheard, hear_lastHeard]
  · rw [htable] at he
    obtain ⟨x, -, rfl⟩ := List.mem_map.1 he
    exact voters_withoutVoter hv
  · rw [getPort_links_congr (s := arrive p rest l s) (by simp) (by simp), getPort_arrive]

/-- STATE other than MEMBER from another peer is heard and no more. -/
theorem stateDelivery_heard (hm : standing s l ≠ .member) (hst : st ≠ .member) (hn : NoVoteDue s)
    (hj : s.lane.state ≠ .joining) :
    exec (.stateDelivery p) s = .next (settle (setPort { s with vote := { s.vote with
      lastHeard := PerLane.set s.vote.lastHeard l (some st) } } p { getPort s p with received := rest })) := by
  have hstand : standing (hear l st (takenFrom p rest s)) l ≠ .member := by
    rwa [standing_congr (s := s) (by simp [takenFrom])]
  have hdue : NoVoteDue (hear l st (takenFrom p rest s)) := hn.congr (by simp [takenFrom]) (by simp [takenFrom])
  have harrives : stateArrives l st counter (takenFrom p rest s) = hear l st (takenFrom p rest s) := by
    simp only [stateArrives]
    rw [excludeByState_of_kept (.inr hstand), voteIfComplete_of_none hdue, discover_of_not_member hst]
  rw [exec_stateDelivery hl hq, arrive_of_not_joining hj, harrives, hear_takenFrom]

/-- STATE carrying MEMBER heard in FORMING with no entry waiting. -/
theorem stateDelivery_discovers (hst : st = .member) (hf : s.lane.state = .forming) (ht : s.vote.table = [])
    (hc : foundCause s = none) : ∃ t, exec (.stateDelivery p) s = .next (settle t) ∧
      MemberHeard (hear l .member (takenFrom p rest s)) t := by
  subst hst
  have hj : s.lane.state ≠ .joining := by simp [hf]
  have htable : (hear l .member (takenFrom p rest s)).vote.table = [] := by simp [takenFrom, ht]
  have hpartner : isPartner (hear l .member (takenFrom p rest s)) l = false := by rw [isPartner, htable]; rfl
  have hdiscovers : discovers (hear l .member (takenFrom p rest s)) = true := by simp [discovers, takenFrom, hf]
  have hcause : foundCause (hear l .member (takenFrom p rest s)) = none := by
    rwa [foundCause_congr (s := s) (by simp [takenFrom]) (by simp [takenFrom]) (by simp [takenFrom])]
  have harrives : stateArrives l .member counter (takenFrom p rest s) =
      hearMember (hear l .member (takenFrom p rest s)) := by
    simp only [stateArrives]
    rw [excludeByState_of_kept (.inl rfl), voteIfComplete_of_none (noVoteDue_of_empty htable), hpartner,
      discover_of_discovers hdiscovers]
  refine ⟨_, exec_stateDelivery hl hq, ?_⟩
  rw [arrive_of_not_joining hj, harrives]
  exact hearMember_memberHeard hcause

end

/-! NOTICE. -/

theorem exec_noticeDelivery {s : State} {p : PortId} {l joiner : Lane} {cycle : Word} {rest : List Frame}
    (hl : (getPort s p).peer = some l) (hq : (getPort s p).received = .notice joiner cycle :: rest) :
    exec (.noticeDelivery p) s = .next (settle (noticeArrives joiner cycle (arrive p rest l s))) := by
  simp [exec, execNoticeDelivery, hq, hl, done]

theorem isAbsentLane_iff {s : State} {l : Lane} : isAbsentLane s l = true ↔ laneCount s = 2 ∧ l = .two := by
  simp [isAbsentLane]

/-- The lanes for which a NOTICE changes nothing (R111, R112). -/
theorem noticeArrives_of_idle {joiner : Lane} {s : State}
    (h : joiner = ownLane s ∨ standing s joiner = .member ∨ (laneCount s = 2 ∧ joiner = .two)) (cycle : Word) :
    noticeArrives joiner cycle s = s := by
  rw [← isAbsentLane_iff] at h
  rw [noticeArrives, if_pos (.inr h)]

/-- In STARTING a free value says whether a NOTICE finds its use (notes/assumptions/33). -/
theorem noticeArrives_of_use {joiner : Lane} {s : State} (ho : joiner ≠ ownLane s) (hm : standing s joiner ≠ .member)
    (ha : ¬ (laneCount s = 2 ∧ joiner = .two)) (cycle : Word) : noticeArrives joiner cycle s =
      if s.lane.state = .starting ∧ Config.noticeTakenInStarting = false then s
      else voteIfComplete (memberByFrame joiner cycle s) := by
  rw [← isAbsentLane_iff] at ha
  have htakes : takesNotice s = false ↔ s.lane.state = .starting ∧ Config.noticeTakenInStarting = false := by
    simp [takesNotice]
  simp [noticeArrives, ho, hm, ha, htakes]

/-- Settles O45: STATE by the standing of its sender and the state it carries, NOTICE by its lane. -/
theorem standingsFollowStateAndNotice : Obligations.StandingsFollowStateAndNotice := by
  intro s p l rest hl _
  refine ⟨fun st counter hq => ⟨stateDelivery_excludes hl hq, stateDelivery_heard hl hq, fun hst hf ht hc => ?discovery⟩,
    fun lane cycle hq ho hm ha => ?taken, fun lane cycle hq hidle hj => ?idle⟩
  case discovery =>
    obtain ⟨t, hexec, hheard⟩ := stateDelivery_discovers hl hq hst hf ht hc
    refine ⟨t, hexec, hheard.hold, ?_, hheard.lock.trans (by simp [takenFrom]), hheard.state.trans (by simp [takenFrom]),
      fun hlow => hheard.cause (by simpa [takenFrom] using hlow)⟩
    rw [hheard.heard, hear_lastHeard]
  case taken =>
    have hstand (k : Lane) : standing (arrive p rest l s) k = standing s k := standing_congr (by simp) k
    have hown : ownLane (arrive p rest l s) = ownLane s := ownLane_congr (by simp)
    have hcount : laneCount (arrive p rest l s) = laneCount s := laneCount_congr (by simp)
    obtain ⟨hlate, hlast⟩ := memberByFrame_late lane cycle (arrive p rest l s)
    refine ⟨memberByFrame lane cycle (arrive p rest l s), ?_, memberByFrame_standing .., fun k hk => ?_, hlate, hlast,
      by simp, ?_, by simp, by simp⟩
    · rw [exec_noticeDelivery hl hq, noticeArrives_of_use (by rwa [hown]) (by rwa [hstand]) (by rwa [hcount])]
      by_cases hs : s.lane.state = .starting
      · rw [arrive_of_not_joining (by simp [hs])]
        simp [takenFrom]
      · simp [hs]
    · rw [memberByFrame_standing_of_ne cycle _ hk, hstand]
    · rw [getPort_links_congr (s := arrive p rest l s) (by simp) (by simp), getPort_arrive]
  case idle =>
    rw [exec_noticeDelivery hl hq, arrive_of_not_joining hj, noticeArrives_of_idle]
    · rfl
    · rwa [ownLane_congr (s := s) (by simp [takenFrom]), standing_congr (s := s) (by simp [takenFrom]),
        laneCount_congr (s := s) (by simp [takenFrom])]

end Sys2Proof.Machine
end

section
/-! What a SIGNATURE does (R98, R101 to R104, R112, R113, R121, R161). -/

namespace Sys2Proof.Machine

/-! A report offered to a state that agrees with another on what the log writer reads (R163). -/

/-- The LOG request of a report depends on the log, the port and the image. -/
theorem offer_port_congr {s t : State} (r : Report) (hp : t.port = s.port) (h : t.log = s.log)
    (hi : t.map.image = s.map.image) : (offer r t).port = (offer r s).port := by
  unfold offer placeLog place
  simp only [h, hp, logRegion_congr hi]
  (repeat' split) <;> simp [hp]

theorem offer_of_agree {s t : State} (r : Report) (hp : t.port = s.port) (h : t.log = s.log)
    (hi : t.map.image = s.map.image) : offer r t = { t with log := (offer r s).log, port := (offer r s).port } :=
  State.ext (by simp [offer_port_congr r hp h hi, offer_log_congr r h hi])

/-! The place of the cycle (R98, R102). -/

/-- The cycle is the own one with its window running, or one of the next three (R102). -/
def Storable (c : Word) (s : State) : Prop := (c - s.vote.counter).toNat ≤ 3 ∧
  (c = s.vote.counter → ∃ e, ownEntry s = some e ∧ e.window = true)

/-- The cycle lies behind, or is the own one with its window over (R102). -/
def Late (c : Word) (s : State) : Prop := 2147483647 < (c - s.vote.counter).toNat ∨
  (c = s.vote.counter ∧ ∀ e, ownEntry s = some e → e.window = false)

theorem offset_eq_zero_iff {c w : Word} : (c - w).toNat = 0 ↔ c = w := by
  constructor <;> intro h <;> bv_omega

theorem takeSignature_of_storable {c : Word} {s : State} (h : Storable c s) (l : Lane) (f : PeerFrame) :
    takeSignature l c f s = storeFrame l c f s := by
  obtain ⟨hnear, hown⟩ := h
  have hplace : classifyArrival s c = .current ∨ classifyArrival s c = .early := by
    simp only [classifyArrival, offset_eq_zero_iff]
    split
    case isTrue hc =>
      obtain ⟨e, he, hwindow⟩ := hown hc
      exact .inl (by rw [he]; simp [hwindow])
    case isFalse => exact .inr rfl
  obtain h | h := hplace <;> rw [takeSignature, h]

theorem takeSignature_of_skewed {c : Word} {s : State} (h : 3 < (c - s.vote.counter).toNat)
    (h' : (c - s.vote.counter).toNat ≤ 2147483647) (l : Lane) (f : PeerFrame) :
    takeSignature l c f s = reportSkew l c s := by
  have hplace : classifyArrival s c = .skewed := by
    rw [classifyArrival]
    simp only [show ¬ (c - s.vote.counter).toNat = 0 by omega, if_false, show ¬ (c - s.vote.counter).toNat ≤ 3 by omega, h',
      if_true]
  rw [takeSignature, hplace]

theorem takeSignature_of_late {c : Word} {s : State} (h : Late c s) (l : Lane) (f : PeerFrame) :
    takeSignature l c f s = reportPeerLate l c s := by
  have hplace : classifyArrival s c = .late := by
    rw [classifyArrival]
    obtain h | ⟨rfl, hover⟩ := h
    · simp only [show ¬ (c - s.vote.counter).toNat = 0 by omega, if_false, show ¬ (c - s.vote.counter).toNat ≤ 3 by omega,
        show ¬ (c - s.vote.counter).toNat ≤ 2147483647 by omega]
    · cases he : ownEntry s with
      | none => simp
      | some e => simp [hover e he]
  rw [takeSignature, hplace]

/-- The PEER-LATE report (R103, R170). -/
def peerLateReport (l : Lane) (c : Word) (s : State) : Report :=
  makeReport s .peerLate none 0 (packFields [(Lane.number l, 0), (PerLane.get s.vote.lateCount l, 8)]) c

theorem reportPeerLate_of_counted {l : Lane} {c : Word} {s : State} (h : PerLane.get s.vote.lastLate l = some c) :
    reportPeerLate l c s = offer (peerLateReport l c s) s := by
  rw [reportPeerLate, if_pos h]
  rfl

/-! The frame stored (R101, R102). -/

theorem storeFrame_entries (l : Lane) (c : Word) (f : PeerFrame) (s : State) :
    (∀ e ∈ (storeFrame l c f s).vote.table, e.cycle = c → PerLane.get e.peers l = some f) ∧
      (∃ e ∈ (storeFrame l c f s).vote.table, e.cycle = c) ∧
      ∀ e, e.cycle ≠ c → (e ∈ (storeFrame l c f s).vote.table ↔ e ∈ s.vote.table) := by
  refine ⟨fun e he hc => ?_, exists_mem_updateEntry (f := withPeerFrame l f) (fun _ => rfl) _,
    fun e hc => mem_updateEntry_of_ne (f := withPeerFrame l f) (fun _ => rfl) hc⟩
  obtain ⟨x, rfl, -⟩ := of_mem_updateEntry (f := withPeerFrame l f) he hc
  exact PerLane.get_set_self ..

/-- A SIGNATURE changes the table by its frame alone, and what was heard of the peers not at all. -/
theorem takeSignature_vote (l : Lane) (c : Word) (f : PeerFrame) (s : State) :
    (takeSignature l c f s).vote = s.vote ∨ takeSignature l c f s = storeFrame l c f s := by
  unfold takeSignature
  split
  case h_1 => exact .inr rfl
  case h_2 => exact .inr rfl
  case h_3 => exact .inl (by simp [reportSkew])
  case h_4 =>
    refine .inl ?_
    unfold reportPeerLate
    split <;> simp

theorem takeSignature_lastHeard (l : Lane) (c : Word) (f : PeerFrame) (s : State) :
    (takeSignature l c f s).vote.lastHeard = s.vote.lastHeard := by
  obtain h | h := takeSignature_vote l c f s <;> rw [h]
  rfl

/-- The voter set of an entry after a SIGNATURE is one of before, or not fixed yet (R101, R104). -/
theorem takeSignature_voters {l : Lane} {c : Word} {f : PeerFrame} {s : State} {e : VoteEntry}
    (he : e ∈ (takeSignature l c f s).vote.table) : e.voters = none ∨ ∃ x ∈ s.vote.table, x.voters = e.voters := by
  obtain h | h := takeSignature_vote l c f s <;> rw [h] at he
  · exact .inr ⟨e, he, rfl⟩
  · obtain ⟨x, hx, -, hvoters⟩ | ⟨rfl, -⟩ := of_mem_storeFrame he
    · exact .inr ⟨x, hx, hvoters⟩
    · exact .inl rfl

/-- No vote is due while no voter set is fixed (R105). -/
theorem noVoteDue_of_open {s : State} (h : ∀ e ∈ s.vote.table, e.voters = none) : NoVoteDue s :=
  List.find?_eq_none.2 fun e he => by simp [isComplete, h e he]

/-- The own cycle's entry without a voter. -/
theorem ownEntry_withoutVoter {l : Lane} {s t : State} (ht : t.vote.table = s.vote.table.map (withoutVoter l))
    (hc : t.vote.counter = s.vote.counter) : ownEntry t = (ownEntry s).map (withoutVoter l) := by
  rw [ownEntry, ht, hc, List.find?_map]
  rfl

theorem Storable.of_withoutVoter {l : Lane} {c : Word} {s t : State} (h : Storable c s)
    (ht : t.vote.table = s.vote.table.map (withoutVoter l)) (hc : t.vote.counter = s.vote.counter) : Storable c t := by
  obtain ⟨hnear, hown⟩ := h
  refine ⟨by rwa [hc], fun h => ?_⟩
  obtain ⟨e, he, hwindow⟩ := hown (h.trans hc)
  exact ⟨withoutVoter l e, by rw [ownEntry_withoutVoter ht hc, he]; rfl, hwindow⟩

theorem ownEntry_congr {s t : State} (ht : t.vote.table = s.vote.table) (hc : t.vote.counter = s.vote.counter) :
    ownEntry t = ownEntry s := by rw [ownEntry, ht, hc]; rfl

/-! Discovery beside the vote (R121). -/

theorem discover_of_quiet {st : LaneState} {s : State} (h : st = .member → discovers s = false) (b : Bool) :
    discover st b s = s := by
  by_cases hst : st = .member
  · exact discover_of_not_discovers (h hst) ..
  · exact discover_of_not_member hst ..

theorem discovers_of_member {s : State} (h : s.lane.state = .member) : discovers s = false := by simp [discovers, h]

/-- A lane in MEMBER is no place of discovery after a vote either. -/
theorem discovers_voteIfComplete {s : State} (h : s.lane.state = .member) : discovers (voteIfComplete s) = false := by
  unfold voteIfComplete
  split
  case h_1 e _ =>
    obtain hs | hs | ⟨hs, -⟩ := castVote_state e s
    · exact discovers_of_member (hs.trans h)
    · simp [discovers, hs]
    · simp [h] at hs
  case h_2 => exact discovers_of_member h

/-! The SIGNATURE taken. -/

/-- The state once the frame is taken from its port and its lane state heard (R92, R113). -/
def heardFrom (p : PortId) (rest : List Frame) (l : Lane) (st : LaneState) (s : State) : State :=
  hear l st (takenFrom p rest s)

section
variable (p : PortId) (rest : List Frame) (l : Lane) (st : LaneState) (s : State)

theorem heardFrom_eq : heardFrom p rest l st s = setPort { s with vote := { s.vote with
    lastHeard := PerLane.set s.vote.lastHeard l (some st) } } p { getPort s p with received := rest } :=
  hear_takenFrom l st p rest s

@[simp] theorem heardFrom_frame : (heardFrom p rest l st s).lines = s.lines ∧ (heardFrom p rest l st s).map = s.map ∧
    (heardFrom p rest l st s).sram = s.sram ∧ (heardFrom p rest l st s).port = s.port ∧
    (heardFrom p rest l st s).lane = s.lane ∧ (heardFrom p rest l st s).log = s.log ∧
    (heardFrom p rest l st s).vote = { s.vote with lastHeard := PerLane.set s.vote.lastHeard l (some st) } := by
  cases p <;> simp [heardFrom_eq, setPort]

theorem heardFrom_received : (getPort (heardFrom p rest l st s) p).received = rest := by
  rw [heardFrom_eq, getPort_setPort_self]

theorem heardFrom_standing (k : Lane) : standing (heardFrom p rest l st s) k = standing s k := standing_congr (by simp) k

theorem heardFrom_running : running (heardFrom p rest l st s) = running s := running_congr (by simp)

theorem heardFrom_ownEntry : ownEntry (heardFrom p rest l st s) = ownEntry s := ownEntry_congr (by simp) (by simp)

theorem heardFrom_foundCause : foundCause (heardFrom p rest l st s) = foundCause s :=
  foundCause_congr (by simp) (by simp) (by simp)

/-- A report offered once the frame is taken. -/
theorem offer_heardFrom (r : Report) : offer r (heardFrom p rest l st s) = setPort { s with
    vote := { s.vote with lastHeard := PerLane.set s.vote.lastHeard l (some st) }, log := (offer r s).log,
    port := (offer r s).port } p { getPort s p with received := rest } := by
  rw [offer_of_agree (s := s) r (by simp) (by simp) (by simp)]
  cases p <;> rfl

theorem isPartner_heardFrom (h : s.vote.table = []) : isPartner (heardFrom p rest l st s) l = false := by
  simp [isPartner, h]

end

section
variable {s : State} {p : PortId} {l : Lane} {c : Word} {st : LaneState} {view : View} {pairs : List Pair}
  {rest : List Frame} (hq : (getPort s p).received = .signature c st view pairs :: rest)
  (hl : (getPort s p).peer = some l)
include hq hl

/-- Outside JOINING: stored or reported in FORMING and MEMBER, and heard for discovery. -/
theorem exec_signatureDelivery (hj : s.lane.state ≠ .joining) : exec (.signatureDelivery p) s = .next (settle
    (discover st (isPartner (heardFrom p rest l st s) l)
      (if running s = true then voteIfComplete (takeSignature l c ⟨pairs, st, view⟩
        (excludeByState l st c (heardFrom p rest l st s))) else heardFrom p rest l st s))) := by
  have hexec : exec (.signatureDelivery p) s =
      .next (settle (signatureArrives l c ⟨pairs, st, view⟩ (takenFrom p rest s))) := by
    simp [exec, execSignatureDelivery, hq, hl, done, arrive_of_not_joining hj]
  rw [hexec, ← heardFrom_running p rest l st s]
  rfl

theorem exec_signatureDelivery_of_running (hr : running s = true) : exec (.signatureDelivery p) s = .next (settle
    (discover st (isPartner (heardFrom p rest l st s) l) (voteIfComplete (takeSignature l c ⟨pairs, st, view⟩
      (excludeByState l st c (heardFrom p rest l st s)))))) := by
  have hj : s.lane.state ≠ .joining := fun h => by simp [running, h] at hr
  rw [exec_signatureDelivery hq hl hj, if_pos hr]

/-- A SIGNATURE that neither excludes its sender nor counts for discovery. -/
theorem exec_signatureDelivery_of_kept (hr : running s = true) (hk : st = .member ∨ standing s l ≠ .member)
    (hm : st = .member → s.lane.state = .member) : exec (.signatureDelivery p) s = .next (settle
      (voteIfComplete (takeSignature l c ⟨pairs, st, view⟩ (heardFrom p rest l st s)))) := by
  have hkept : st = .member ∨ standing (heardFrom p rest l st s) l ≠ .member := by rwa [heardFrom_standing]
  rw [exec_signatureDelivery_of_running hq hl hr, excludeByState_of_kept hkept,
    discover_of_quiet fun h => discovers_voteIfComplete (by simp [hm h])]

/-- Stored for the own cycle and for the next three (R101, R102). -/
theorem signatureDelivery_stores (hr : running s = true) (hk : st = .member ∨ standing s l ≠ .member)
    (hm : st = .member → s.lane.state = .member) (hc : Storable c s) :
    ∃ t, exec (.signatureDelivery p) s = .next (settle (voteIfComplete t)) ∧
      t = setPort { s with vote := { s.vote with
          table := t.vote.table, lastHeard := PerLane.set s.vote.lastHeard l (some st) } } p
        { getPort s p with received := rest } ∧
      (∀ e ∈ t.vote.table, e.cycle = c → PerLane.get e.peers l = some ⟨pairs, st, view⟩) ∧
      (∃ e ∈ t.vote.table, e.cycle = c) ∧ (∀ e, e.cycle ≠ c → (e ∈ t.vote.table ↔ e ∈ s.vote.table)) := by
  have hstorable : Storable c (heardFrom p rest l st s) := by simpa [Storable, heardFrom_ownEntry] using hc
  obtain ⟨hstored, hexists, hothers⟩ := storeFrame_entries l c ⟨pairs, st, view⟩ (heardFrom p rest l st s)
  refine ⟨_, ?_, ?_, hstored, hexists, fun e he => (hothers e he).trans (by simp)⟩
  · rw [exec_signatureDelivery_of_kept hq hl hr hk hm, takeSignature_of_storable hstorable]
  · cases p <;> rfl

/-- Reported as SKEW further ahead (R102). -/
theorem signatureDelivery_skewed (hr : running s = true) (hk : st = .member ∨ standing s l ≠ .member)
    (hm : st = .member → s.lane.state = .member) (hc : 3 < (c - s.vote.counter).toNat)
    (hc' : (c - s.vote.counter).toNat ≤ 2147483647) (hn : NoVoteDue s) :
    ∃ t r, exec (.signatureDelivery p) s = .next (settle t) ∧
      t = setPort { s with vote := { s.vote with lastHeard := PerLane.set s.vote.lastHeard l (some st) },
                           log := (offer r s).log, port := (offer r s).port } p { getPort s p with received := rest } ∧
      r.kind = .skew ∧ r.detail2 = c ∧ r.cycle = s.vote.counter := by
  have hdue : NoVoteDue (reportSkew l c (heardFrom p rest l st s)) := hn.congr (by simp) (by simp)
  refine ⟨_, makeReport (heardFrom p rest l st s) .skew none 0 (packFields [(Lane.number l, 0)]) c, ?_,
    offer_heardFrom p rest l st s _, rfl, rfl, by simp [makeReport]⟩
  rw [exec_signatureDelivery_of_kept hq hl hr hk hm, takeSignature_of_skewed (by simpa using hc) (by simpa using hc'),
    voteIfComplete_of_none hdue]
  rfl

/-- Discarded when late, and reported when its sender was counted late for that cycle (R102, R103). -/
theorem signatureDelivery_late (hr : running s = true) (hk : st = .member ∨ standing s l ≠ .member)
    (hm : st = .member → s.lane.state = .member) (hc : Late c s) (hn : NoVoteDue s) :
    ∃ t, exec (.signatureDelivery p) s = .next (settle t) ∧
      t = setPort { s with vote := { s.vote with lastHeard := PerLane.set s.vote.lastHeard l (some st) },
                           log := t.log, port := t.port } p { getPort s p with received := rest } ∧
      (PerLane.get s.vote.lastLate l ≠ some c → t.log = s.log ∧ t.port = s.port) ∧
      (PerLane.get s.vote.lastLate l = some c → ∃ r : Report, t.log = (offer r s).log ∧ r.kind = .peerLate ∧
        r.detail1 = BitVec.ofNat 32 (Lane.number l + PerLane.get s.vote.lateCount l * 2 ^ 8) ∧ r.detail2 = c) := by
  have hlate : Late c (heardFrom p rest l st s) := by simpa [Late, heardFrom_ownEntry] using hc
  have hdue : NoVoteDue (reportPeerLate l c (heardFrom p rest l st s)) := hn.congr (by simp) (by simp)
  have hexec : exec (.signatureDelivery p) s = .next (settle (reportPeerLate l c (heardFrom p rest l st s))) := by
    rw [exec_signatureDelivery_of_kept hq hl hr hk hm, takeSignature_of_late hlate, voteIfComplete_of_none hdue]
  by_cases hcount : PerLane.get s.vote.lastLate l = some c
  · have hcount' : PerLane.get (heardFrom p rest l st s).vote.lastLate l = some c := by simpa using hcount
    rw [reportPeerLate_of_counted hcount', offer_heardFrom] at hexec
    refine ⟨_, hexec, ?_, fun h => absurd hcount h, fun _ => ⟨peerLateReport l c (heardFrom p rest l st s), by simp, rfl,
      by simp [peerLateReport, makeReport, packFields], rfl⟩⟩
    cases p <;> rfl
  · have hquiet : reportPeerLate l c (heardFrom p rest l st s) = heardFrom p rest l st s := by
      rw [reportPeerLate, if_neg (by simpa using hcount)]
    rw [hquiet] at hexec
    refine ⟨_, hexec, ?_, fun _ => by simp, fun h => absurd h hcount⟩
    cases p <;> rfl

/-- A peer that stood MEMBER and carries another state is EXCLUDED by its SIGNATURE (R104, R112). -/
theorem signatureDelivery_excludes (hr : running s = true) (hm : standing s l = .member) (hst : st ≠ .member) :
    ∃ t u, exec (.signatureDelivery p) s = .next (settle t) ∧ t = voteIfComplete u ∧ standing u l = .excluded ∧
      (∀ k, k ≠ l → standing u k = standing s k) ∧ PerLane.get u.vote.lastHeard l = some st ∧
      (∀ e ∈ u.vote.table, ∀ v, e.voters = some v → PerLane.get v l = false) ∧
      ((c - s.vote.counter).toNat ≤ 3 → (c = s.vote.counter → ∃ e, ownEntry s = some e ∧ e.window = true) →
        (∃ e ∈ u.vote.table, e.cycle = c) ∧
        ∀ e ∈ u.vote.table, e.cycle = c → PerLane.get e.peers l = some ⟨pairs, st, view⟩) ∧
      u.lane.state = s.lane.state ∧ u.sram = s.sram ∧ u.map = s.map ∧ (getPort u p).received = rest := by
  have hstand : standing (heardFrom p rest l st s) l = .member := by rwa [heardFrom_standing]
  obtain ⟨hexcluded, hothers, hheard, htable⟩ := excludeByState_excluded hstand hst c
  have hexec := exec_signatureDelivery_of_running hq hl hr
  rw [discover_of_not_member hst] at hexec
  refine ⟨_, _, hexec, rfl, ?_, fun k hk => ?_, ?_, fun e he v hv => ?_, fun hnear hown => ?_, by simp, by simp, by simp, ?_⟩
  · rw [standing_congr (s := excludeByState l st c (heardFrom p rest l st s)) (by simp), hexcluded]
  · rw [standing_congr (s := excludeByState l st c (heardFrom p rest l st s)) (by simp), hothers k hk, heardFrom_standing]
  · rw [takeSignature_lastHeard, hheard]
    exact hear_lastHeard ..
  · obtain hnone | ⟨x, hx, hvoters⟩ := takeSignature_voters he
    · simp [hnone] at hv
    · rw [htable] at hx
      obtain ⟨y, -, rfl⟩ := List.mem_map.1 hx
      exact voters_withoutVoter (hvoters.trans hv)
  · have hheardStorable : Storable c (heardFrom p rest l st s) := by simpa [Storable, heardFrom_ownEntry] using ⟨hnear, hown⟩
    have hstorable : Storable c (excludeByState l st c (heardFrom p rest l st s)) :=
      hheardStorable.of_withoutVoter htable (by simp)
    obtain ⟨hstored, hexists, -⟩ :=
      storeFrame_entries l c ⟨pairs, st, view⟩ (excludeByState l st c (heardFrom p rest l st s))
    rw [takeSignature_of_storable hstorable]
    exact ⟨hexists, hstored⟩
  · rw [getPort_links_congr (s := heardFrom p rest l st s) (by simp) (by simp), heardFrom_received]

/-- A member peer heard by its SIGNATURE in FORMING with no entry waiting (R113, R121). -/
theorem signatureDelivery_discovers (hf : s.lane.state = .forming) (hst : st = .member) (ht : s.vote.table = [])
    (hc : foundCause s = none) : ∃ t, exec (.signatureDelivery p) s = .next (settle t) ∧
      MemberHeard (takeSignature l c ⟨pairs, st, view⟩ (heardFrom p rest l st s)) t := by
  subst hst
  have hr : running s = true := by simp [running, hf]
  have hdue : NoVoteDue (takeSignature l c ⟨pairs, .member, view⟩ (heardFrom p rest l .member s)) :=
    noVoteDue_of_open fun e he => (takeSignature_voters he).resolve_right fun ⟨x, hx, _⟩ => by simp [ht] at hx
  have hdiscovers : discovers (takeSignature l c ⟨pairs, .member, view⟩ (heardFrom p rest l .member s)) = true := by
    simp [discovers, hf]
  have hcause : foundCause (takeSignature l c ⟨pairs, .member, view⟩ (heardFrom p rest l .member s)) = none := by
    rw [foundCause_congr (s := heardFrom p rest l .member s) (by simp) (by simp) (by simp), heardFrom_foundCause, hc]
  refine ⟨_, exec_signatureDelivery_of_running hq hl hr, ?_⟩
  rw [excludeByState_of_kept (.inl rfl), voteIfComplete_of_none hdue, isPartner_heardFrom p rest l .member s ht,
    discover_of_discovers hdiscovers]
  exact hearMember_memberHeard hcause

/-- Outside FORMING, MEMBER and JOINING a SIGNATURE is heard and no more, but in the formation window (R113, R161). -/
theorem signatureDelivery_heard (hr : running s = false) (hj : s.lane.state ≠ .joining)
    (hw : s.lane.state = .starting → s.lane.formation = none ∨ st ≠ .member) :
    exec (.signatureDelivery p) s = .next (settle (heardFrom p rest l st s)) := by
  have hquiet : st = .member → discovers (heardFrom p rest l st s) = false := fun hst => by
    have hforming : s.lane.state ≠ .forming := fun h => by simp [running, h] at hr
    have hwindow : s.lane.state = .starting → s.lane.formation = none := fun h => (hw h).resolve_right (not_not.2 hst)
    simpa [discovers, hforming] using hwindow
  rw [exec_signatureDelivery hq hl hj, if_neg (by simp [hr]), discover_of_quiet hquiet]

/-- A member peer heard by its SIGNATURE in the formation window (R121, R161). -/
theorem signatureDelivery_inWindow (hs : s.lane.state = .starting) (hw : s.lane.formation.isSome = true)
    (hst : st = .member) (ht : s.vote.table = []) (hc : foundCause s = none) :
    ∃ t, exec (.signatureDelivery p) s = .next (settle t) ∧ MemberHeard (heardFrom p rest l st s) t := by
  subst hst
  have hdiscovers : discovers (heardFrom p rest l .member s) = true := by simp [discovers, hs, hw]
  refine ⟨_, exec_signatureDelivery hq hl (by simp [hs]), ?_⟩
  rw [if_neg (by simp [running_of_starting hs]), isPartner_heardFrom p rest l .member s ht, discover_of_discovers hdiscovers]
  exact hearMember_memberHeard (by rw [heardFrom_foundCause, hc])

end

/-- Settles O44: by the lane state, the standing of the sender, and the place of the cycle. -/
theorem signatureIsStoredOrReported : Obligations.SignatureIsStoredOrReported := by
  intro s p l c st view pairs rest hq hl
  refine ⟨fun hr hk hm => ⟨fun hnear hown => signatureDelivery_stores hq hl hr hk hm ⟨hnear, hown⟩,
      signatureDelivery_skewed hq hl hr hk hm, signatureDelivery_late hq hl hr hk hm⟩,
    fun hr hm hst _ => signatureDelivery_excludes hq hl hr hm hst, fun hf hst ht hc => ?forming,
    fun hr hj hw => ?heard, fun hs hw hst ht hc => ?window⟩
  case forming =>
    obtain ⟨t, hexec, hheard⟩ := signatureDelivery_discovers hq hl hf hst ht hc
    refine ⟨t, hexec, hheard.hold, ?_, hheard.lock.trans (by simp), hheard.state.trans (by simp)⟩
    rw [hheard.heard, takeSignature_lastHeard, hst]
    exact hear_lastHeard ..
  case heard => rw [signatureDelivery_heard hq hl hr hj hw, heardFrom_eq]
  case window =>
    obtain ⟨t, hexec, hheard⟩ := signatureDelivery_inWindow hq hl hs hw hst ht hc
    exact ⟨t, hexec, hheard.hold, hheard.formation, hheard.state.trans (by simp)⟩

end Sys2Proof.Machine
end

section
/-! What a vote compares (R105, R106, R107, R109). -/

namespace Sys2Proof.Machine

theorem mem_allLanes (l : Lane) : l ∈ allLanes := by cases l <;> decide

/-! Presence (R105). -/

/-- A lane votes in an entry once its voter set is fixed and holds the lane (R101, R104). -/
theorem mem_votersOf_iff {e : VoteEntry} {l : Lane} :
    l ∈ votersOf e ↔ ∃ v, e.voters = some v ∧ PerLane.get v l = true := by
  cases hv : e.voters with
  | none => simp [votersOf, hv]
  | some v => rw [mem_votersOf hv]; simp

theorem isPresent_eq (own : Lane) (e : VoteEntry) (l : Lane) : isPresent own e l = (lanePairs own e l).isSome := by
  unfold isPresent lanePairs
  split
  · rfl
  · simp

theorem mem_presentVoters {own l : Lane} {e : VoteEntry} : l ∈ presentVoters own e ↔
    (∃ v, e.voters = some v ∧ PerLane.get v l = true) ∧ (lanePairs own e l).isSome = true := by
  rw [presentVoters, List.mem_filter, mem_votersOf_iff, isPresent_eq]

theorem mem_lateVoters {own l : Lane} {e : VoteEntry} : l ∈ lateVoters own e ↔
    (∃ v, e.voters = some v ∧ PerLane.get v l = true) ∧ lanePairs own e l = none := by
  rw [lateVoters, List.mem_filter, mem_votersOf_iff, isPresent_eq]
  simp

theorem not_present_of_late {own l : Lane} {e : VoteEntry} (h : l ∈ lateVoters own e) : l ∉ presentVoters own e := by
  obtain ⟨-, hmissing⟩ := mem_lateVoters.1 h
  simp [mem_presentVoters, hmissing]

/-! What a lane is compared by (R106). -/

/-- The number of results: the part's slots, or one where it has none (R106). -/
def resultCount (e : VoteEntry) : Nat := if ownSlots e = 0 then 1 else ownSlots e

theorem keysEqual_iff {x y : Option Pair} : keysEqual x y = true ↔ x.isSome = true ∧ x = y := by simp [keysEqual]

section
variable {own l m : Lane} {e : VoteEntry} {j : Nat} {ps qs : List Pair}

theorem slotKey_of_count (h : lanePairs own e l = some ps) (hn : ps.length = ownSlots e) :
    slotKey own e j l = if ownSlots e = 0 then some ⟨0, 0⟩ else ps[j]? := by
  have hempty : ps.isEmpty = true ↔ ownSlots e = 0 := by rw [← hn, List.isEmpty_iff, List.length_eq_zero_iff]
  simp only [slotKey, h, hn, if_true, hempty]

/-- A lane has something to compare by if it has the part's own slot count. -/
theorem slotKey_isSome (hj : j < resultCount e) : (slotKey own e j l).isSome = true ↔
    ∃ ps, lanePairs own e l = some ps ∧ ps.length = ownSlots e := by
  constructor
  · intro h
    cases hp : lanePairs own e l with
    | none => simp [slotKey, hp] at h
    | some ps =>
      refine ⟨ps, rfl, ?_⟩
      by_contra hn
      simp [slotKey, hp, hn] at h
  · rintro ⟨ps, hp, hn⟩
    rw [slotKey_of_count hp hn]
    unfold resultCount at hj
    split
    · rfl
    case isFalse h => simpa [h, hn] using hj

theorem slotKeys_eq_iff (hp : lanePairs own e l = some ps) (hn : ps.length = ownSlots e)
    (hq : lanePairs own e m = some qs) (hk : qs.length = ownSlots e) :
    slotKey own e j l = slotKey own e j m ↔ ps[j]? = qs[j]? := by
  rw [slotKey_of_count hp hn, slotKey_of_count hq hk]
  split
  case isTrue h => simp [List.eq_nil_of_length_eq_zero (hn.trans h), List.eq_nil_of_length_eq_zero (hk.trans h)]
  case isFalse => rfl

/-- The comparison of the model is the one of R106. -/
theorem keysEqual_slotKey_iff (hj : j < resultCount e) :
    keysEqual (slotKey own e j l) (slotKey own e j m) = true ↔ EqualInSlot own e j l m := by
  rw [keysEqual_iff]
  constructor
  · rintro ⟨hsome, heq⟩
    obtain ⟨ps, hp, hn⟩ := (slotKey_isSome hj).1 hsome
    obtain ⟨qs, hq, hk⟩ := (slotKey_isSome hj).1 (heq ▸ hsome)
    exact ⟨ps, qs, hp, hq, hn, hk, (slotKeys_eq_iff hp hn hq hk).1 heq⟩
  · rintro ⟨ps, qs, hp, hq, hn, hk, heq⟩
    exact ⟨(slotKey_isSome hj).2 ⟨ps, hp, hn⟩, (slotKeys_eq_iff hp hn hq hk).2 heq⟩

end

theorem keysEqual_of_common {a b c : Option Pair} (ha : keysEqual a c = true) (hb : keysEqual b c = true) :
    keysEqual a b = true := by
  obtain ⟨hsome, rfl⟩ := keysEqual_iff.1 ha
  obtain ⟨-, rfl⟩ := keysEqual_iff.1 hb
  exact keysEqual_iff.2 ⟨hsome, rfl⟩

/-! The results (R106). -/

theorem slotResults_length (own : Lane) (e : VoteEntry) : (slotResults own e).length = resultCount e := by
  simp [slotResults, resultCount]

theorem slotResults_getElem {own : Lane} {e : VoteEntry} {j : Nat} {r : SlotResult}
    (h : (slotResults own e)[j]? = some r) : j < resultCount e ∧
      r = slotResult ((presentVoters own e).map (fun l => (l, slotKey own e j l))) := by
  obtain ⟨hj, rfl⟩ := List.getElem?_eq_some_iff.1 h
  exact ⟨slotResults_length own e ▸ hj, by simp [slotResults]⟩

section
variable {own : Lane} {e : VoteEntry} {j : Nat} {r : SlotResult} (hr : (slotResults own e)[j]? = some r)
include hr

/-- Three present lanes: all equal, one in the minority, or no majority. -/
theorem slotResult_of_three (h : presentVoters own e = [.zero, .one, .two]) :
    (EqualInSlot own e j .zero .one → EqualInSlot own e j .one .two → r = .agree) ∧
    (EqualInSlot own e j .zero .one → ¬ EqualInSlot own e j .one .two → r = .minority .two) ∧
    (EqualInSlot own e j .zero .two → ¬ EqualInSlot own e j .zero .one → r = .minority .one) ∧
    (EqualInSlot own e j .one .two → ¬ EqualInSlot own e j .zero .one → r = .minority .zero) ∧
    (¬ EqualInSlot own e j .zero .one → ¬ EqualInSlot own e j .zero .two → ¬ EqualInSlot own e j .one .two →
      r = .noMajority) := by
  obtain ⟨hj, hresult⟩ := slotResults_getElem hr
  rw [h] at hresult
  subst hresult
  simp only [← keysEqual_slotKey_iff hj, List.map_cons, List.map_nil, slotResult]
  refine ⟨fun h01 h12 => by simp [h01, h12], fun h01 h12 => by simp [h01, h12], fun h02 h01 => by simp [h02, h01],
    fun h12 h01 => ?_, fun h01 h02 h12 => by simp [h01, h02, h12]⟩
  have h02 : ¬ keysEqual (slotKey own e j .zero) (slotKey own e j .two) = true := fun h02 => h01 (keysEqual_of_common h02 h12)
  simp [h01, h02, h12]

theorem slotResult_of_two {l m : Lane} (h : presentVoters own e = [l, m]) :
    (EqualInSlot own e j l m → r = .agree) ∧ (¬ EqualInSlot own e j l m → r = .noMajority) := by
  obtain ⟨hj, hresult⟩ := slotResults_getElem hr
  rw [h] at hresult
  subst hresult
  simp only [← keysEqual_slotKey_iff hj, List.map_cons, List.map_nil, slotResult]
  exact ⟨fun hlm => if_pos hlm, fun hlm => if_neg hlm⟩

theorem slotResult_of_one {l : Lane} (h : presentVoters own e = [l]) : r = .unchecked := by
  obtain ⟨-, hresult⟩ := slotResults_getElem hr
  rwa [h] at hresult

end

/-! What a vote finds (R107, R109). -/

theorem lacksMajority_iff {rs : List SlotResult} : lacksMajority rs = true ↔ .noMajority ∈ rs := by simp [lacksMajority]

theorem mem_minorityLanes {rs : List SlotResult} {l : Lane} : l ∈ minorityLanes rs ↔ .minority l ∈ rs := by
  simp [minorityLanes, mem_allLanes]

theorem inGrace_eq_false {grace : Option Word} {c : Word} : inGrace grace c = false ↔
    ∀ g, grace = some g → ¬ (1 ≤ (c - (g - 3)).toNat ∧ (c - (g - 3)).toNat ≤ 3) := by
  cases grace <;> simp [inGrace]

/-- The standing check (R109). -/
theorem notSeen_iff {own : Lane} {grace : Option Word} {e : VoteEntry} : notSeen own grace e = true ↔
    e.forming = false ∧
      (∀ g, grace = some g → ¬ (1 ≤ (e.cycle - (g - 3)).toNat ∧ (e.cycle - (g - 3)).toNat ≤ 3)) ∧
      ∃ l f, l ∈ presentVoters own e ∧ l ≠ own ∧ PerLane.get e.peers l = some f ∧ PerLane.get f.view own ≠ .member := by
  simp only [notSeen, Bool.and_eq_true, Bool.not_eq_true', inGrace_eq_false, List.any_eq_true, and_assoc]
  refine and_congr_right fun _ => and_congr_right fun _ => exists_congr fun l => ?_
  rw [exists_and_left]
  refine and_congr_right fun _ => ?_
  cases PerLane.get e.peers l <;> simp

end Sys2Proof.Machine
end

section
/-! What the expiry of the vote window does with the outcome (R107 to R109, R112, R114). -/

namespace Sys2Proof.Machine

/-! Counts (R108). -/

/-- A value set for each lane of a list from its own value before. -/
theorem get_foldl_set {α : Type} (f : α → α) {ls : List Lane} (hn : ls.Nodup) (v : PerLane α) (k : Lane) :
    PerLane.get (ls.foldl (fun c l => PerLane.set c l (f (PerLane.get c l))) v) k =
      if k ∈ ls then f (PerLane.get v k) else PerLane.get v k := by
  induction ls generalizing v with
  | nil => rfl
  | cons l ls ih =>
    obtain ⟨hl, hls⟩ := List.nodup_cons.1 hn
    rw [List.foldl_cons, ih hls]
    by_cases hk : k = l
    · subst hk
      simp [hl]
    · simp [hk, PerLane.get_set_of_ne _ _ hk]

theorem votersOf_nodup (e : VoteEntry) : (votersOf e).Nodup := by
  unfold votersOf
  split
  · exact List.Nodup.filter _ (by decide)
  · exact List.nodup_nil

/-- A late count raised, at most to 7 (R108; notes/assumptions/29). -/
def raisedLate (n : Nat) : Nat := if n < 7 then n + 1 else 7

theorem get_lateCountsAfter (own : Lane) (e : VoteEntry) (counts : PerLane Nat) (k : Lane) :
    PerLane.get (lateCountsAfter own e counts) k = if k ∈ presentVoters own e ∧ k ≠ own then 0
      else if k ∈ lateVoters own e then raisedLate (PerLane.get counts k) else PerLane.get counts k := by
  have hlate := get_foldl_set raisedLate ((votersOf_nodup e).filter (fun l => !isPresent own e l)) counts k
  have hpresent := get_foldl_set (fun _ => 0) (((votersOf_nodup e).filter (isPresent own e)).filter (fun l => decide (l ≠ own)))
    ((lateVoters own e).foldl (fun c l => PerLane.set c l (raisedLate (PerLane.get c l))) counts) k
  have hmem : k ∈ (presentVoters own e).filter (fun l => decide (l ≠ own)) ↔ k ∈ presentVoters own e ∧ k ≠ own := by simp
  refine hpresent.trans (if_congr hmem rfl ?_)
  rw [lateVoters, hlate]

theorem get_lastLateAfter (own : Lane) (e : VoteEntry) (cycles : PerLane (Option Word)) (k : Lane) :
    PerLane.get (lastLateAfter own e cycles) k =
      if k ∈ lateVoters own e then some e.cycle else PerLane.get cycles k :=
  get_foldl_set (fun _ => some e.cycle) ((votersOf_nodup e).filter _) cycles k

/-! Exclusions (R107, R108). -/

theorem excludeAll_standing_of_not_mem {xs : List (Lane × Cause)} {l : Lane} (h : ∀ x ∈ xs, x.1 ≠ l) (s : State) :
    standing (excludeAll xs s) l = standing s l := by
  induction xs generalizing s with
  | nil => rfl
  | cons x xs ih =>
    have hrest := ih (fun y hy => h y (List.mem_cons_of_mem x hy)) (excludePeer x.1 s)
    exact hrest.trans (excludePeer_standing_of_ne s (h x List.mem_cons_self).symm)

theorem excludeAll_standing_of_mem {xs : List (Lane × Cause)} {x : Lane × Cause} (h : x ∈ xs) (s : State) :
    standing (excludeAll xs s) x.1 = .excluded := by
  induction xs generalizing s with
  | nil => cases h
  | cons y ys ih =>
    obtain rfl | hys := List.mem_cons.1 h
    · exact excludeAll_keepsExcluded ys _ _ (excludePeer_standing x.1 s)
    · exact ih hys _

/-- Why the vote of an entry makes a peer EXCLUDED, if it does. -/
def reasonOut (e : VoteEntry) (s : State) (l : Lane) : Option Cause :=
  exclusionReason (ownLane s) e (slotResults (ownLane s) e) (settings s).lateThreshold
    (lateCountsAfter (ownLane s) e s.vote.lateCount) l

theorem mem_outOf {e : VoteEntry} {s : State} {x : Lane × Cause} : x ∈ outOf e s ↔ reasonOut e s x.1 = some x.2 := by
  obtain ⟨l, c⟩ := x
  have hall : ∀ k, k ∈ allLanes := mem_allLanes
  simp [outOf, votedOut, reasonOut, hall]

section
variable {e : VoteEntry} {s : State} {l : Lane}

theorem reasonOut_of_noMajority (hl : l ≠ ownLane s) (hp : l ∈ presentVoters (ownLane s) e)
    (h : lacksMajority (slotResults (ownLane s) e) = true) : reasonOut e s l = some .noMajority := by
  simp [reasonOut, exclusionReason, hl, hp, h]

theorem reasonOut_of_minority (hl : l ≠ ownLane s) (hp : l ∈ presentVoters (ownLane s) e)
    (h : lacksMajority (slotResults (ownLane s) e) = false) (hm : l ∈ minorityLanes (slotResults (ownLane s) e)) :
    reasonOut e s l = some .minority := by
  simp [reasonOut, exclusionReason, hl, hp, h, hm]

/-- A late voter is excluded at the threshold (R108). -/
theorem reasonOut_of_late (hl : l ≠ ownLane s) (hp : l ∈ lateVoters (ownLane s) e) : reasonOut e s l =
    if (settings s).lateThreshold ≤ PerLane.get (lateCountsAfter (ownLane s) e s.vote.lateCount) l then some .late
    else none := by
  simp [reasonOut, exclusionReason, hl, hp, not_present_of_late hp]

end

/-! The state that a vote hands on. -/

/-- The entry closed, the exclusions made and reported (R107, R108). -/
def countedVote (e : VoteEntry) (s : State) : State :=
  let rs := slotResults (ownLane s) e
  let excluded := excludeAll (outOf e s) (closeEntry e s)
  let clean := !lacksMajority rs && (minorityLanes rs).isEmpty && (lateVoters (ownLane s) e).isEmpty
  reportAllExcluded s (outOf e s) (if clean then excluded else reportVote (ownLane s) e rs excluded)

theorem castVote_handsOn (e : VoteEntry) (s : State) : castVote e s =
    handOnVote (ownLane s) s.vote.grace e (slotResults (ownLane s) e) (countedVote e s) := rfl

theorem countedVote_frame (e : VoteEntry) (s : State) :
    (countedVote e s).vote = (excludeAll (outOf e s) (closeEntry e s)).vote ∧
      (countedVote e s).lane.state = s.lane.state ∧ (countedVote e s).lines = s.lines ∧
      (countedVote e s).copy.serving = s.copy.serving := by
  simp only [countedVote]
  split <;> simp [closeEntry]

theorem ownLane_countedVote (e : VoteEntry) (s : State) : ownLane (countedVote e s) = ownLane s := by
  obtain ⟨-, -, hlines, -⟩ := countedVote_frame e s
  exact ownLane_congr (by rw [hlines])

theorem countedVote_counts (e : VoteEntry) (s : State) :
    (countedVote e s).vote.lateCount = lateCountsAfter (ownLane s) e s.vote.lateCount ∧
      (countedVote e s).vote.lastLate = lastLateAfter (ownLane s) e s.vote.lastLate := by
  obtain ⟨hvote, -⟩ := countedVote_frame e s
  rw [hvote, (excludeAll_touchesStandings (outOf e s) (closeEntry e s)).vote]
  exact ⟨rfl, rfl⟩

theorem countedVote_standing_of_some {e : VoteEntry} {s : State} {l : Lane} {c : Cause} (h : reasonOut e s l = some c) :
    standing (countedVote e s) l = .excluded := by
  obtain ⟨hvote, -⟩ := countedVote_frame e s
  rw [standing_congr (congrArg VoteUnit.view hvote)]
  exact excludeAll_standing_of_mem (x := (l, c)) (mem_outOf.2 h) _

theorem countedVote_standing_of_none {e : VoteEntry} {s : State} {l : Lane} (h : reasonOut e s l = none) :
    standing (countedVote e s) l = standing s l := by
  obtain ⟨hvote, -⟩ := countedVote_frame e s
  rw [standing_congr (congrArg VoteUnit.view hvote), excludeAll_standing_of_not_mem]
  · exact standing_congr rfl l
  · rintro x hx rfl
    rw [mem_outOf, h] at hx
    cases hx

/-! Formation partners made MEMBER (R114). -/

theorem makeMembers_standing (ls : List Lane) (s : State) (l : Lane) :
    standing (makeMembers ls s) l = if l ∈ ls then .member else standing s l := by
  induction ls generalizing s with
  | nil => rfl
  | cons k ks ih =>
    rw [makeMembers, ih]
    by_cases hl : l = k
    · subst hl
      simp [setStanding_standing]
    · rw [setStanding_standing_of_ne _ _ hl]
      simp [hl, standing, viewOf]

theorem makeMembers_counts (ls : List Lane) (s : State) (l : Lane) :
    PerLane.get (makeMembers ls s).vote.lateCount l = (if l ∈ ls then 0 else PerLane.get s.vote.lateCount l) ∧
      (makeMembers ls s).vote.lastLate = s.vote.lastLate := by
  induction ls generalizing s with
  | nil => exact ⟨rfl, rfl⟩
  | cons k ks ih =>
    obtain ⟨hcount, hlast⟩ := ih (setStanding k .member { s with vote := { s.vote with
      lateCount := PerLane.set s.vote.lateCount k 0 } })
    rw [makeMembers, hcount, hlast]
    by_cases hl : l = k
    · subst hl
      simp [setStanding]
    · simp [setStanding, hl, PerLane.get_set_of_ne _ _ hl]

section
variable {own l : Lane} {e : VoteEntry} {rs : List SlotResult} {s : State}

theorem mem_partnersOf : l ∈ partnersOf own e rs ↔ l ∈ presentVoters own e ∧ l ≠ own ∧ l ∉ minorityLanes rs := by
  simp [partnersOf]

theorem endFormation_of_forming (h : s.lane.state = .forming) :
    endFormation own e rs s = offerState (makeMembers (partnersOf own e rs) (enterMember s)) := by
  rw [endFormation, if_pos h]

theorem endFormation_of_not_forming (h : s.lane.state ≠ .forming) : endFormation own e rs s = s := by
  rw [endFormation, if_neg h]

/-- The end of a formation: self and the partners are MEMBER, and HOLD is released (R114). -/
theorem endFormation_members (h : s.lane.state = .forming) : (endFormation own e rs s).lane.state = .member ∧
    (endFormation own e rs s).lines.hold = false ∧
    ∀ l ∈ partnersOf own e rs, standing (endFormation own e rs s) l = .member := by
  rw [endFormation_of_forming h]
  refine ⟨by simp, by simp, fun l hl => ?_⟩
  rw [standing_congr (s := makeMembers (partnersOf own e rs) (enterMember s)) (by simp), makeMembers_standing, if_pos hl]

theorem endFormation_standing (hl : l ∉ partnersOf own e rs) (ho : l ≠ ownLane s) :
    standing (endFormation own e rs s) l = standing s l := by
  by_cases h : s.lane.state = .forming
  · rw [endFormation_of_forming h, standing_congr (s := makeMembers (partnersOf own e rs) (enterMember s)) (by simp),
      makeMembers_standing, if_neg hl]
    simp [standing, viewOf, enterMember_vote, PerLane.get_set_of_ne _ _ ho]
  · rw [endFormation_of_not_forming h]

theorem endFormation_counts (l : Lane) :
    PerLane.get (endFormation own e rs s).vote.lateCount l =
      (if s.lane.state = .forming ∧ l ∈ partnersOf own e rs then 0 else PerLane.get s.vote.lateCount l) ∧
      (endFormation own e rs s).vote.lastLate = s.vote.lastLate := by
  by_cases h : s.lane.state = .forming
  · obtain ⟨hcount, hlast⟩ := makeMembers_counts (partnersOf own e rs) (enterMember s) l
    rw [endFormation_of_forming h]
    simp [hcount, hlast, h, enterMember_vote]
  · simp [endFormation_of_not_forming h, h]

end

/-! What a vote hands on (R107, R109, R114). -/

/-- In FORMING and MEMBER a vote isolates the lane, or may end a formation, or leaves all as it is. -/
theorem handOnVote_cases {s : State} (hr : running s = true) (own : Lane) (g : Option Word) (e : VoteEntry)
    (rs : List SlotResult) : (∃ c, handOnVote own g e rs s = isolate c none s) ∨
      handOnVote own g e rs s = endFormation own e rs s ∨ handOnVote own g e rs s = s := by
  simp only [handOnVote, leave_of_running hr]
  split
  · exact .inl ⟨_, rfl⟩
  split
  · exact .inl ⟨_, rfl⟩
  split
  · exact .inr (.inl rfl)
  split
  · exact .inl ⟨_, rfl⟩
  · exact .inr (.inr rfl)

section
variable {s : State} {own l : Lane} {g : Option Word} {e : VoteEntry} {rs : List SlotResult} (hr : running s = true)
include hr

/-- A peer that is no partner stays EXCLUDED, and stands as before while nobody is served. -/
theorem handOnVote_standing (hl : l ∉ partnersOf own e rs) (ho : l ≠ ownLane s) :
    (standing s l = .excluded → standing (handOnVote own g e rs s) l = .excluded) ∧
      (s.copy.serving = none → standing (handOnVote own g e rs s) l = standing s l) := by
  obtain ⟨c, h⟩ | h | h := handOnVote_cases hr own g e rs <;> rw [h]
  · exact ⟨isolate_keepsExcluded c none s l, fun hs => standing_isolate_of_ne hs ho⟩
  · rw [endFormation_standing hl ho]
    exact ⟨id, fun _ => rfl⟩
  · exact ⟨id, fun _ => rfl⟩

/-- Only a partner's late count may change, to 0. -/
theorem handOnVote_counts (l : Lane) : (PerLane.get (handOnVote own g e rs s).vote.lateCount l = PerLane.get s.vote.lateCount l ∨
      l ∈ partnersOf own e rs ∧ PerLane.get (handOnVote own g e rs s).vote.lateCount l = 0) ∧
    (handOnVote own g e rs s).vote.lastLate = s.vote.lastLate := by
  obtain ⟨c, h⟩ | h | h := handOnVote_cases hr own g e rs <;> rw [h]
  · rw [isolate_vote]
    exact ⟨.inl rfl, rfl⟩
  · obtain ⟨hcount, hlast⟩ := endFormation_counts (own := own) (e := e) (rs := rs) (s := s) l
    refine ⟨?_, hlast⟩
    rw [hcount]
    split
    case isTrue hpartner => exact .inr ⟨hpartner.2, rfl⟩
    case isFalse => exact .inl rfl
  · exact ⟨.inl rfl, rfl⟩

end

/-- The lane is isolated with a cause, and HOLD asserted. -/
def IsolatedWith (c : Cause) (t : State) : Prop :=
  t.lane.state = .isolated ∧ t.lane.retainedCause = some c ∧ t.lines.hold = true

theorem isolate_isolatedWith (c : Cause) (n : Option Nat) (s : State) : IsolatedWith c (isolate c n s) :=
  ⟨(isolate_state c n s).1, (isolate_ends c n s).1, (isolate_state c n s).2⟩

/-! The vote of an entry in FORMING and MEMBER. -/

section
variable {s : State} {e : VoteEntry} (hr : running s = true)
include hr

theorem countedVote_running : running (countedVote e s) = true := by
  obtain ⟨-, hstate, -⟩ := countedVote_frame e s
  rwa [running_congr hstate]

/-- The last late cycles after a vote (R108). -/
theorem castVote_lastLate : (castVote e s).vote.lastLate = lastLateAfter (ownLane s) e s.vote.lastLate := by
  obtain ⟨-, hlast⟩ := countedVote_counts e s
  rw [castVote_handsOn, (handOnVote_counts (countedVote_running hr) .zero).2, hlast]

/-- The late counts after a vote; a formation partner was present, so its count is 0 already (R108, R114). -/
theorem castVote_lateCount (l : Lane) : PerLane.get (castVote e s).vote.lateCount l =
    PerLane.get (lateCountsAfter (ownLane s) e s.vote.lateCount) l := by
  obtain ⟨hlate, -⟩ := countedVote_counts e s
  obtain ⟨hcount | ⟨hpartner, hzero⟩, -⟩ := handOnVote_counts (own := ownLane s) (g := s.vote.grace) (e := e)
    (rs := slotResults (ownLane s) e) (countedVote_running (e := e) hr) l
  · rw [castVote_handsOn, hcount, hlate]
  · obtain ⟨hpresent, hown, -⟩ := mem_partnersOf.1 hpartner
    rw [castVote_handsOn, hzero, get_lateCountsAfter, if_pos ⟨hpresent, hown⟩]

/-- A peer that the vote excludes is EXCLUDED after it, unless it is a formation partner. -/
theorem castVote_excludes {l : Lane} {c : Cause} (h : reasonOut e s l = some c) (ho : l ≠ ownLane s)
    (hl : l ∉ partnersOf (ownLane s) e (slotResults (ownLane s) e)) : standing (castVote e s) l = .excluded := by
  have ho' : l ≠ ownLane (countedVote e s) := by rwa [ownLane_countedVote]
  rw [castVote_handsOn]
  exact (handOnVote_standing (countedVote_running hr) hl ho').1 (countedVote_standing_of_some h)

/-- A late voter below the threshold stands as before while nobody is served. -/
theorem castVote_standing {l : Lane} (h : reasonOut e s l = none) (ho : l ≠ ownLane s)
    (hl : l ∉ partnersOf (ownLane s) e (slotResults (ownLane s) e)) (hs : s.copy.serving = none) :
    standing (castVote e s) l = standing s l := by
  obtain ⟨-, -, -, hserving⟩ := countedVote_frame e s
  have ho' : l ≠ ownLane (countedVote e s) := by rwa [ownLane_countedVote]
  rw [castVote_handsOn, (handOnVote_standing (countedVote_running hr) hl ho').2 (by rwa [hserving]),
    countedVote_standing_of_none h]

/-- A slot without a majority isolates the lane and excludes every present peer (R107). -/
theorem castVote_of_noMajority (h : lacksMajority (slotResults (ownLane s) e) = true) :
    IsolatedWith .noMajority (castVote e s) ∧
      ∀ l, l ≠ ownLane s → l ∈ presentVoters (ownLane s) e → standing (castVote e s) l = .excluded := by
  have hcast : castVote e s = isolate .noMajority none (countedVote e s) := by
    rw [castVote_handsOn, handOnVote, if_pos h, leave_of_running (countedVote_running hr)]
  rw [hcast]
  exact ⟨isolate_isolatedWith .., fun l ho hp => isolate_keepsExcluded _ _ _ l
    (countedVote_standing_of_some (reasonOut_of_noMajority ho hp h))⟩

/-- A lane in the minority isolates (R107). -/
theorem castVote_of_minority (h : lacksMajority (slotResults (ownLane s) e) = false)
    (hm : ownLane s ∈ minorityLanes (slotResults (ownLane s) e)) : IsolatedWith .minority (castVote e s) := by
  have hcast : castVote e s = isolate .minority none (countedVote e s) := by
    rw [castVote_handsOn, handOnVote, if_neg (by simp [h]), if_pos (by simpa using hm),
      leave_of_running (countedVote_running hr)]
  rw [hcast]
  exact isolate_isolatedWith ..

/-- What is handed on when the lane itself is found good. -/
theorem castVote_of_good (h : lacksMajority (slotResults (ownLane s) e) = false)
    (hm : ownLane s ∉ minorityLanes (slotResults (ownLane s) e)) : castVote e s =
      if e.forming then endFormation (ownLane s) e (slotResults (ownLane s) e) (countedVote e s)
      else if notSeen (ownLane s) s.vote.grace e then isolate .notSeen none (countedVote e s) else countedVote e s := by
  rw [castVote_handsOn, handOnVote, if_neg (by simp [h]), if_neg (by simpa using hm),
    leave_of_running (countedVote_running hr)]

/-- The end of a formation, the standing check, or nothing more (R109, R114). -/
theorem castVote_of_good_cases (h : lacksMajority (slotResults (ownLane s) e) = false)
    (hm : ownLane s ∉ minorityLanes (slotResults (ownLane s) e)) :
    (e.forming = true → s.lane.state = .forming → (castVote e s).lane.state = .member ∧ (castVote e s).lines.hold = false ∧
      ∀ l, l ≠ ownLane s → l ∈ presentVoters (ownLane s) e → l ∉ minorityLanes (slotResults (ownLane s) e) →
        standing (castVote e s) l = .member) ∧
    (e.forming = false → notSeen (ownLane s) s.vote.grace e = true → IsolatedWith .notSeen (castVote e s)) ∧
    (e.forming = false → notSeen (ownLane s) s.vote.grace e = false →
      (castVote e s).lane.state = s.lane.state ∧ (castVote e s).lines.hold = s.lines.hold) := by
  obtain ⟨-, hstate, hlines, -⟩ := countedVote_frame e s
  rw [castVote_of_good hr h hm]
  refine ⟨fun he hf => ?formed, fun he hn => ?unseen, fun he hn => ?seen⟩
  case formed =>
    obtain ⟨hmember, hhold, hpartners⟩ := endFormation_members (own := ownLane s) (e := e)
      (rs := slotResults (ownLane s) e) (hstate.trans hf)
    rw [if_pos he]
    exact ⟨hmember, hhold, fun l ho hp hl => hpartners l (mem_partnersOf.2 ⟨hp, ho, hl⟩)⟩
  case unseen =>
    rw [if_neg (by simp [he]), if_pos hn]
    exact isolate_isolatedWith ..
  case seen =>
    rw [if_neg (by simp [he]), if_neg (by simp [hn]), hstate, hlines]
    exact ⟨rfl, rfl⟩

/-- What a vote makes of a late voter (R108). -/
theorem castVote_late {l : Lane} (hl : l ∈ lateVoters (ownLane s) e) :
    PerLane.get (castVote e s).vote.lateCount l =
        (if PerLane.get s.vote.lateCount l < 7 then PerLane.get s.vote.lateCount l + 1 else 7) ∧
      PerLane.get (castVote e s).vote.lastLate l = some e.cycle ∧
      (l ≠ ownLane s → (settings s).lateThreshold ≤ PerLane.get (castVote e s).vote.lateCount l →
        standing (castVote e s) l = .excluded) ∧
      (l ≠ ownLane s → PerLane.get (castVote e s).vote.lateCount l < (settings s).lateThreshold →
        s.copy.serving = none → standing (castVote e s) l = standing s l) := by
  have hpresent : l ∉ presentVoters (ownLane s) e := not_present_of_late hl
  have hpartner : l ∉ partnersOf (ownLane s) e (slotResults (ownLane s) e) := fun h => hpresent (mem_partnersOf.1 h).1
  refine ⟨?_, ?_, fun ho hn => ?_, fun ho hn hs => ?_⟩
  · rw [castVote_lateCount hr, get_lateCountsAfter, if_neg (fun h => hpresent h.1), if_pos hl]
    rfl
  · rw [castVote_lastLate hr, get_lastLateAfter, if_pos hl]
  · rw [castVote_lateCount hr] at hn
    exact castVote_excludes hr ((reasonOut_of_late ho hl).trans (if_pos hn)) ho hpartner
  · rw [castVote_lateCount hr] at hn
    exact castVote_standing hr ((reasonOut_of_late ho hl).trans (if_neg (Nat.not_le.2 hn))) ho hpartner hs

theorem castVote_present {l : Lane} (hl : l ∈ presentVoters (ownLane s) e) :
    PerLane.get (castVote e s).vote.lastLate l = PerLane.get s.vote.lastLate l ∧
      (l ≠ ownLane s → PerLane.get (castVote e s).vote.lateCount l = 0) := by
  have hlate : l ∉ lateVoters (ownLane s) e := fun h => not_present_of_late h hl
  refine ⟨?_, fun ho => ?_⟩
  · rw [castVote_lastLate hr, get_lastLateAfter, if_neg hlate]
  · rw [castVote_lateCount hr, get_lateCountsAfter, if_pos ⟨hl, ho⟩]

/-- A lane that does not vote keeps its counts. -/
theorem castVote_other {l : Lane} (hlate : l ∉ lateVoters (ownLane s) e) (hp : l ∉ presentVoters (ownLane s) e) :
    PerLane.get (castVote e s).vote.lateCount l = PerLane.get s.vote.lateCount l ∧
      PerLane.get (castVote e s).vote.lastLate l = PerLane.get s.vote.lastLate l := by
  refine ⟨?_, ?_⟩
  · rw [castVote_lateCount hr, get_lateCountsAfter, if_neg (fun h => hp h.1), if_neg hlate]
  · rw [castVote_lastLate hr, get_lastLateAfter, if_neg hlate]

end

theorem exec_voteWindowExpiry {s : State} {e : VoteEntry} (hw : s.vote.window.isSome = true) (h : windowEntry s = some e) :
    exec .voteWindowExpiry s = .next (settle (castVote e s)) := by
  obtain ⟨n, hn⟩ := Option.isSome_iff_exists.1 hw
  simp [exec, execVoteWindowExpiry, hn, h, done]

/-- Settles O32: what is compared, then the counts and the outcomes in their order. -/
theorem windowExpiryVotesTheEntry : Obligations.WindowExpiryVotesTheEntry := by
  refine ⟨fun own e => ⟨fun l => ⟨mem_presentVoters, mem_lateVoters, rfl⟩, slotResults_length own e,
    fun j r hr => ⟨slotResult_of_three hr, fun l m => slotResult_of_two hr, fun l => slotResult_of_one hr⟩,
    fun rs => ⟨lacksMajority_iff, fun l => mem_minorityLanes⟩, fun grace => notSeen_iff⟩, fun s e hr hw he => ?_⟩
  obtain ⟨hwindow, htable⟩ := castVote_removes e s
  refine ⟨castVote e s, exec_voteWindowExpiry hw he, hwindow, htable, by simp, by simp, by simp, by simp, by simp,
    fun l => castVote_late hr, fun l => castVote_present hr, fun l => castVote_other hr, fun h => ?lacking, fun h => ?found⟩
  case lacking =>
    obtain ⟨⟨hstate, hcause, hhold⟩, hpeers⟩ := castVote_of_noMajority hr h
    exact ⟨hstate, hcause, hhold, hpeers⟩
  case found =>
    refine ⟨fun l ho hm hp => ?_, castVote_of_minority hr h, castVote_of_good_cases hr h⟩
    exact castVote_excludes hr (reasonOut_of_minority ho hp h hm) ho fun hl => (mem_partnersOf.1 hl).2.2 hm

end Sys2Proof.Machine
end

section
/-! HOLD and the lane states (R116 to R118, R121, R122, R127, R128, R155, R161): the changes that may follow one another in
one step, and those that bring a lane from one state to the next on their own. -/

namespace Sys2Proof.Machine

/-! Changes that may follow one another: a cause taken, a formation or an attempt ended. -/

/-- The lane state stays, or a lane that runs or joins is isolated (R122, R128), or a formation or an attempt ends in MEMBER
(R114, R127). -/
inductive GoesOn : LaneState → LaneState → Prop
  | stays (x : LaneState) : GoesOn x x
  | isolated {x : LaneState} (h : x = .forming ∨ x = .member ∨ x = .joining) : GoesOn x .isolated
  | member {x : LaneState} (h : x = .forming ∨ x = .joining) : GoesOn x .member

theorem GoesOn.trans {x y z : LaneState} (h : GoesOn x y) (g : GoesOn y z) : GoesOn x z := by
  cases h with
  | stays => exact g
  | isolated h =>
    cases g with
    | stays => exact .isolated h
    | isolated => exact .isolated h
    | member g => simp at g
  | member h =>
    cases g with
    | stays => exact .member h
    | isolated => exact .isolated (h.imp id .inr)
    | member g => simp at g

theorem GoesOn.allowed {x y : LaneState} (h : GoesOn x y) : allowedChange x y = true := by
  cases h with
  | stays => cases x <;> rfl
  | isolated h => rcases h with rfl | rfl | rfl <;> rfl
  | member h => rcases h with rfl | rfl <;> rfl

/-- Nothing goes on into STARTING or FORMING. -/
theorem GoesOn.eq_of_early {x y : LaneState} (h : GoesOn x y) (hy : y = .starting ∨ y = .forming) : y = x := by
  cases h with
  | stays => rfl
  | isolated => simp at hy
  | member => simp at hy

theorem GoesOn.starting {y : LaneState} (h : GoesOn .starting y) : y = .starting := by
  cases h with
  | stays => rfl
  | isolated h => simp at h
  | member h => simp at h

/-- A change in which the lane state goes on, HOLD follows it, and no image read, clear pass or formation window begins. -/
structure LaneGoesOn (s t : State) : Prop where
  state : GoesOn s.lane.state t.lane.state
  reading : t.loader.reading = s.loader.reading
  pass : ∀ x, t.clear.pass = some x → ∃ y, s.clear.pass = some y ∧ y.joiner = x.joiner
  formation : t.lane.formation.isSome = true → s.lane.formation.isSome = true
  hold : HoldLaw s → HoldLaw t

theorem HoldLaw.congr {s t : State} (h : HoldLaw s) (hh : t.lines.hold = s.lines.hold)
    (hs : t.lane.state = s.lane.state) : HoldLaw t := by
  rw [HoldLaw, hh, running_congr hs]
  exact h

theorem holdLaw_of_held {s : State} (hh : s.lines.hold = true) (hs : running s = false) : HoldLaw s := by
  rw [HoldLaw, hh, hs]
  rfl

theorem holdLaw_of_released {s : State} (hh : s.lines.hold = false) (hs : running s = true) : HoldLaw s := by
  rw [HoldLaw, hh, hs]
  rfl

namespace LaneGoesOn

variable {s t u : State}

/-- A change of other fields. -/
theorem of_frame (g : t.lane.state = s.lane.state ∧ t.lane.formation = s.lane.formation ∧ t.loader = s.loader ∧
    t.clear.pass = s.clear.pass ∧ t.lines.hold = s.lines.hold) : LaneGoesOn s t := by
  obtain ⟨hstate, hformation, hloader, hpass, hhold⟩ := g
  exact ⟨hstate ▸ .stays _, by rw [hloader], fun x hx => ⟨x, hpass ▸ hx, rfl⟩, by rw [hformation]; exact id,
    fun h => h.congr hhold hstate⟩

theorem refl (s : State) : LaneGoesOn s s := .of_frame ⟨rfl, rfl, rfl, rfl, rfl⟩

theorem trans (h : LaneGoesOn s t) (g : LaneGoesOn t u) : LaneGoesOn s u := by
  refine ⟨h.state.trans g.state, g.reading.trans h.reading, fun x hx => ?_, h.formation ∘ g.formation, g.hold ∘ h.hold⟩
  obtain ⟨y, hy, hyx⟩ := g.pass x hx
  obtain ⟨z, hz, hzy⟩ := h.pass y hy
  exact ⟨z, hz, hzy.trans hyx⟩

theorem frame (h : LaneGoesOn s t) (g : u.lane.state = t.lane.state ∧ u.lane.formation = t.lane.formation ∧
    u.loader = t.loader ∧ u.clear.pass = t.clear.pass ∧ u.lines.hold = t.lines.hold) : LaneGoesOn s u :=
  h.trans (.of_frame g)

/-- The image read, the clear pass and the formation window stay in STARTING, which nothing goes on from. -/
theorem startLaw (h : LaneGoesOn s t) (hs : StartLaw s) : StartLaw t := by
  obtain ⟨hread, hclear, hwindow⟩ := hs
  have hstays (he : s.lane.state = .starting) : t.lane.state = .starting := (he ▸ h.state).starting
  have hclosed (he : s.lane.formation = none) : t.lane.formation = none := by
    cases hf : t.lane.formation with
    | none => rfl
    | some n => simpa [he] using h.formation (by simp [hf])
  refine ⟨fun hr => ?_, fun x hx hj => ?_, fun hf => hstays (hwindow (h.formation hf))⟩
  · obtain ⟨hstate, hpass, hformation⟩ := hread (h.reading ▸ hr)
    refine ⟨hstays hstate, ?_, hclosed hformation⟩
    cases hp : t.clear.pass with
    | none => rfl
    | some x =>
      obtain ⟨y, hy, -⟩ := h.pass x hp
      simp [hpass] at hy
  · obtain ⟨y, hy, hyx⟩ := h.pass x hx
    obtain ⟨hstate, hformation⟩ := hclear y hy (hyx.trans hj)
    exact ⟨hstays hstate, hclosed hformation⟩

end LaneGoesOn

/-! Lane control (R122, R123, R128, R132, R137, R138, R148). -/

theorem isolate_formation (c : Cause) (n : Option Nat) (s : State) : (isolate c n s).lane.formation = none := by
  rw [isolate_lane]

theorem leave_goesOn (c : Cause) (n : Option Nat) (s : State) : LaneGoesOn s (leave c n s) := by
  cases hr : running s with
  | false => rw [leave_of_not_running hr]; exact .refl s
  | true =>
    have hstate : s.lane.state = .forming ∨ s.lane.state = .member := by simpa [running] using hr
    have hisolated := (isolate_state c n s).1
    rw [leave_of_running hr]
    refine ⟨?_, by simp, fun x hx => ⟨x, by simpa using hx, rfl⟩, by simp [isolate_formation],
      fun _ => holdLaw_of_held (by simp) (by simp [running])⟩
    rw [hisolated]
    exact .isolated (hstate.imp id .inl)

theorem endServing_goesOn (o : Cause) (a : Option Cause) (n : Option Nat) (s : State) :
    LaneGoesOn s (endServing o a n s) := .of_frame (by simp)

theorem failAttempt_goesOn (c : Cause) (b : Bool) (d : Option Cause) (s : State) :
    LaneGoesOn s (failAttempt c b d s) := by
  by_cases hj : s.lane.state = .joining
  case neg => rw [failAttempt, if_neg hj]; exact .refl s
  case pos =>
    have hstate : (failAttempt c b d s).lane.state = .isolated := by rw [failAttempt_state, if_pos hj]
    have hhold : (failAttempt c b d s).lines = s.lines := by simp
    refine ⟨?_, by simp, fun x hx => ⟨x, by simpa using hx, rfl⟩, ?_, fun h => ?_⟩
    · rw [hstate]
      exact .isolated (.inr (.inr hj))
    · simp [failAttempt, hj]
    · refine holdLaw_of_held ?_ (by simp [running, hstate])
      rw [hhold, h, running, hj]
      rfl

theorem askOther_goesOn (b : Bool) (s : State) : LaneGoesOn s (askOther b s) := by
  unfold askOther
  split
  · exact .of_frame (by simp)
  · exact failAttempt_goesOn ..

theorem enterMember_goesOn {s : State} (h : s.lane.state = .forming ∨ s.lane.state = .joining) :
    LaneGoesOn s (enterMember s) := by
  have hstate := (enterMember_state s).1
  refine ⟨?_, by simp, fun x hx => ⟨x, by simpa using hx, rfl⟩, by simp [enterMember, releaseHold],
    fun _ => holdLaw_of_released (by simp) (by simp [running])⟩
  rw [hstate]
  exact .member h

theorem admission_goesOn (x : Snapshot) {s : State} (h : s.lane.state = .joining) : LaneGoesOn s (admission x s) := by
  have hready : LaneGoesOn s (dropFoundCause (takeSnapshot x (offerAdmitted x s))) := .of_frame (by simp [takeSnapshot])
  rw [admission_eq]
  exact (hready.trans (enterMember_goesOn (.inr (by simpa [takeSnapshot] using h)))).frame (by simp)

/-! The vote (R105 to R109, R114). -/

theorem endFormation_goesOn (own : Lane) (e : VoteEntry) (rs : List SlotResult) (s : State) :
    LaneGoesOn s (endFormation own e rs s) := by
  unfold endFormation
  split
  case isTrue h => exact (enterMember_goesOn (.inl h)).frame (by simp)
  case isFalse => exact .refl s

theorem handOnVote_goesOn (own : Lane) (g : Option Word) (e : VoteEntry) (rs : List SlotResult) (s : State) :
    LaneGoesOn s (handOnVote own g e rs s) := by
  unfold handOnVote
  split
  · exact leave_goesOn ..
  split
  · exact leave_goesOn ..
  split
  · exact endFormation_goesOn ..
  split
  · exact leave_goesOn ..
  · exact .refl s

theorem castVote_goesOn (e : VoteEntry) (s : State) : LaneGoesOn s (castVote e s) := by
  unfold castVote
  extract_lets own rs counts out vote s1 s2 clean s3 s4
  have h4 : LaneGoesOn s s4 := by
    unfold s4 s3
    split <;> exact .of_frame (by simp [s2, s1])
  exact h4.trans (handOnVote_goesOn ..)

theorem voteIfComplete_goesOn (s : State) : LaneGoesOn s (voteIfComplete s) := by
  unfold voteIfComplete
  split
  · exact castVote_goesOn ..
  · exact .refl s

theorem LaneGoesOn.then_vote {s t : State} (h : LaneGoesOn s t) : LaneGoesOn s (voteIfComplete t) :=
  h.trans (voteIfComplete_goesOn t)

/-! The own mark (R100). -/

theorem voteOrWait_goesOn (s : State) : LaneGoesOn s (voteOrWait s) := by
  unfold voteOrWait
  split
  · split
    · exact castVote_goesOn ..
    · exact .of_frame ⟨rfl, rfl, rfl, rfl, rfl⟩
  · exact .refl s

theorem completeMark_goesOn (s : State) : LaneGoesOn s (completeMark s) := by
  have hsigned : LaneGoesOn s (signed s) := .of_frame (by simp [signed, sendSignature, markEntry])
  rw [completeMark_eq]
  refine (hsigned.trans (voteOrWait_goesOn (signed s))).frame ?_
  unfold restartSupervision
  split <;> simp

theorem takeMark_goesOn (s : State) : LaneGoesOn s (takeMark s) := by
  have hraised : LaneGoesOn s (raiseCounter s) := .of_frame ⟨rfl, rfl, rfl, rfl, rfl⟩
  have hclosed : LaneGoesOn s (closeEarlier (raiseCounter s)) := by
    unfold closeEarlier
    split
    · exact hraised.trans (castVote_goesOn ..)
    · exact hraised
  unfold takeMark
  extract_lets u
  split
  · exact hclosed.trans (completeMark_goesOn u)
  · exact hclosed

/-! The ends of bursts but for the clear pass of STARTING, and the timers of the copy engine (R41, R132, R136, R146). -/

theorem copyClassAction_goesOn (b : Nat) (s : State) : LaneGoesOn s (copyClassAction b s) := by
  unfold copyClassAction
  split
  · exact leave_goesOn ..
  · split
    · exact .of_frame (by simp)
    · exact .refl s

theorem endWork_goesOn (e : AtEnd) (s : State) : LaneGoesOn s (endWork e s) := by
  cases e with
  | nothing => exact .refl s
  | leave c n => exact leave_goesOn ..
  | failAttempt c => exact failAttempt_goesOn ..
  | sendBlock p attempt b words => exact .of_frame (by simp [endWork])
  | damaged p b live =>
    cases live with
    | true =>
      have hfree : LaneGoesOn s (freeSlot p s) := .of_frame (by simp)
      exact (hfree.trans (endServing_goesOn ..)).trans (copyClassAction_goesOn b _)
    | false => exact copyClassAction_goesOn b s
  | sendFetched p b words => exact .of_frame (by simp [endWork])
  | refuseFetched p b =>
    have hrefuse : LaneGoesOn s (offerControl p (.refuse (.fetch b) .damaged) (freeSlot p s)) := .of_frame (by simp)
    exact hrefuse.trans (copyClassAction_goesOn b _)

theorem giveUpServing_goesOn (c : Cause) (s : State) : LaneGoesOn s (giveUpServing c s) :=
  (endServing_goesOn ..).then_vote

theorem silentInRequest_goesOn (s : State) : LaneGoesOn s (silentInRequest s) := by
  unfold silentInRequest
  split
  · exact .trans (.of_frame (by simp)) (askOther_goesOn ..)
  · exact askOther_goesOn ..

theorem progressExpires_goesOn (s : State) : LaneGoesOn s (progressExpires s) := by
  unfold progressExpires
  split
  · exact silentInRequest_goesOn s
  · exact failAttempt_goesOn ..
  · exact failAttempt_goesOn ..
  · split
    · exact giveUpServing_goesOn ..
    · exact .refl s

theorem holdExpires_goesOn (s : State) : LaneGoesOn s (holdExpires s) := by
  unfold holdExpires
  split
  · unfold holdRunsOut
    extract_lets engine t
    have ht : LaneGoesOn s t := .of_frame ⟨rfl, rfl, rfl, rfl, rfl⟩
    split
    · exact ht.trans (giveUpServing_goesOn ..)
    · exact ht
  · exact giveUpServing_goesOn ..
  · exact .refl s

theorem verifyAdmit_goesOn (x : Snapshot) {s : State} (h : s.lane.state = .joining) : LaneGoesOn s (verifyAdmit x s) := by
  unfold verifyAdmit
  split
  · exact admission_goesOn x h
  · unfold mismatchFound
    split
    · exact .trans (.of_frame (by simp)) (failAttempt_goesOn ..)
    · exact failAttempt_goesOn ..

/-! The deliveries, but for discovery (R102, R112, R132, R138 to R141, R147, R148). -/

theorem excludeByState_goesOn (l : Lane) (x : LaneState) (w : Word) (s : State) :
    LaneGoesOn s (excludeByState l x w s) := .of_frame (by simp)

theorem noticeArrives_goesOn (l : Lane) (w : Word) (s : State) : LaneGoesOn s (noticeArrives l w s) := by
  unfold noticeArrives
  split
  · exact .refl s
  · exact LaneGoesOn.then_vote (.of_frame (by simp))

theorem acceptJoin_goesOn (p : PortId) (l : Lane) (n : Nat) (s : State) : LaneGoesOn s (acceptJoin p l n s) := by
  rw [acceptJoin_eq]
  exact LaneGoesOn.then_vote (.of_frame (by simp [joinAccepted, beginServing]))

theorem joinArrives_goesOn (p : PortId) (l : Lane) (n : Nat) (x : Pair) (s : State) :
    LaneGoesOn s (joinArrives p l n x s) := by
  unfold joinArrives
  split
  · exact .of_frame (by simp)
  · exact (endServing_goesOn ..).trans (acceptJoin_goesOn ..)
  · exact acceptJoin_goesOn ..

theorem refuseArrives_goesOn (l : Lane) (x : RefuseSubject) (r : RefuseReason) (s : State) :
    LaneGoesOn s (refuseArrives l x r s) := by
  unfold refuseArrives
  split
  · split
    · exact askOther_goesOn ..
    · exact .refl s
  · split
    · split
      · exact .of_frame (by simp)
      · exact .refl s
    · exact .refl s

theorem admittedArrives_goesOn (l : Lane) (n : Nat) (w : Word) (s : State) :
    LaneGoesOn s (admittedArrives l n w s) := by
  unfold admittedArrives
  split
  · exact LaneGoesOn.then_vote (.of_frame (by simp))
  · exact .refl s

theorem mismatchArrives_goesOn (l : Lane) (n k : Nat) (s : State) : LaneGoesOn s (mismatchArrives l n k s) := by
  unfold mismatchArrives
  split
  · exact (endServing_goesOn ..).then_vote
  · exact .refl s

theorem abandonArrives_goesOn (l : Lane) (n : Nat) (c : Cause) (s : State) :
    LaneGoesOn s (abandonArrives l n c s) := by
  unfold abandonArrives
  split
  · split
    · exact failAttempt_goesOn ..
    · exact .refl s
  · split
    · exact leave_goesOn ..
    · split
      · exact (endServing_goesOn ..).then_vote
      · exact .refl s
  · exact .refl s

end Sys2Proof.Machine
end

section
/-! The laws of HOLD and of STARTING through every step, and the changes of lane state (R116 to R118, R121, R122, R127, R128,
R155, R161). -/

namespace Sys2Proof.Machine

section
variable {s t u : State}

/-- A change that keeps both laws and takes the lane state along one transition at most. -/
def LaneStep (s t : State) : Prop :=
  HoldLaw s → StartLaw s → HoldLaw t ∧ StartLaw t ∧ allowedChange s.lane.state t.lane.state = true

theorem LaneGoesOn.step (h : LaneGoesOn s t) : LaneStep s t := fun hh hs => ⟨h.hold hh, h.startLaw hs, h.state.allowed⟩

/-- A step from a state that the changes before it have left STARTING or FORMING is one from the state before them. -/
theorem LaneGoesOn.then_early (h : LaneGoesOn s t) (g : LaneStep t u)
    (he : StartLaw t → t.lane.state = .starting ∨ t.lane.state = .forming) : LaneStep s u := fun hh hs => by
  have hst := h.startLaw hs
  rw [← h.state.eq_of_early (he hst)]
  exact g (h.hold hh) hst

theorem LaneStep.then_step (h : LaneStep s t) (g : LaneStep t u) (he : t.lane.state = s.lane.state) : LaneStep s u :=
  fun hh hs => by
    obtain ⟨hht, hst, -⟩ := h hh hs
    rw [← he]
    exact g hht hst

theorem LaneStep.then_keep (h : LaneStep s t) (g : LaneGoesOn t u) (he : u.lane.state = t.lane.state) : LaneStep s u :=
  fun hh hs => by
    obtain ⟨hht, hst, hchange⟩ := h hh hs
    rw [he]
    exact ⟨g.hold hht, g.startLaw hst, hchange⟩

/-! What follows the image read and the clear pass of STARTING. -/

/-- The image is read and the clear pass of STARTING is over. -/
def Loaded (s : State) : Prop := s.loader.reading = false ∧ ∀ x, s.clear.pass = some x → x.joiner = true

theorem StartLaw.loaded (h : StartLaw s) (ho : s.lane.state ≠ .starting ∨ s.lane.formation.isSome = true) : Loaded s := by
  obtain ⟨hread, hclear, -⟩ := h
  refine ⟨?_, fun x hx => ?_⟩
  · cases hr : s.loader.reading with
    | false => rfl
    | true => obtain ⟨hstate, -, hformation⟩ := hread hr; simp [hstate, hformation] at ho
  · cases hj : x.joiner with
    | true => rfl
    | false => obtain ⟨hstate, hformation⟩ := hclear x hx hj; simp [hstate, hformation] at ho

theorem Loaded.startLaw (h : Loaded s) (hf : s.lane.formation.isSome = true → s.lane.state = .starting) : StartLaw s := by
  obtain ⟨hread, hpass⟩ := h
  exact ⟨by simp [hread], fun x hx hj => by simp [hpass x hx] at hj, hf⟩

theorem endJoinerClear_pass (s : State) : (endJoinerClear s).clear.pass = none := by
  simp only [endJoinerClear]
  split <;> simp [startPatrol]

theorem discovers_iff : discovers s = true ↔
    s.lane.state = .starting ∧ s.lane.formation.isSome = true ∨ s.lane.state = .forming := by simp [discovers]

/-- A joiner's clear is the only pass that an attempt leaves (R131). -/
theorem startAttempt_pass (s : State) : ∀ x, (startAttempt s).clear.pass = some x → x.joiner = true := by
  intro x hx
  obtain ⟨-, -, -, -, -, -, hpass⟩ := prepareAttempt_spec s
  obtain ⟨h, -⟩ | ⟨h, -⟩ := startAttempt_cases s <;> rw [h] at hx
  · rw [hpass] at hx
    cases hx
    rfl
  · simp [endJoinerClear_pass] at hx

theorem enterJoining_loaded {g : Trigger} (h : s.loader.reading = false) : Loaded (enterJoining g s) :=
  ⟨by simpa using h, fun x hx => startAttempt_pass _ x (by simpa [enterJoining] using hx)⟩

/-- The lane enters JOINING from the window of STARTING, from FORMING, and from ISOLATED (R127). -/
theorem enterJoining_step {g : Trigger} (h : discovers s = true ∨ s.lane.state = .isolated) :
    LaneStep s (enterJoining g s) := fun _ hs => by
  have hstate : s.lane.state = .starting ∧ s.lane.formation.isSome = true ∨ s.lane.state = .forming ∨
      s.lane.state = .isolated := by rwa [discovers_iff, or_assoc] at h
  have hloaded : Loaded s := hs.loaded (by rcases hstate with h | h | h <;> simp [h])
  refine ⟨holdLaw_of_held (by simp) (by simp [running]),
    (enterJoining_loaded hloaded.1).startLaw (by simp [enterJoining_heard]), ?_⟩
  rw [(enterJoining_state g s).1]
  rcases hstate with ⟨h, -⟩ | h | h <;> rw [h] <;> rfl

/-- The lane is isolated from the window of STARTING and from FORMING (R121, R126). -/
theorem isolate_step {c : Cause} {n : Option Nat} (h : discovers s = true) : LaneStep s (isolate c n s) := fun _ hs => by
  have hstate := discovers_iff.1 h
  have hloaded : Loaded s := hs.loaded (by rcases hstate with h | h <;> simp [h])
  have hisolated : Loaded (isolate c n s) := ⟨by simpa using hloaded.1, by simpa using hloaded.2⟩
  refine ⟨holdLaw_of_held (by simp) (by simp [running]), hisolated.startLaw (by simp [isolate_formation]), ?_⟩
  rw [(isolate_state c n s).1]
  rcases hstate with ⟨h, -⟩ | h <;> rw [h] <;> rfl

/-- A member peer heard (R121, R126). -/
theorem hearMember_step (h : discovers s = true) : LaneStep s (hearMember s) := by
  unfold hearMember
  split
  · exact isolate_step h
  · split
    · exact (leave_goesOn ..).step
    · exact enterJoining_step (.inl h)

theorem LaneGoesOn.then_discover (h : LaneGoesOn s t) (x : LaneState) (b : Bool) : LaneStep s (discover x b t) := by
  unfold discover
  split
  case isFalse => exact h.step
  case isTrue hd =>
    have hdiscovers : discovers t = true := Bool.and_elim_right hd
    exact h.then_early (hearMember_step hdiscovers) fun _ => (discovers_iff.1 hdiscovers).imp And.left id

/-! The end of a burst (R41, R131, R160). -/

/-- The clear pass of STARTING over, the formation window runs (R160, R161). -/
theorem startingCleared_step {next : Option Nat} (hp : s.clear.pass = some { next := next, joiner := false }) :
    LaneStep s (startingCleared s) := fun hh hs => by
  obtain ⟨hread, hclear, -⟩ := hs
  obtain ⟨hstate, -⟩ := hclear _ hp rfl
  have hloaded : Loaded (startingCleared s) := by
    refine ⟨?_, by simp⟩
    have hloader : (startingCleared s).loader = s.loader := by simp [startingCleared, writerStarted, writerReady, startWriter]
    rw [hloader]
    cases hr : s.loader.reading with
    | false => rfl
    | true => simp [hread hr] at hp
  have hlane := startingCleared_lane s
  refine ⟨hh.congr (by simp) (by simp [hlane]), hloaded.startLaw (by simp [hlane, hstate]), ?_⟩
  rw [hlane, hstate]
  rfl

theorem endStartingClear_step {next : Option Nat} (hp : s.clear.pass = some { next := next, joiner := false }) :
    LaneStep s (endStartingClear s) := fun hh hs => by
  obtain ⟨hstate, -⟩ := hs.2.1 _ hp rfl
  have hlane := startingCleared_lane s
  rw [endStartingClear_eq]
  split
  · have hdiscovers : discovers (startingCleared s) = true := by simp [discovers, hlane, hstate]
    exact (startingCleared_step hp).then_step (hearMember_step hdiscovers) (by simp [hlane]) hh hs
  · exact startingCleared_step hp hh hs

theorem LaneGoesOn.then_fillGoesOn (h : LaneGoesOn s t) : LaneStep s (fillGoesOn t) := by
  unfold fillGoesOn
  split
  case h_1 => exact (h.frame (by simp)).step
  case h_2 => exact (h.trans ⟨by simp [GoesOn.stays], by simp, by simp [endJoinerClear_pass], by simp,
    fun g => g.congr (by simp) (by simp)⟩).step
  case h_3 hp => exact h.then_early (endStartingClear_step hp) fun hs => .inl (hs.2.1 _ hp rfl).1
  case h_4 => exact h.step

theorem endBurst_step (b : Burst) (s : State) : LaneStep s (endBurst b s) := by
  unfold endBurst
  extract_lets s1 s2 s3 s4
  have h2 : LaneGoesOn s s2 := by
    unfold s2
    split <;> exact .of_frame (by simp [s1])
  have h3 : LaneGoesOn s s3 := (h2.trans (endWork_goesOn b.atEnd s2)).then_vote
  have h4 : LaneStep s s4 := by
    unfold s4
    split
    · exact h3.then_fillGoesOn
    · exact h3.step
  exact h4.then_keep (.of_frame (by simp)) (by simp)

/-! The image read and the formation window (R117, R155, R157, R158, R161). -/

theorem acceptImage_step (im : Image) (h : readsImage s = true) : LaneStep s (acceptImage im s) := fun hh hs => by
  have hreading : s.loader.reading = true := Bool.and_elim_left h
  obtain ⟨hstate, -, hformation⟩ := hs.1 hreading
  have hread : (acceptImage im s).loader.reading = false := by simp [acceptImage, loadTables]
  refine ⟨hh.congr (by simp) (by simp), ⟨by simp [hread], fun x _ _ => by simp [hstate, hformation], by simp [hformation]⟩, ?_⟩
  simp [hstate, allowedChange]

theorem enterFailed_step (h : readsImage s = true) : LaneStep s (enterFailed s) := fun hh hs => by
  have hreading : s.loader.reading = true := Bool.and_elim_left h
  obtain ⟨hstate, hpass, hformation⟩ := hs.1 hreading
  have hloaded : Loaded (enterFailed s) := ⟨rfl, by simp [hpass]⟩
  refine ⟨holdLaw_of_held ?_ (by simp [enterFailed, running]), hloaded.startLaw (by simp [enterFailed, hformation]), ?_⟩
  · have hhold : (enterFailed s).lines.hold = s.lines.hold := rfl
    rw [hhold, hh, running_of_starting hstate]
    rfl
  · rw [hstate]
    rfl

theorem enterForming_step (h : (decide (s.lane.state = .starting) && s.lane.formation.isSome) = true) :
    LaneStep s (enterForming s) := fun _ hs => by
  obtain ⟨hstate, hwindow⟩ : s.lane.state = .starting ∧ s.lane.formation.isSome = true := by simpa using h
  have hloaded : Loaded s := hs.loaded (.inr hwindow)
  have hforming : Loaded (enterForming s) := ⟨by simpa using hloaded.1, by simpa using hloaded.2⟩
  refine ⟨holdLaw_of_released (by simp) (by simp [running]), hforming.startLaw ?_, ?_⟩
  · rw [enterForming_eq]
    simp [formingLane]
  · rw [hstate, (enterForming_state s).1]
    rfl

/-! Every command and every step. -/

theorem signatureArrives_step (l : Lane) (c : Word) (f : PeerFrame) (h : LaneGoesOn s t) :
    LaneStep s (signatureArrives l c f t) := by
  unfold signatureArrives
  extract_lets t1 partner t2
  have h1 : LaneGoesOn s t1 := h.frame (by simp [t1])
  refine LaneGoesOn.then_discover ?_ f.state partner
  unfold t2
  split
  · exact ((h1.trans (excludeByState_goesOn l f.state c t1)).frame (by simp)).then_vote
  · exact h1

theorem stateArrives_step (l : Lane) (x : LaneState) (w : Word) (h : LaneGoesOn s t) :
    LaneStep s (stateArrives l x w t) := by
  have hheard : LaneGoesOn s (hear l x t) := h.frame (by simp)
  exact (hheard.trans (excludeByState_goesOn l x w _)).then_vote.then_discover x _

theorem effect_step {c : Instr} (he : Effect c s u) : LaneStep s u := by
  have harrive (p : PortId) (rest : List Frame) (l : Lane) : LaneGoesOn s (arrive p rest l s) := .of_frame (by simp)
  cases he with
  | imageAccepted hr => exact acceptImage_step _ hr
  | imageRefused hr => exact enterFailed_step hr
  | burstEnd => exact endBurst_step _ s
  | ownMark => exact (takeMark_goesOn s).step
  | voteWindowExpiry => exact (castVote_goesOn ..).step
  | cycleSupervisionExpiry => exact (leave_goesOn ..).step
  | formationWindowExpiry h => exact enterForming_step h
  | retryTimerExpiry h =>
    have hisolated : s.lane.state = .isolated := of_decide_eq_true (Bool.and_elim_left h)
    have hstopped : LaneGoesOn s { s with lane := { s.lane with retry := none } } := .of_frame ⟨rfl, rfl, rfl, rfl, rfl⟩
    unfold retryExpires
    split
    · exact (LaneGoesOn.of_frame ⟨rfl, rfl, rfl, rfl, rfl⟩).step
    · exact hstopped.step.then_step (enterJoining_step (.inr hisolated)) rfl
  | restoreEdge h =>
    have hisolated : s.lane.state = .isolated := of_decide_eq_true (Bool.and_elim_left h)
    have hreset : LaneGoesOn s { s with lane := { s.lane with attempts := 0, retry := none, retryDue := false } } :=
      .of_frame ⟨rfl, rfl, rfl, rfl, rfl⟩
    exact hreset.step.then_step (enterJoining_step (.inr hisolated)) rfl
  | supplyLowRetry _ h =>
    have hisolated : s.lane.state = .isolated := of_decide_eq_true (Bool.and_elim_left h)
    have hsupplied : LaneGoesOn s { s with
        lines := { s.lines with supplyLow := false }, lane := { s.lane with retryDue := false } } :=
      .of_frame ⟨rfl, rfl, rfl, rfl, rfl⟩
    exact hsupplied.step.then_step (enterJoining_step (.inr hisolated)) rfl
  | supplyLowActive =>
    have hlow : LaneGoesOn s { s with lines := { s.lines with supplyLow := true } } := .of_frame ⟨rfl, rfl, rfl, rfl, rfl⟩
    exact (hlow.trans (failAttempt_goesOn ..)).step
  | progressTimerExpiry =>
    have hstopped : LaneGoesOn s { s with copy := { s.copy with progress := none } } := .of_frame ⟨rfl, rfl, rfl, rfl, rfl⟩
    exact (hstopped.trans (progressExpires_goesOn _)).step
  | holdTimerExpiry =>
    have hstopped : LaneGoesOn s { s with copy := { s.copy with holdTimer := none } } := .of_frame ⟨rfl, rfl, rfl, rfl, rfl⟩
    exact (hstopped.trans (holdExpires_goesOn _)).step
  | admitVerify h => exact (verifyAdmit_goesOn _ (verifyDue_joining h)).step
  | signatureDelivery => exact signatureArrives_step _ _ _ (harrive ..)
  | stateDelivery => exact stateArrives_step _ _ _ (harrive ..)
  | noticeDelivery => exact ((harrive ..).trans (noticeArrives_goesOn ..)).step
  | joinDelivery => exact ((harrive ..).trans (joinArrives_goesOn ..)).step
  | refuseDelivery => exact ((harrive ..).trans (refuseArrives_goesOn ..)).step
  | admittedDelivery => exact ((harrive ..).trans (admittedArrives_goesOn ..)).step
  | mismatchDelivery => exact ((harrive ..).trans (mismatchArrives_goesOn ..)).step
  | abandonDelivery => exact ((harrive ..).trans (abandonArrives_goesOn ..)).step
  | _ => exact (LaneGoesOn.of_frame (by simp)).step

/-- A FILL burst moves the clear pass on and leaves whose it is; no other burst touches it (R131, R158). -/
theorem grantFill_goesOn (s : State) : LaneGoesOn s (grantFill s) := by
  refine ⟨by simp [GoesOn.stays], by simp, fun x hx => ?_, by simp, fun h => h.congr (by simp) (by simp)⟩
  simp only [grantFill] at hx
  split at hx
  case h_1 next joiner hp =>
    refine ⟨_, by simpa using hp, ?_⟩
    split at hx
    · simp only [clearBlock_frame, Option.some.injEq] at hx
      rw [← hx]
    · simp only [Option.some.injEq] at hx
      rw [← hx]
  case h_2 => exact ⟨x, by simpa using hx, rfl⟩

theorem carryOut_goesOn (c : Choice) (s : State) : LaneGoesOn s (carryOut c s) := by
  cases c with
  | proc => exact .of_frame (by simp [carryOut])
  | free => exact .of_frame ⟨rfl, rfl, rfl, rfl, rfl⟩
  | background b drain =>
    have hgranted : LaneGoesOn s { s with port := { setAge s.port b none with afterDrain := false, drain := drain } } :=
      .of_frame ⟨rfl, rfl, rfl, rfl, rfl⟩
    cases b with
    | fill => exact hgranted.trans (grantFill_goesOn _)
    | log | recv | copy | patrol => exact hgranted.frame (by simp [carryOut, grantBackground])

theorem settle_goesOn (s : State) : LaneGoesOn s (settle s) := by
  have harbitrate (u : State) : LaneGoesOn u (arbitrate u) := by
    unfold arbitrate
    split
    · exact carryOut_goesOn ..
    · exact .refl u
  exact (harbitrate s).trans (harbitrate _)

theorem exec_step {c : Instr} (h : exec c s = .next t) (hc : isReset c = false) : LaneStep s t := by
  obtain rfl | ⟨u, rfl, hu⟩ := exec_cases h hc
  · exact (LaneGoesOn.refl _).step
  · exact (effect_step hu).then_keep (settle_goesOn u) (by simp)

/-- With no command waiting the part queues a step of its own, or its timers tick and stay running or stopped (R172). -/
theorem idle_goesOn (s : State) : LaneGoesOn s (idle s) := by
  unfold idle
  split
  · exact .of_frame ⟨rfl, rfl, rfl, rfl, rfl⟩
  · exact ⟨.stays _, rfl, fun x hx => ⟨x, hx, rfl⟩, by simp [tick, tickTimer], fun h => h⟩

/-- Right after a reset HOLD is asserted, and the image is still to be read (R117, R118, R153). -/
theorem exec_reset_laws {c : Instr} (h : exec c s = .next t) (hc : isReset c = true) : HoldLaw t ∧ StartLaw t := by
  cases c with
  | powerReset | pinReset => cases h; exact ⟨rfl, by simp [StartLaw, State.afterReset]⟩
  | _ => cases hc

end

/-- Settles O54: by the effect of each command; the changes that may follow one another in a step come to one transition. -/
theorem everyStepKeepsHoldAndTheLaneStates : Obligations.EveryStepKeepsHoldAndTheLaneStates := by
  intro s t hh hs h
  unfold step at h
  split at h
  case h_1 c rest hpending =>
    cases hc : isReset c with
    | true =>
      obtain ⟨hht, hst⟩ := exec_reset_laws h hc
      exact ⟨hht, hst, fun hreset => by simp [hreset c (by simp [hpending])] at hc⟩
    | false =>
      obtain ⟨hht, hst, hchange⟩ := exec_step h hc hh hs
      exact ⟨hht, hst, fun _ => hchange⟩
  case h_2 =>
    cases h
    obtain ⟨hht, hst, hchange⟩ := (idle_goesOn s).step hh hs
    exact ⟨hht, hst, fun _ => hchange⟩

end Sys2Proof.Machine
end

section
/-! PERMIT's level (R119). -/

namespace Sys2Proof.Machine

/-- No effect but the expiry of the permit timer changes PERMIT's level. -/
theorem effect_keepsPermit {c : Instr} {s u : State} (he : Effect c s u) (hc : c ≠ .permitTimerExpiry) :
    u.lines.permit = s.lines.permit := by
  cases he with
  | permitTimerExpiry => exact absurd rfl hc
  | _ => simp

/-- Settles O34: by the state of the timer, and by the effect of each other command. -/
theorem permitTimerTogglesPermit : Obligations.PermitTimerTogglesPermit := by
  intro s
  refine ⟨fun hruns => ?running, fun hstopped => ?stopped, fun c t h hc hreset => ?others⟩
  case running => simp [exec, execPermitTimerExpiry, hruns, done, Config.permitHalfPeriod]
  case stopped => simp [exec, execPermitTimerExpiry, hstopped]
  case others =>
    obtain rfl | ⟨u, rfl, hu⟩ := exec_cases h hreset
    · rfl
    · rw [← effect_keepsPermit hu hc]
      simp

end Sys2Proof.Machine
end

section
/-! A failed attempt in full (R111, R124, R128, R129, R138), and what SUPPLY-LOW does to one and begins (R126). -/

namespace Sys2Proof.Machine

/-- The attempt count after a failure: kept for SUPPLY, else raised by one up to 15 (R128). -/
def attemptsAfter (c : Cause) (n : Nat) : Nat := if c = .supply then n else if n < 15 then n + 1 else 15

/-- The lane and its view after a failed attempt: ISOLATED, EXCLUDED in its own view, and the retry timer running exactly
below the limit (R111, R124, R128). -/
theorem failAttempt_isolates {c : Cause} {b : Bool} {d : Option Cause} {s : State} (h : s.lane.state = .joining) :
    (failAttempt c b d s).lane = { s.lane with
      state := .isolated, retainedState := .isolated, retainedCause := some c, permitTimer := none,
      attempts := attemptsAfter c s.lane.attempts,
      retry := if attemptsAfter c s.lane.attempts < (settings s).attemptLimit then some (retryTicks s) else none } ∧
    (failAttempt c b d s).vote =
      { s.vote with view := some (PerLane.set (viewOf s) (ownLane s) .excluded) } := by
  have hframe : (dropFoundCause (endAttempt c b s)).lane = s.lane ∧ (dropFoundCause (endAttempt c b s)).vote = s.vote ∧
      (dropFoundCause (endAttempt c b s)).map = s.map ∧ (dropFoundCause (endAttempt c b s)).lines = s.lines := by simp
  obtain ⟨hlane, hvote, hmap, hlines⟩ := hframe
  have hset := setLaneState_eq (x := .isolated) (dropFoundCause (endAttempt c b s)) (by decide)
  have hview : viewOf (dropFoundCause (endAttempt c b s)) = viewOf s := by simp [viewOf]
  have hown : ownLane (dropFoundCause (endAttempt c b s)) = ownLane s := ownLane_congr (by rw [hlines])
  rw [failAttempt, if_pos h]
  simp only [offerState_frame, reportRestoreEnd_frame, hset, hlane, hvote, hview, hown, retryTicks, settings, hmap]
  exact ⟨rfl, rfl⟩

theorem failAttempt_of_not_joining {c : Cause} {b : Bool} {d : Option Cause} {s : State} (h : s.lane.state ≠ .joining) :
    failAttempt c b d s = s := by rw [failAttempt, if_neg h]

/-- What the failure of an attempt leaves (R128, R138). -/
structure AttemptFailed (c : Cause) (s t : State) : Prop where
  lane : t.lane.state = .isolated ∧ t.lane.retainedState = .isolated ∧ t.lane.retainedCause = some c ∧
    t.lane.attempts = attemptsAfter c s.lane.attempts
  copy : t.copy.phase = .none ∧ t.copy.received = none ∧ t.copy.progress = none
  frame : t.lines = s.lines ∧ t.map = s.map ∧ t.checker = s.checker ∧ t.sram = s.sram ∧ t.sig = s.sig ∧ t.patrol = s.patrol

theorem failAttempt_failed {c : Cause} {b : Bool} {d : Option Cause} {s : State} (h : s.lane.state = .joining) :
    AttemptFailed c s (failAttempt c b d s) := by
  obtain ⟨hlane, -⟩ := failAttempt_isolates (c := c) (b := b) (d := d) h
  refine ⟨by simp [hlane], ?_, by simp⟩
  rw [failAttempt_copy h]
  exact endAttempt_copy c b s

/-- The failure after a change that leaves lane control and the memory's blocks. -/
theorem AttemptFailed.congr {c : Cause} {s t u : State} (h : AttemptFailed c u t) (g : u.lane = s.lane ∧ u.lines = s.lines ∧
    u.map = s.map ∧ u.checker = s.checker ∧ u.sram = s.sram ∧ u.sig = s.sig ∧ u.patrol = s.patrol) :
    AttemptFailed c s t := by
  obtain ⟨hlane, hlines, hmap, hchecker, hsram, hsig, hpatrol⟩ := g
  obtain ⟨hfailed, hcopy, hframe⟩ := h
  rw [hlane] at hfailed
  rw [hlines, hmap, hchecker, hsram, hsig, hpatrol] at hframe
  exact ⟨hfailed, hcopy, hframe⟩

/-! SUPPLY-LOW (R126). -/

/-- The level of SUPPLY-LOW changed. -/
def withSupplyLow (b : Bool) (s : State) : State := { s with lines := { s.lines with supplyLow := b } }

theorem withSupplyLow_frame (b : Bool) (s : State) : (withSupplyLow b s).loader = s.loader ∧
    (withSupplyLow b s).through = s.through ∧ (withSupplyLow b s).map = s.map ∧
    (withSupplyLow b s).checker = s.checker ∧ (withSupplyLow b s).sram = s.sram ∧ (withSupplyLow b s).sig = s.sig ∧
    (withSupplyLow b s).patrol = s.patrol ∧ (withSupplyLow b s).vote = s.vote ∧ (withSupplyLow b s).clear = s.clear ∧
    (withSupplyLow b s).pending = s.pending := by simp [withSupplyLow]

theorem exec_supplyLowActive {s : State} (h : s.lines.supplyLow = false) :
    exec .supplyLowActive s = .next (settle (failAttempt .supply false none (withSupplyLow true s))) := by
  simp [exec, execSupplyLowActive, h, done, withSupplyLow]

/-- The attempt number raised, and no retry due, in a lane that has entered JOINING (R127, R131). -/
theorem enterJoining_attempt (g : Trigger) (s : State) : (enterJoining g s).copy.attempt = nextAttempt s.copy.attempt ∧
    (enterJoining g s).lane.retryDue = false := by
  simp [enterJoining, startAttempt_copy]

/-- Settles O37: the level by the lane state, and the attempt that fails or begins with it. -/
theorem supplyLowHoldsAttemptsBack : Obligations.SupplyLowHoldsAttemptsBack := by
  intro s
  refine ⟨fun hlow hj => ?level, fun hlow hj => ?fails, fun hlow hdue => ?restored, fun hlow hisolated hdue => ?begins⟩
  case level =>
    have hkept : (withSupplyLow true s).lane.state ≠ .joining := hj
    rw [exec_supplyLowActive hlow, failAttempt_of_not_joining hkept]
    rfl
  case fails =>
    have hjoining : (withSupplyLow true s).lane.state = .joining := hj
    obtain ⟨hlane, hvote⟩ := failAttempt_isolates (c := .supply) (b := false) (d := none) hjoining
    obtain ⟨⟨hstate, hretained, hcause, hattempts⟩, ⟨hphase, hreceived, hprogress⟩, hlines, -⟩ :=
      failAttempt_failed (c := .supply) (b := false) (d := none) hjoining
    refine ⟨_, exec_supplyLowActive hlow, hlines, hstate, hretained, hcause, hattempts, by rw [hlane]; rfl, ?_, hphase,
      hreceived, hprogress, State.ext (by simp [hvote, withSupplyLow_frame])⟩
    rw [standing, viewOf, hvote]
    exact PerLane.get_set_self ..
  case restored =>
    have hnone : ¬ (decide (s.lane.state = .isolated) && s.lane.retryDue) = true := by simpa using hdue
    simp only [exec, execSupplyLowInactive, hlow, if_neg hnone]
    rfl
  case begins =>
    obtain ⟨hattempt, hretry⟩ := enterJoining_attempt .retry { s with
      lines := { s.lines with supplyLow := false }, lane := { s.lane with retryDue := false } }
    obtain ⟨hstate, hhold⟩ := enterJoining_state .retry { s with
      lines := { s.lines with supplyLow := false }, lane := { s.lane with retryDue := false } }
    exact ⟨_, by simp [exec, execSupplyLowInactive, hlow, hisolated, hdue, done], by simp, hstate, hretry, hhold, hattempt⟩

end Sys2Proof.Machine
end

section
/-! ABANDON taken (R128, R138, R139, R148). -/

namespace Sys2Proof.Machine

/-- A frame's arrival at a joiner leaves what it has asked for. -/
theorem arrive_asked (p : PortId) (rest : List Frame) (l : Lane) (s : State) :
    (arrive p rest l s).copy.asked = s.copy.asked := by
  have hheard : arrive p rest l s = sourceHeard l (takenFrom p rest s) := rfl
  rw [hheard, sourceHeard]
  split <;> simp [takenFrom]

section
variable {s : State} {p : PortId} {l : Lane} {n : Nat} {cause : Cause} {rest : List Frame}

theorem exec_abandonDelivery (hq : (getPort s p).received = .abandon n cause :: rest) (hl : (getPort s p).peer = some l) :
    exec (.abandonDelivery p) s = .next (settle (abandonArrives l n cause (arrive p rest l s))) := by
  simp [exec, execAbandonDelivery, hq, hl, done]

theorem abandonArrives_of_asked (hj : s.lane.state = .joining) (ha : s.copy.asked = some l) (hn : s.copy.attempt = n) :
    abandonArrives l n cause s = failAttempt .abandoned false (some cause) s := by
  simp [abandonArrives, hj, ha, hn]

theorem abandonArrives_of_admitted (hm : s.lane.state = .member) (ha : s.copy.admittedBy = some (l, n)) :
    abandonArrives l n cause s = isolate .noAdmit none s := by
  have hr : running s = true := by simp [running, hm]
  simp [abandonArrives, hm, ha, leave_of_running hr]

theorem abandonArrives_of_served (hm : s.lane.state = .member) (ha : s.copy.admittedBy ≠ some (l, n))
    (hs : s.copy.serving = some (l, n)) :
    abandonArrives l n cause s = voteIfComplete (endServing .abandoned none none s) := by
  simp [abandonArrives, hm, ha, hs]

theorem abandonArrives_of_other (hj : s.lane.state ≠ .joining)
    (hm : s.lane.state = .member → s.copy.admittedBy ≠ some (l, n) ∧ s.copy.serving ≠ some (l, n)) :
    abandonArrives l n cause s = s := by
  unfold abandonArrives
  split
  case h_1 h => exact absurd h hj
  case h_2 h =>
    obtain ⟨ha, hs⟩ := hm h
    rw [if_neg ha, if_neg hs]
  case h_3 => rfl

end

/-- Settles O50: by the lane state, and in MEMBER by the attempt that the frame names. -/
theorem abandonEndsTheAttempt : Obligations.AbandonEndsTheAttempt := by
  intro s p l n cause rest hq hl
  have hcopy : (takenFrom p rest s).copy = s.copy := by simp [takenFrom]
  have hlane : (takenFrom p rest s).lane = s.lane := by simp [takenFrom]
  rw [exec_abandonDelivery hq hl]
  refine ⟨fun hj ha hn => ?joiner, fun hm ha => ?admitted, fun hm ha hs => ?source, fun hj hm => ?discarded⟩
  case joiner =>
    have hjoining : (arrive p rest l s).lane.state = .joining := by simp [hj]
    have hasked : (arrive p rest l s).copy.asked = some l := (arrive_asked p rest l s).trans ha
    have hattempt : (arrive p rest l s).copy.attempt = n := by simp [hn]
    obtain ⟨⟨hstate, -, hcause, -⟩, ⟨hphase, hreceived, -⟩, hlines, hmap, -, hsram, hsig, hpatrol⟩ :=
      (failAttempt_failed (c := .abandoned) (b := false) (d := some cause) hjoining).congr (s := s) (by simp)
    rw [abandonArrives_of_asked hjoining hasked hattempt]
    exact ⟨_, rfl, hstate, hcause, hphase, hreceived, hlines, hmap, hsig, hsram, hpatrol⟩
  case admitted =>
    obtain ⟨hstate, hhold⟩ := isolate_state .noAdmit none (takenFrom p rest s)
    rw [arrive_of_not_joining (by simp [hm]), abandonArrives_of_admitted (hlane ▸ hm) (hcopy ▸ ha)]
    exact ⟨_, rfl, hstate, (isolate_ends ..).1, hhold⟩
  case source =>
    have hserving : (takenFrom p rest s).copy.serving = some (l, n) := hcopy ▸ hs
    obtain ⟨hnone, hdirty, -⟩ := endServing_copy (o := .abandoned) (a := none) (n := none)
      (Option.isSome_iff_exists.2 ⟨_, hserving⟩)
    rw [arrive_of_not_joining (by simp [hm]), abandonArrives_of_served (hlane ▸ hm) (hcopy ▸ ha) hserving]
    exact ⟨_, _, rfl, rfl, hnone, hdirty, by simp [hlane, hm], endServing_standing hserving rfl⟩
  case discarded =>
    rw [arrive_of_not_joining hj, abandonArrives_of_other (hlane ▸ hj) (by rwa [hlane, hcopy])]
    rfl

end Sys2Proof.Machine
end

section
/-! The progress timer and the hold timer (R93, R128, R132, R136, R146 to R148). -/

namespace Sys2Proof.Machine

/-! The other peer asked (R132). -/

theorem askPeer_copy (l : Lane) (s : State) : (askPeer l s).copy =
    { s.copy with asked := some l, progress := some ((settings s).progressLimit * 1000) } := by
  simp only [askPeer]
  split
  · simp [ms, Config.ticksPerMs]
  · rfl

theorem askOther_of_peer {b : Bool} {s : State} {l : Lane} (h2 : s.copy.secondAsked = false)
    (hl : (peers s).find? (fun k => decide (some k ≠ s.copy.asked)) = some l) :
    askOther b s = askPeer l { s with copy := { s.copy with secondAsked := true } } := by
  simp only [askOther, h2, hl, Bool.false_eq_true, if_false]

theorem askOther_of_none {b : Bool} {s : State} (h : s.copy.secondAsked = true ∨ ∀ k ∈ peers s, some k = s.copy.asked) :
    askOther b s = failAttempt .noSource b none s := by
  have hnone : (if s.copy.secondAsked then none else (peers s).find? (fun k => decide (some k ≠ s.copy.asked))) = none := by
    split
    · rfl
    · exact List.find?_eq_none.2 fun k hk => by simp [h.resolve_left ‹_› k hk]
  rw [askOther, hnone]

/-- ABANDON with SILENT offered to the asked peer (R132). -/
def abandonSilent (s : State) : State :=
  match s.copy.asked with
  | some l => offerTo l (.abandon s.copy.attempt .silent) s
  | none => s

theorem abandonSilent_frame (s : State) :
    (abandonSilent s).lines = s.lines ∧ (abandonSilent s).map = s.map ∧ (abandonSilent s).checker = s.checker ∧
    (abandonSilent s).sram = s.sram ∧ (abandonSilent s).sig = s.sig ∧ (abandonSilent s).patrol = s.patrol ∧
    (abandonSilent s).vote = s.vote ∧ (abandonSilent s).lane = s.lane ∧ (abandonSilent s).copy = s.copy := by
  unfold abandonSilent; split <;> simp

/-! The timers stopped. -/

/-- The copy engine replaced. -/
def withCopy (e : CopyEngine) (s : State) : State := { s with copy := e }

/-- The progress timer stopped, as its expiry leaves it. -/
def progressStopped (s : State) : State := withCopy { s.copy with progress := none } s

/-- The hold timer stopped, as its expiry leaves it. -/
def holdStopped (s : State) : State := withCopy { s.copy with holdTimer := none } s

theorem exec_progressTimerExpiry {s : State} (h : s.copy.progress.isSome = true) :
    exec .progressTimerExpiry s = .next (settle (progressExpires (progressStopped s))) := by
  simp [exec, execProgressTimerExpiry, h, done, progressStopped, withCopy]

theorem exec_holdTimerExpiry {s : State} (h : s.copy.holdTimer.isSome = true) :
    exec .holdTimerExpiry s = .next (settle (holdExpires (holdStopped s))) := by
  simp [exec, execHoldTimerExpiry, h, done, holdStopped, withCopy]

theorem progressExpires_of_copying {s : State} (h : s.copy.phase = .copy ∨ s.copy.phase = .verify) :
    progressExpires s = failAttempt .silent false none s := by
  unfold progressExpires
  rcases h with h | h <;> rw [h]

theorem progressExpires_of_request {s : State} (h : s.copy.phase = .request) :
    progressExpires s = askOther false (abandonSilent s) := by
  unfold progressExpires
  rw [h]
  rfl

/-- The joiner after a silence in REQUEST: its progress timer stopped, and ABANDON offered (R132). -/
def silenced (s : State) : State := abandonSilent (progressStopped s)

theorem silenced_frame (s : State) :
    (silenced s).lines = s.lines ∧ (silenced s).map = s.map ∧ (silenced s).checker = s.checker ∧
    (silenced s).sram = s.sram ∧ (silenced s).sig = s.sig ∧ (silenced s).patrol = s.patrol ∧
    (silenced s).vote = s.vote ∧ (silenced s).lane = s.lane ∧ (silenced s).copy = { s.copy with progress := none } :=
  abandonSilent_frame (progressStopped s)

theorem exec_progressTimerExpiry_of_request {s : State} (h : s.copy.progress.isSome = true)
    (hphase : s.copy.phase = .request) :
    exec .progressTimerExpiry s = .next (settle (askOther false (silenced s))) := by
  rw [exec_progressTimerExpiry h, progressExpires_of_request (s := progressStopped s) hphase, silenced]

theorem progressExpires_of_answer {s : State} (h : s.copy.phase = .none) (hc : s.copy.catchUp = .answer) :
    progressExpires s = giveUpServing .noAdmit s := by
  unfold progressExpires
  rw [h]
  exact if_pos hc

/-- The hold over and the try counted (R146). -/
def holdOver (s : State) : State := withCopy { s.copy with catchUp := .none, kept := none, tries := s.copy.tries + 1 } s

theorem holdExpires_of_hold {s : State} (h : s.copy.catchUp = .hold) : holdExpires s =
    if (settings s).tryLimit ≤ s.copy.tries + 1 then giveUpServing .catchUp (holdOver s) else holdOver s := by
  unfold holdExpires
  rw [h]
  rfl

theorem holdExpires_of_answer {s : State} (h : s.copy.catchUp = .answer) :
    holdExpires s = giveUpServing .noAdmit s := by
  unfold holdExpires
  rw [h]

/-! The end of serving with ABANDON (R93, R148). -/

/-- A port to the joiner with room takes ABANDON and loses no other control frame. -/
theorem getPort_endServing_abandon {o c : Cause} {n : Option Nat} {s : State} {joiner : Lane} {attempt : Nat} {p : PortId}
    (hs : s.copy.serving = some (joiner, attempt)) (hp : portTo s joiner = some p)
    (ha : LinkPort.active (getPort s p) = true) (hr : (getPort s p).control.length < 8)
    (ht : (getPort s p).transmitter ≠ .resting) :
    (getPort (endServing o (some c) n s) p).control = (getPort s p).control ++ [.abandon attempt c] := by
  have hstopped : portTo (stopServing (endRestoreJob s)) joiner = some p :=
    (portTo_congr (by simp [stopServing]) (by simp [stopServing]) joiner).trans hp
  have hpurged : portTo (servingPurged p attempt s) joiner = some p := by
    rw [← hstopped]
    refine portTo_congr ?_ ?_ joiner <;> cases p <;> rfl
  have hoffer : getPort (endServing o (some c) n s) p =
      getPort (offerControl p (.abandon attempt c) (servingPurged p attempt s)) p := by
    have htaken : abandonTo joiner attempt (some c) (purgeFor joiner attempt (stopServing (endRestoreJob s))) =
        offerControl p (.abandon attempt c) (servingPurged p attempt s) := by
      simp only [abandonTo, purgeFor, hstopped, offerTo]
      rw [← servingPurged, hpurged]
    rw [endServing, endServingStep_of_some hs, htaken]
    refine getPort_links_congr ?_ ?_ p <;> split <;> simp
  have hport := getPort_servingPurged (s := s) (p := p) (m := attempt)
  rw [hoffer, offerControl_of_room (by rw [hport]; exact ha) (by rw [hport]; exact hr) (by rw [hport]; exact ht),
    getPort_setPort_self, hport]

/-- Settles O38: the joiner's waits by its phase, and the source's by the phase of its catch-up. -/
theorem copyEngineTimersEndTheirWaits : Obligations.CopyEngineTimersEndTheirWaits := by
  intro s
  refine ⟨fun hp hj hphase => ?copying, fun l hp _ hphase h2 hl => ?asked, fun hp hj hphase hnone => ?noSource,
    fun joiner attempt hs => ⟨fun hh hc ht => ?again, fun c cause hcase => ?given⟩⟩
  case copying =>
    obtain ⟨⟨hstate, -, hcause, hattempts⟩, ⟨hended, -, hstopped⟩, -, hmap, hchecker, hsram, hsig, hpatrol⟩ :=
      failAttempt_failed (c := .silent) (b := false) (d := none) (s := progressStopped s) hj
    rw [exec_progressTimerExpiry hp, progressExpires_of_copying (s := progressStopped s) hphase]
    exact ⟨_, rfl, hstate, hcause, hended, hstopped, hattempts, hsram, hchecker, hmap, hsig, hpatrol⟩
  case asked =>
    obtain ⟨hlines, hmap, -, hsram, -, -, hvote, hlane, hcopy⟩ := silenced_frame s
    have hpeers : peers (silenced s) = peers s := peers_congr (by rw [hmap]) (by rw [hlines])
    rw [exec_progressTimerExpiry_of_request hp hphase,
      askOther_of_peer (l := l) (by rw [hcopy]; exact h2) (by rw [hpeers, hcopy]; exact hl)]
    refine ⟨_, rfl, by rw [askPeer_copy], by rw [askPeer_copy], ?_, ?_, ?_⟩
    · rw [askPeer_copy, settings_congr (s := s) (by rw [hmap])]
    · rw [askPeer_copy, hcopy]
      exact hphase
    · simp [hlane, hvote, hsram, hmap]
  case noSource =>
    obtain ⟨hlines, hmap, hchecker, hsram, hsig, hpatrol, -, hlane, hcopy⟩ := silenced_frame s
    have hpeers : peers (silenced s) = peers s := peers_congr (by rw [hmap]) (by rw [hlines])
    have hfailed : AttemptFailed .noSource s (failAttempt .noSource false none (silenced s)) :=
      (failAttempt_failed (by rw [hlane, hj])).congr ⟨hlane, hlines, hmap, hchecker, hsram, hsig, hpatrol⟩
    rw [exec_progressTimerExpiry_of_request hp hphase, askOther_of_none (by rw [hpeers, hcopy]; exact hnone)]
    obtain ⟨⟨hstate, -, hcause, hattempts⟩, ⟨hended, -, hstopped⟩, -, hmap, hchecker, hsram, hsig, hpatrol⟩ := hfailed
    exact ⟨_, rfl, hstate, hcause, hended, hstopped, hattempts, hsram, hchecker, hmap, hsig, hpatrol⟩
  case again =>
    have hlimit : ¬ (settings (holdStopped s)).tryLimit ≤ (holdStopped s).copy.tries + 1 := Nat.not_le.2 ht
    rw [exec_holdTimerExpiry hh, holdExpires_of_hold (s := holdStopped s) hc, if_neg hlimit]
    rfl
  case given =>
    obtain ⟨e, hexec, hserving, hexcludes⟩ : ∃ e : CopyEngine, exec c s = .next (settle (giveUpServing cause (withCopy e s))) ∧
        e.serving = some (joiner, attempt) ∧ outcomeExcludes cause = true := by
      obtain ⟨rfl, hp, hphase, hc, rfl⟩ | ⟨rfl, hh, hc, rfl⟩ | ⟨rfl, hh, hc, ht, rfl⟩ := hcase
      · exact ⟨(progressStopped s).copy, by rw [exec_progressTimerExpiry hp,
          progressExpires_of_answer (s := progressStopped s) hphase hc]; rfl, hs, rfl⟩
      · exact ⟨(holdStopped s).copy, by rw [exec_holdTimerExpiry hh, holdExpires_of_answer (s := holdStopped s) hc]; rfl, hs, rfl⟩
      · have hlimit : (settings (holdStopped s)).tryLimit ≤ (holdStopped s).copy.tries + 1 := ht
        exact ⟨(holdOver (holdStopped s)).copy, by
          rw [exec_holdTimerExpiry hh, holdExpires_of_hold (s := holdStopped s) hc, if_pos hlimit]; rfl, hs, rfl⟩
    have hserves : (withCopy e s).copy.serving = some (joiner, attempt) := hserving
    obtain ⟨hnone, hdirty, hcursor, hcatch, hkept, hprogress, hhold, hretained⟩ := endServing_copy (o := cause)
      (a := some cause) (n := none) (Option.isSome_iff_exists.2 ⟨_, hserves⟩)
    refine ⟨_, endServing cause (some cause) none (withCopy e s), hexec, rfl, hnone, hdirty, hcatch, hcursor, hkept, hprogress,
      hhold, endServing_standing hserves hexcludes, by simp [withCopy], hretained, by simp [withCopy], by simp [withCopy],
      by simp [withCopy], fun p hp ha hr ht => ?_⟩
    have hport : getPort (withCopy e s) p = getPort s p := by cases p <;> rfl
    rw [← hport] at ha hr ht ⊢
    exact getPort_endServing_abandon hserves hp ha hr ht

end Sys2Proof.Machine
end

section
/-! The serving law (R140, R143, R148): what begins, goes on with and ends a serving keeps it, and so does every step. -/

namespace Sys2Proof.Machine

/-- A change that keeps the serving law. -/
structure KeepsServing (s t : State) : Prop where
  law : ServingLaw s → ServingLaw t

theorem isCopyable_congr {s t : State} (h : t.map.image = s.map.image) (b : Nat) : isCopyable t b = isCopyable s b := by
  simp only [isCopyable, locate_congr h]

/-- A part that serves nobody has nothing of a serving left. -/
theorem servingLaw_of_idle {t : State} (hs : t.copy.serving = none) (hd : t.copy.dirty = []) (hc : t.copy.cursor = none)
    (hu : t.copy.catchUp = .none) : ServingLaw t := by simp [ServingLaw, hs, hd, hc, hu]

theorem ServingLaw.serving_none {s : State} (h : ServingLaw s) (hm : s.lane.state ≠ .member) : s.copy.serving = none := by
  obtain ⟨-, -, -, hmember⟩ := h
  exact Option.not_isSome_iff_eq_none.1 fun hs => hm (hmember hs)

section
variable {s t u : State}

namespace KeepsServing

theorem refl (s : State) : KeepsServing s s := ⟨id⟩

theorem trans (h : KeepsServing s t) (g : KeepsServing t u) : KeepsServing s u := ⟨g.law ∘ h.law⟩

/-- A change of other fields. -/
theorem of_frame (g : t.map.image = s.map.image ∧ t.lane.state = s.lane.state ∧ t.copy.serving = s.copy.serving ∧
    t.copy.dirty = s.copy.dirty ∧ t.copy.cursor = s.copy.cursor ∧ t.copy.catchUp = s.copy.catchUp) : KeepsServing s t := by
  obtain ⟨himage, hstate, hserving, hdirty, hcursor, hcatch⟩ := g
  refine ⟨fun h => ?_⟩
  simp only [ServingLaw, hstate, hserving, hdirty, hcursor, hcatch, isCopyable_congr himage]
  exact h

theorem frame (h : KeepsServing s t) (g : u.map.image = t.map.image ∧ u.lane.state = t.lane.state ∧
    u.copy.serving = t.copy.serving ∧ u.copy.dirty = t.copy.dirty ∧ u.copy.cursor = t.copy.cursor ∧
    u.copy.catchUp = t.copy.catchUp) : KeepsServing s u := h.trans (.of_frame g)

/-- Outside MEMBER there is no serving, and the law holds on in every lane state and under every image. -/
theorem of_not_member (hm : s.lane.state ≠ .member) (g : t.copy.serving = s.copy.serving ∧ t.copy.dirty = s.copy.dirty ∧
    t.copy.cursor = s.copy.cursor ∧ t.copy.catchUp = s.copy.catchUp) : KeepsServing s t := by
  obtain ⟨hserving, hdirty, hcursor, hcatch⟩ := g
  refine ⟨fun h => ?_⟩
  have hnone := h.serving_none hm
  obtain ⟨-, -, hidle, -⟩ := h
  obtain ⟨hd, hc, hu⟩ := hidle hnone
  exact servingLaw_of_idle (hserving.trans hnone) (hdirty.trans hd) (hcursor.trans hc) (hcatch.trans hu)

/-- A lane that becomes MEMBER keeps the law. -/
theorem of_member (g : t.map.image = s.map.image ∧ t.lane.state = .member ∧ t.copy.serving = s.copy.serving ∧
    t.copy.dirty = s.copy.dirty ∧ t.copy.cursor = s.copy.cursor ∧ t.copy.catchUp = s.copy.catchUp) : KeepsServing s t := by
  obtain ⟨himage, hstate, hserving, hdirty, hcursor, hcatch⟩ := g
  refine ⟨fun ⟨hnodup, hcopyable, hidle, _⟩ => ?_⟩
  simp only [ServingLaw, hserving, hdirty, hcursor, hcatch, isCopyable_congr himage]
  exact ⟨hnodup, hcopyable, hidle, fun _ => hstate⟩

end KeepsServing

/-! The end of serving and the changes of the lane state (R123, R127, R128, R148). -/

theorem endServing_keepsServing (o : Cause) (a : Option Cause) (n : Option Nat) (s : State) :
    KeepsServing s (endServing o a n s) := by
  cases hs : s.copy.serving with
  | none => exact .of_frame (by simp [endServing, endServingStep_of_none hs])
  | some x =>
    obtain ⟨hnone, hdirty, hcursor, hcatch, -⟩ := endServing_copy (o := o) (a := a) (n := n) (s := s) (by simp [hs])
    exact ⟨fun _ => servingLaw_of_idle hnone hdirty hcursor hcatch⟩

theorem isolate_keepsServing (c : Cause) (n : Option Nat) (s : State) : KeepsServing s (isolate c n s) := by
  refine ⟨fun ⟨_, _, hidle, _⟩ => ?_⟩
  obtain ⟨hnone, -, -, -, -, hended⟩ := isolate_copy c n s
  cases hs : s.copy.serving with
  | none =>
    obtain ⟨hd, hc, hu⟩ := hidle hs
    obtain ⟨hdirty, hcursor, hcatch, -⟩ := isolate_of_idle (c := c) (n := n) hs
    exact servingLaw_of_idle hnone (hdirty.trans hd) (hcursor.trans hc) (hcatch.trans hu)
  | some x =>
    obtain ⟨hdirty, hcursor, hcatch, -⟩ := hended (by simp [hs])
    exact servingLaw_of_idle hnone hdirty hcursor hcatch

theorem leave_keepsServing (c : Cause) (n : Option Nat) (s : State) : KeepsServing s (leave c n s) := by
  unfold leave
  split
  · exact isolate_keepsServing c n s
  · exact .refl s

theorem enterJoining_keepsServing (g : Trigger) (hm : s.lane.state ≠ .member) : KeepsServing s (enterJoining g s) :=
  .of_not_member hm (by simp)

theorem hearMember_keepsServing (hm : s.lane.state ≠ .member) : KeepsServing s (hearMember s) := by
  unfold hearMember
  split
  · exact isolate_keepsServing ..
  · split
    · exact leave_keepsServing ..
    · exact enterJoining_keepsServing _ hm

theorem failAttempt_keepsServing (c : Cause) (b : Bool) (d : Option Cause) (s : State) :
    KeepsServing s (failAttempt c b d s) := by
  by_cases hj : s.lane.state = .joining
  · exact .of_not_member (by simp [hj]) (by simp)
  · rw [failAttempt_of_not_joining hj]
    exact .refl s

theorem askOther_keepsServing (b : Bool) (s : State) : KeepsServing s (askOther b s) := by
  unfold askOther
  split
  · exact .of_frame (by simp)
  · exact failAttempt_keepsServing ..

/-! The vote (R107, R109, R114). -/

theorem handOnVote_keepsServing (own : Lane) (g : Option Word) (e : VoteEntry) (rs : List SlotResult) (s : State) :
    KeepsServing s (handOnVote own g e rs s) := by
  unfold handOnVote
  split
  · exact leave_keepsServing ..
  split
  · exact leave_keepsServing ..
  split
  · unfold endFormation
    split
    · exact .of_member (by simp)
    · exact .refl s
  split
  · exact leave_keepsServing ..
  · exact .refl s

theorem castVote_keepsServing (e : VoteEntry) (s : State) : KeepsServing s (castVote e s) := by
  rw [castVote_handsOn]
  refine .trans (.of_frame ?_) (handOnVote_keepsServing ..)
  simp only [countedVote]
  split <;> simp [closeEntry]

theorem voteIfComplete_keepsServing (s : State) : KeepsServing s (voteIfComplete s) := by
  unfold voteIfComplete
  split
  · exact castVote_keepsServing ..
  · exact .refl s

theorem KeepsServing.then_vote (h : KeepsServing s t) : KeepsServing s (voteIfComplete t) :=
  h.trans (voteIfComplete_keepsServing t)

/-! The dirty queue (R143, R144). -/

/-- A copyable block goes into the dirty queue of a serving part, and only once. -/
theorem appendDirty_keepsServing {b : Nat} (hb : isCopyable s b = true) : KeepsServing s (appendDirty b s) := by
  unfold appendDirty
  split
  case isFalse => exact .refl s
  case isTrue h =>
    simp only [Bool.and_eq_true, Bool.not_eq_true', List.contains_eq_mem, decide_eq_false_iff_not] at h
    obtain ⟨⟨hserving, -⟩, habsent⟩ := h
    refine ⟨fun ⟨hnodup, hcopyable, _, hmember⟩ => ⟨?_, fun x hx => ?_, fun hnone => ?_, hmember⟩⟩
    · exact List.concat_eq_append ▸ hnodup.concat habsent
    · rcases List.mem_append.1 hx with hx | hx
      · exact hcopyable x hx
      · exact List.mem_singleton.1 hx ▸ hb
    · exact absurd hserving (Option.not_isSome_iff_eq_none.2 hnone)

theorem handToCopyEngine_keepsServing {loc : Located} {b : Nat} (hl : locate s b = some loc) :
    KeepsServing s (handToCopyEngine loc b s) := by
  unfold handToCopyEngine
  split
  · exact appendDirty_keepsServing (by simpa [isCopyable, hl])
  · exact .refl s

/-- The cursor moves only where there is one, and a block taken leaves a shorter queue (R142, R144). -/
theorem takeBlock_keepsServing (b : Nat) (hs : s.copy.serving.isSome = true) : KeepsServing s (takeBlock b s) := by
  have hserves (hnone : s.copy.serving = none) : False := by simp [hnone] at hs
  refine ⟨fun ⟨hnodup, hcopyable, _, hmember⟩ => ?_⟩
  unfold takeBlock
  split
  · exact ⟨hnodup, hcopyable, fun hnone => (hserves hnone).elim, hmember⟩
  · exact ⟨hnodup.tail, fun x hx => hcopyable x (List.mem_of_mem_tail hx), fun hnone => (hserves hnone).elim, hmember⟩

end

/-! The bursts (R32, R41, R142). -/

theorem procFullWrite_keepsServing {loc : Located} {a : Nat} (v : Word) {s : State}
    (hl : locate s (blockOf a) = some loc) : KeepsServing s (procFullWrite loc a v s) := by
  have hstored : KeepsServing s (storeWord .proc loc a v s).2 := .of_frame (by simp)
  have hlocated : locate (storeWord .proc loc a v s).2 (blockOf a) = some loc := (locate_congr (by simp) _).trans hl
  simp only [procFullWrite]
  refine (hstored.trans (handToCopyEngine_keepsServing hlocated)).frame ?_
  split <;> simp

theorem procMerge_keepsServing {loc : Located} {x : Access} (v : Word) {s : State}
    (hl : locate s (blockOf x.word) = some loc) : KeepsServing s (procMerge loc x v s) := by
  unfold procMerge
  extract_lets merged buffered written
  have hwritten : KeepsServing s (applyDelta loc x.word v merged written) :=
    .of_frame (by simp [written, buffered])
  have hlocated : locate (applyDelta loc x.word v merged written) (blockOf x.word) = some loc :=
    (locate_congr (by simp [written, buffered]) _).trans hl
  exact (hwritten.trans (handToCopyEngine_keepsServing hlocated)).frame (by simp)

theorem procPartialWrite_keepsServing {loc : Located} {x : Access} {s : State}
    (hl : locate s (blockOf x.word) = some loc) : KeepsServing s (procPartialWrite loc x s) := by
  unfold procPartialWrite
  split
  · exact procMerge_keepsServing _ hl
  · exact .trans (.of_frame (by simp)) (procMerge_keepsServing _ ((locate_congr (by simp) _).trans hl))
  · exact .of_frame (by simp)
  · exact .of_frame (by simp)

theorem grantProc_keepsServing (s : State) : KeepsServing s (grantProc s) := by
  unfold grantProc
  split
  case h_1 => exact .refl s
  case h_2 x _ =>
    split
    case h_1 => exact .refl s
    case h_2 loc hl =>
      split
      case isTrue => exact .of_frame (by simp)
      case isFalse =>
        have hbegun : locate (beginBurst .proc s) (blockOf x.word) = some loc := hl
        refine .trans (t := beginBurst .proc s) (.of_frame (by simp)) ?_
        unfold procBurst
        split
        · split
          · exact procFullWrite_keepsServing _ hbegun
          · exact procPartialWrite_keepsServing hbegun
        · exact .of_frame (by simp)

theorem grantCopy_keepsServing (s : State) : KeepsServing s (grantCopy s) := by
  unfold grantCopy
  extract_lets engine begun
  have hbegun : KeepsServing s begun := .of_frame (by simp [begun, engine])
  refine hbegun.trans ?_
  split
  · unfold copyForRestore
    split
    case h_1 b hs _ =>
      split
      · exact (takeBlock_keepsServing b (by simp [hs])).frame (by simp)
      · exact .of_frame (by simp)
    case h_2 => exact .of_frame (by simp)
  · exact .of_frame (by simp)
  · exact .refl _

theorem carryOut_keepsServing (c : Choice) (s : State) : KeepsServing s (carryOut c s) := by
  unfold carryOut
  split
  · exact .trans (.of_frame (by simp)) (grantProc_keepsServing _)
  case h_2 b drain =>
    refine .trans (t := { s with port := { setAge s.port b none with afterDrain := false, drain := drain } })
      (.of_frame (by simp)) ?_
    cases b with
    | copy => exact grantCopy_keepsServing _
    | log | recv | fill | patrol => exact .of_frame (by simp [grantBackground])
  · exact .of_frame (by simp)

theorem settle_keepsServing (s : State) : KeepsServing s (settle s) := by
  have harbitrate (u : State) : KeepsServing u (arbitrate u) := by
    unfold arbitrate
    split
    · exact carryOut_keepsServing ..
    · exact .refl u
  exact (harbitrate s).trans (harbitrate _)

/-! The ends of bursts and the timers (R41, R132, R136, R146, R160). -/

theorem copyClassAction_keepsServing (b : Nat) (s : State) : KeepsServing s (copyClassAction b s) := by
  unfold copyClassAction
  split
  · exact leave_keepsServing ..
  · split
    · exact .of_frame (by simp)
    · exact .refl s

theorem endWork_keepsServing (e : AtEnd) (s : State) : KeepsServing s (endWork e s) := by
  cases e with
  | nothing => exact .refl s
  | leave c n => exact leave_keepsServing ..
  | failAttempt c => exact failAttempt_keepsServing ..
  | sendBlock p attempt b words => exact .of_frame (by simp [endWork])
  | damaged p b live =>
    cases live with
    | true =>
      have hfreed : KeepsServing s (freeSlot p s) := .of_frame (by simp)
      exact (hfreed.trans (endServing_keepsServing ..)).trans (copyClassAction_keepsServing b _)
    | false => exact copyClassAction_keepsServing b s
  | sendFetched p b words => exact .of_frame (by simp [endWork])
  | refuseFetched p b => exact .trans (.of_frame (by simp)) (copyClassAction_keepsServing b _)

/-- The clear pass of STARTING ends in a lane that serves nobody. -/
theorem fillGoesOn_keepsServing {s : State} (hs : StartLaw s) : KeepsServing s (fillGoesOn s) := by
  unfold fillGoesOn
  split
  case h_1 => exact .of_frame (by simp)
  case h_2 => exact .of_frame (by simp)
  case h_3 hp =>
    obtain ⟨-, hclear, -⟩ := hs
    obtain ⟨hstarting, -⟩ := hclear _ hp rfl
    have hlane := startingCleared_lane s
    have hcleared : KeepsServing s (startingCleared s) := .of_frame (by simp [startingCleared, writerStarted, writerReady])
    rw [endStartingClear_eq]
    split
    · exact hcleared.trans (hearMember_keepsServing (by simp [hlane, hstarting]))
    · exact hcleared
  case h_4 => exact .refl s

theorem endBurst_keepsServing (b : Burst) {s : State} (hs : StartLaw s) : KeepsServing s (endBurst b s) := by
  unfold endBurst
  extract_lets released answered worked filled
  have hanswered : KeepsServing s answered := by
    unfold answered
    split <;> exact .of_frame (by simp [released])
  have hgoesOn : LaneGoesOn s worked := by
    refine LaneGoesOn.then_vote (.trans ?_ (endWork_goesOn b.atEnd answered))
    unfold answered
    split <;> exact .of_frame (by simp [released])
  have hworked : KeepsServing s worked := (hanswered.trans (endWork_keepsServing b.atEnd answered)).then_vote
  have hfilled : KeepsServing s filled := by
    unfold filled
    split
    · exact hworked.trans (fillGoesOn_keepsServing (hgoesOn.startLaw hs))
    · exact hworked
  exact hfilled.frame (by simp)

theorem giveUpServing_keepsServing (c : Cause) (s : State) : KeepsServing s (giveUpServing c s) :=
  (endServing_keepsServing ..).then_vote

theorem progressExpires_keepsServing (s : State) : KeepsServing s (progressExpires s) := by
  unfold progressExpires
  split
  · unfold silentInRequest
    split
    · exact .trans (.of_frame (by simp)) (askOther_keepsServing ..)
    · exact askOther_keepsServing ..
  · exact failAttempt_keepsServing ..
  · exact failAttempt_keepsServing ..
  · split
    · exact giveUpServing_keepsServing ..
    · exact .refl s

/-- A catch-up hold that has run out is over. -/
theorem holdOver_keepsServing (s : State) : KeepsServing s (holdOver s) := by
  refine ⟨fun ⟨hnodup, hcopyable, hidle, hmember⟩ => ⟨hnodup, hcopyable, fun hs => ?_, hmember⟩⟩
  obtain ⟨hdirty, hcursor, -⟩ := hidle hs
  exact ⟨hdirty, hcursor, rfl⟩

theorem holdExpires_keepsServing (s : State) : KeepsServing s (holdExpires s) := by
  cases hc : s.copy.catchUp with
  | none => simp only [holdExpires, hc]; exact .refl s
  | hold =>
    rw [holdExpires_of_hold hc]
    split
    · exact (holdOver_keepsServing s).trans (giveUpServing_keepsServing ..)
    · exact holdOver_keepsServing s
  | answer =>
    rw [holdExpires_of_answer hc]
    exact giveUpServing_keepsServing ..

theorem verifyAdmit_keepsServing (x : Snapshot) (s : State) : KeepsServing s (verifyAdmit x s) := by
  unfold verifyAdmit
  split
  · exact .of_member (by simp)
  · unfold mismatchFound
    split
    · exact .trans (.of_frame (by simp)) (failAttempt_keepsServing ..)
    · exact failAttempt_keepsServing ..

/-- ADMIT is offered by a part that serves (R146). -/
theorem offerAdmit_keepsServing {p : PortId} {n : Nat} {x : Snapshot} {s : State} (h : admitDue s = some (p, n, x)) :
    KeepsServing s (offerAdmit p n x s) := by
  have hserves : s.copy.serving.isSome = true := by
    unfold admitDue at h
    split at h
    · split at h
      case h_1 hs _ => simp [hs]
      case h_2 => cases h
    · cases h
  refine ⟨fun ⟨hnodup, hcopyable, _, hmember⟩ => ?_⟩
  have himage : (offerAdmit p n x s).map.image = s.map.image := by simp
  refine ⟨by simpa using hnodup, fun b hb => ?_, fun hnone => ?_, by simpa using hmember⟩
  · rw [isCopyable_congr himage]
    exact hcopyable b (by simpa using hb)
  · have hs : s.copy.serving = none := by simpa using hnone
    simp [hs] at hserves

/-! The own mark (R100, R145). -/

/-- A catch-up hold begins in a part that serves. -/
theorem markCopyEngine_keepsServing (s : State) : KeepsServing s (markCopyEngine s) := by
  unfold markCopyEngine
  split
  case isTrue h =>
    have hserves : s.copy.serving.isSome = true := by
      simp only [holdBegins, Bool.and_eq_true] at h
      obtain ⟨⟨⟨hserves, -⟩, -⟩, -⟩ := h
      exact hserves
    refine ⟨fun ⟨hnodup, hcopyable, _, hmember⟩ => ⟨hnodup, hcopyable, fun hnone => ?_, hmember⟩⟩
    exact absurd hserves (Option.not_isSome_iff_eq_none.2 hnone)
  case isFalse => exact .refl s

theorem voteOrWait_keepsServing (s : State) : KeepsServing s (voteOrWait s) := by
  unfold voteOrWait
  split
  · split
    · exact castVote_keepsServing ..
    · exact .of_frame (by simp)
  · exact .refl s

theorem takeMark_keepsServing (s : State) : KeepsServing s (takeMark s) := by
  unfold takeMark
  extract_lets closed
  have hclosed : KeepsServing s closed := by
    refine .trans (t := raiseCounter s) (.of_frame (by simp)) ?_
    unfold closed closeEarlier
    split
    · exact castVote_keepsServing ..
    · exact .refl _
  split
  · have hsigned : KeepsServing closed (sendSignature (markEntry closed)) := .of_frame (by simp)
    have hsupervised : KeepsServing closed (restartSupervision (voteOrWait (sendSignature (markEntry closed)))) :=
      (hsigned.trans (voteOrWait_keepsServing _)).frame (by simp)
    exact (hclosed.trans hsupervised).trans (markCopyEngine_keepsServing _)
  · exact hclosed

/-! The deliveries (R112, R121, R140, R144, R147, R148). -/

theorem discover_keepsServing (x : LaneState) (b : Bool) (s : State) : KeepsServing s (discover x b s) := by
  unfold discover
  split
  case isTrue h =>
    have hdiscovers : discovers s = true := Bool.and_elim_right h
    refine hearMember_keepsServing fun hm => ?_
    simp [discovers, hm] at hdiscovers
  case isFalse => exact .refl s

theorem signatureArrives_keepsServing (l : Lane) (c : Word) (f : PeerFrame) (s : State) :
    KeepsServing s (signatureArrives l c f s) := by
  unfold signatureArrives
  extract_lets heard partner voted
  have hheard : KeepsServing s heard := .of_frame (by simp [heard])
  refine .trans ?_ (discover_keepsServing ..)
  unfold voted
  split
  · exact (hheard.frame (by simp)).then_vote
  · exact hheard

theorem stateArrives_keepsServing (l : Lane) (x : LaneState) (w : Word) (s : State) :
    KeepsServing s (stateArrives l x w s) :=
  .trans (.then_vote (.of_frame (by simp))) (discover_keepsServing ..)

theorem noticeArrives_keepsServing (l : Lane) (w : Word) (s : State) : KeepsServing s (noticeArrives l w s) := by
  unfold noticeArrives
  split
  · exact .refl s
  · exact .then_vote (.of_frame (by simp))

/-- A serving begins in MEMBER with an empty queue (R140). -/
theorem acceptJoin_keepsServing (p : PortId) (l : Lane) (n : Nat) {s : State} (hm : s.lane.state = .member) :
    KeepsServing s (acceptJoin p l n s) := by
  rw [acceptJoin_eq]
  refine .then_vote ⟨fun _ => ?_⟩
  obtain ⟨-, hstate, -⟩ := joinAccepted_lane p l n s
  simp [ServingLaw, joinAccepted_copy, hstate, hm]

theorem joinArrives_keepsServing (p : PortId) (l : Lane) (n : Nat) (x : Pair) (s : State) :
    KeepsServing s (joinArrives p l n x s) := by
  have hmember (h : ∀ reason, judgeJoin l x s ≠ .refuse reason) : s.lane.state = .member := by
    by_contra hm
    exact h .notMember (by simp [judgeJoin, hm])
  unfold joinArrives
  split
  case h_1 => exact .of_frame (by simp)
  case h_2 hj =>
    exact (endServing_keepsServing ..).trans (acceptJoin_keepsServing _ _ _ (by simp [hmember, hj]))
  case h_3 hj => exact acceptJoin_keepsServing _ _ _ (hmember (by simp [hj]))

theorem refuseArrives_keepsServing (l : Lane) (x : RefuseSubject) (r : RefuseReason) (s : State) :
    KeepsServing s (refuseArrives l x r s) := by
  unfold refuseArrives
  split
  · split
    · exact askOther_keepsServing ..
    · exact .refl s
  · split
    · split
      · exact .of_frame (by simp)
      · exact .refl s
    · exact .refl s

theorem nakArrives_keepsServing (l : Lane) (n b : Nat) (s : State) : KeepsServing s (nakArrives l n b s) := by
  unfold nakArrives
  split
  case isTrue h =>
    obtain ⟨-, hb⟩ := h
    exact appendDirty_keepsServing hb
  case isFalse => exact .refl s

theorem admittedArrives_keepsServing (l : Lane) (n : Nat) (w : Word) (s : State) :
    KeepsServing s (admittedArrives l n w s) := by
  unfold admittedArrives
  split
  · exact ((endServing_keepsServing .admitted none none s).frame (by simp)).then_vote
  · exact .refl s

theorem mismatchArrives_keepsServing (l : Lane) (n k : Nat) (s : State) : KeepsServing s (mismatchArrives l n k s) := by
  unfold mismatchArrives
  split
  · exact (endServing_keepsServing ..).then_vote
  · exact .refl s

theorem abandonArrives_keepsServing (l : Lane) (n : Nat) (c : Cause) (s : State) :
    KeepsServing s (abandonArrives l n c s) := by
  unfold abandonArrives
  split
  · split
    · exact failAttempt_keepsServing ..
    · exact .refl s
  · split
    · exact leave_keepsServing ..
    · split
      · exact (endServing_keepsServing ..).then_vote
      · exact .refl s
  · exact .refl s

/-! Every step. -/

/-- A frame that arrives, and then what its consumer does. -/
theorem KeepsServing.of_arrival {p : PortId} {rest : List Frame} {l : Lane} {s u : State}
    (h : KeepsServing (arrive p rest l s) u) : KeepsServing s u := .trans (.of_frame (by simp)) h

theorem effect_keepsServing {c : Instr} {s u : State} (he : Effect c s u) (hs : StartLaw s) : KeepsServing s u := by
  have hisolated {x : Bool} (h : (decide (s.lane.state = .isolated) && x) = true) : s.lane.state ≠ .member := by
    have hstate := of_decide_eq_true (Bool.and_elim_left h)
    simp [hstate]
  cases he with
  | imageAccepted hr => exact .of_not_member (by simp [readsImage_starting hr]) (by simp)
  | imageRefused hr => exact .of_not_member (by simp [readsImage_starting hr]) (by simp)
  | burstEnd => exact endBurst_keepsServing _ hs
  | ownMark => exact takeMark_keepsServing s
  | voteWindowExpiry => exact castVote_keepsServing ..
  | cycleSupervisionExpiry => exact leave_keepsServing ..
  | formationWindowExpiry h =>
    have hstate := of_decide_eq_true (Bool.and_elim_left h)
    exact .of_not_member (by simp [hstate]) (by simp)
  | retryTimerExpiry h => exact .of_not_member (hisolated h) (by simp)
  | restoreEdge h => exact .of_not_member (hisolated h) (by simp)
  | supplyLowActive => exact .trans (.of_frame (by simp)) (failAttempt_keepsServing ..)
  | supplyLowRetry _ h => exact .of_not_member (hisolated h) (by simp)
  | progressTimerExpiry => exact .trans (.of_frame (by simp)) (progressExpires_keepsServing _)
  | holdTimerExpiry => exact .trans (.of_frame (by simp)) (holdExpires_keepsServing _)
  | admitOffer h => exact offerAdmit_keepsServing h
  | admitVerify => exact verifyAdmit_keepsServing ..
  | signatureDelivery => exact .of_arrival (signatureArrives_keepsServing ..)
  | stateDelivery => exact .of_arrival (stateArrives_keepsServing ..)
  | noticeDelivery => exact .of_arrival (noticeArrives_keepsServing ..)
  | joinDelivery => exact .of_arrival (joinArrives_keepsServing ..)
  | refuseDelivery => exact .of_arrival (refuseArrives_keepsServing ..)
  | nakDelivery => exact .of_arrival (nakArrives_keepsServing ..)
  | admittedDelivery => exact .of_arrival (admittedArrives_keepsServing ..)
  | mismatchDelivery => exact .of_arrival (mismatchArrives_keepsServing ..)
  | abandonDelivery => exact .of_arrival (abandonArrives_keepsServing ..)
  | _ => exact .of_frame (by simp)

/-- Right after a reset nobody is served (R153). -/
theorem exec_reset_servingLaw {c : Instr} {s t : State} (h : exec c s = .next t) (hc : isReset c = true) :
    ServingLaw t := by
  cases c with
  | powerReset | pinReset => cases h; exact servingLaw_of_idle rfl rfl rfl rfl
  | _ => cases hc

theorem exec_keepsServing {c : Instr} {s t : State} (hs : StartLaw s) (h : exec c s = .next t) : KeepsServing s t := by
  cases hc : isReset c with
  | true => exact ⟨fun _ => exec_reset_servingLaw h hc⟩
  | false =>
    obtain rfl | ⟨u, rfl, hu⟩ := exec_cases h hc
    · exact .refl _
    · exact (effect_keepsServing hu hs).trans (settle_keepsServing u)

/-- Settles O58: each effect and each grant keeps the law, and an idle step leaves what it reads. -/
theorem everyStepKeepsTheDirtyQueue : Obligations.EveryStepKeepsTheDirtyQueue := by
  intro s t hserving hstart h
  unfold step at h
  split at h
  case h_1 c rest _ =>
    have hpopped : KeepsServing s { s with pending := rest } := .of_frame ⟨rfl, rfl, rfl, rfl, rfl, rfl⟩
    exact (exec_keepsServing (s := { s with pending := rest }) hstart h).law (hpopped.law hserving)
  case h_2 =>
    cases h
    have hidle : KeepsServing s (idle s) := by
      unfold idle
      split <;> exact .of_frame ⟨rfl, rfl, rfl, rfl, rfl, rfl⟩
    exact hidle.law hserving

end Sys2Proof.Machine
end

section
/-! The peers asked for a block of a CONSTANT region (R151). -/

namespace Sys2Proof.Machine

/-! FETCH offered, and a repair given up. -/

@[simp] theorem getPort_withCopy (e : CopyEngine) (s : State) (p : PortId) : getPort (withCopy e s) p = getPort s p := by
  cases p <;> rfl

theorem offerTo_of_port {l : Lane} {p : PortId} {s : State} (h : portTo s l = some p) (f : Frame) :
    offerTo l f s = offerControl p f s := by simp [offerTo, h]

@[simp] theorem portTo_withCopy (e : CopyEngine) (s : State) (l : Lane) : portTo (withCopy e s) l = portTo s l := rfl

/-- The copy engine once a peer is asked for a block, its repair timer started. -/
def repairAsked (b : Nat) (l : Lane) (other : Bool) (s : State) : CopyEngine :=
  { s.copy with repair := some { block := b, asked := l, otherAsked := other, taken := false }
                repairTimer := some ((settings s).progressLimit * 1000) }

theorem askRepair_eq (b : Nat) (l : Lane) (other : Bool) (s : State) :
    askRepair b l other s = offerTo l (.fetch b) (withCopy (repairAsked b l other s) s) := rfl

theorem askRepair_copy (b : Nat) (l : Lane) (other : Bool) (s : State) :
    (askRepair b l other s).copy = repairAsked b l other s := by simp [askRepair_eq, withCopy]

/-- A port to the peer with room takes FETCH. -/
theorem getPort_askRepair {b : Nat} {l : Lane} {other : Bool} {s : State} {p : PortId} (hp : portTo s l = some p)
    (ha : LinkPort.active (getPort s p) = true) (hr : (getPort s p).control.length < 8)
    (ht : (getPort s p).transmitter ≠ .resting) : getPort (askRepair b l other s) p =
      { getPort s p with control := (getPort s p).control ++ [.fetch b] } := by
  rw [askRepair_eq, offerTo_of_port (by rwa [portTo_withCopy]), offerControl_of_room (by simpa using ha) (by simpa using hr)
    (by simpa using ht), getPort_setPort_self, getPort_withCopy]

theorem failRepair_copy (b : Nat) (last : Option Lane) (reason : RepairReason) (s : State) :
    (failRepair b last reason s).copy = { s.copy with
      repair := none, repairTimer := none, repairs := s.copy.repairs.filter (fun x => decide (x ≠ b)) } := by
  simp [failRepair, closeRepair]

/-! The other peer (R151). -/

theorem repairNext_of_peer {r : Repair} {s : State} {l : Lane} (reason : RepairReason) (h : r.otherAsked = false)
    (hl : (repairPeers s).find? (fun k => decide (k ≠ r.asked)) = some l) :
    repairNext r reason s = askRepair r.block l true s := by
  simp only [repairNext, h, hl, Bool.false_eq_true, if_false]

theorem repairNext_of_none {r : Repair} {s : State} (reason : RepairReason)
    (h : r.otherAsked = true ∨ (repairPeers s).find? (fun k => decide (k ≠ r.asked)) = none) :
    repairNext r reason s = failRepair r.block (some r.asked) reason s := by
  have hnone : (if r.otherAsked then none else (repairPeers s).find? (fun k => decide (k ≠ r.asked))) = none := by
    split
    · rfl
    · exact h.resolve_left ‹_›
  rw [repairNext, hnone]

/-! The two commands. -/

theorem exec_repairStart_of_cause {s : State} (h : (foundCause s).isSome = true) : exec .repairStart s = .next s := by
  have hcause : (foundCause s).isNone = false := by simpa using h
  simp [exec, execRepairStart, repairDue, hcause]

theorem exec_repairStart {s : State} {b : Nat} (hrun : running s = true) (hlock : s.map.lock = true)
    (hrepair : s.copy.repair = none) (hcause : foundCause s = none) (hb : s.copy.repairs.head? = some b) :
    exec .repairStart s = .next (settle (startRepair b s)) := by
  simp [exec, execRepairStart, repairDue, hrun, hlock, hrepair, hcause, hb, done]

theorem exec_repairTimerExpiry {s : State} {r : Repair} (ht : s.copy.repairTimer.isSome = true)
    (hr : s.copy.repair = some r) : exec .repairTimerExpiry s = .next (settle (repairNext r .silent s)) := by
  obtain ⟨n, hn⟩ := Option.isSome_iff_exists.1 ht
  simp [exec, execRepairTimerExpiry, hn, hr, done]

/-- Settles O40: the start of a repair by the peers fit to be asked, and the expiry by the peer left. -/
theorem repairAsksPeersInTurn : Obligations.RepairAsksPeersInTurn := by
  intro s b hrun
  refine ⟨exec_repairStart_of_cause, fun hlock hrepair hcause hb => ?start, fun r ht hr hblock => ?expiry⟩
  case start =>
    refine ⟨_, exec_repairStart hrun hlock hrepair hcause hb, State.ext (by simp), fun l rest hl => ?asked,
      fun hnone => ?given⟩
    case asked =>
      have hstart : startRepair b s = askRepair b l false s := by simp [startRepair, hl]
      rw [hstart]
      exact ⟨askRepair_copy .., fun p => getPort_askRepair⟩
    case given =>
      have hstart : startRepair b s = failRepair b none .noPeer s := by simp [startRepair, hnone]
      rw [hstart, failRepair_copy]
  case expiry =>
    subst hblock
    refine ⟨_, exec_repairTimerExpiry ht hr, State.ext (by simp), fun l hother hl => ?_, fun hnone => ?_⟩
    · rw [repairNext_of_peer .silent hother hl, askRepair_copy]
      rfl
    · rw [repairNext_of_none .silent hnone, failRepair_copy]

end Sys2Proof.Machine
end

section
/-! ACCEPT and REFUSE taken (R132, R138, R151). -/

namespace Sys2Proof.Machine

/-! The frame's arrival. -/

@[simp] theorem takenFrom_frame (p : PortId) (rest : List Frame) (s : State) :
    (takenFrom p rest s).lines = s.lines ∧ (takenFrom p rest s).map = s.map ∧ (takenFrom p rest s).port = s.port ∧
    (takenFrom p rest s).vote = s.vote ∧ (takenFrom p rest s).lane = s.lane ∧ (takenFrom p rest s).copy = s.copy := by
  simp [takenFrom]

theorem withCopy_takenFrom (e : CopyEngine) (p : PortId) (rest : List Frame) (s : State) :
    withCopy e (takenFrom p rest s) = setPort (withCopy e s) p { getPort s p with received := rest } := by
  cases p <;> rfl

/-- A joiner that copies nothing yet waits on no frame of its source (R136). -/
theorem arrive_of_not_copying {p : PortId} {rest : List Frame} {l : Lane} {s : State} (hc : s.copy.phase ≠ .copy)
    (hv : s.copy.phase ≠ .verify) : arrive p rest l s = takenFrom p rest s := by
  simp [arrive, sourceHeard, hc, hv, takenFrom]

theorem currentAttempt_takenFrom (phase : JoinPhase) (l : Lane) (n : Nat) (p : PortId) (rest : List Frame) (s : State) :
    currentAttempt phase l n (takenFrom p rest s) = currentAttempt phase l n s := by simp [currentAttempt]

theorem peers_takenFrom (p : PortId) (rest : List Frame) (s : State) : peers (takenFrom p rest s) = peers s :=
  peers_congr (by simp) (by simp)

theorem settings_takenFrom (p : PortId) (rest : List Frame) (s : State) : settings (takenFrom p rest s) = settings s :=
  settings_congr (by simp)

/-- The next expected block depends on the image alone. -/
theorem expectedFrom_congr {s t : State} (h : t.map.image = s.map.image) (low : Nat) :
    expectedFrom t low = expectedFrom s low := by simp only [expectedFrom, nextCopyable, h]

theorem expectedFrom_takenFrom (p : PortId) (rest : List Frame) (s : State) (low : Nat) :
    expectedFrom (takenFrom p rest s) low = expectedFrom s low := expectedFrom_congr (by simp) low

/-! The two frames, each taken in a lane that copies nothing yet. -/

section
variable {s : State} {p : PortId} {l : Lane} {n : Nat} {rest : List Frame} (hl : (getPort s p).peer = some l)
  (hc : s.copy.phase ≠ .copy) (hv : s.copy.phase ≠ .verify)
include hl hc hv

theorem exec_acceptDelivery (hq : (getPort s p).received = .accept n :: rest) :
    exec (.acceptDelivery p) s = .next (settle (acceptArrives l n (takenFrom p rest s))) := by
  simp [exec, execAcceptDelivery, hq, hl, done, arrive_of_not_copying hc hv]

theorem exec_refuseDelivery {subject : RefuseSubject} {reason : RefuseReason}
    (hq : (getPort s p).received = .refuse subject reason :: rest) :
    exec (.refuseDelivery p) s = .next (settle (refuseArrives l subject reason (takenFrom p rest s))) := by
  simp [exec, execRefuseDelivery, hq, hl, done, arrive_of_not_copying hc hv]

end

theorem acceptArrives_of_current {s : State} {l : Lane} {n : Nat} (h : currentAttempt .request l n s = true) :
    acceptArrives l n s = withCopy { s.copy with
      progress := some ((settings s).progressLimit * 1000), phase := .copy, expected := some (expectedFrom s 0) } s :=
  if_pos h

theorem acceptArrives_of_other {s : State} {l : Lane} {n : Nat} (h : currentAttempt .request l n s = false) :
    acceptArrives l n s = s := by simp [acceptArrives, h]

theorem refuseArrives_of_join {s : State} {l : Lane} {n : Nat} (h : currentAttempt .request l n s = true)
    (reason : RefuseReason) : refuseArrives l (.join n) reason s = askOther true s := by
  simp [refuseArrives, h]

/-- REFUSE from the peer that the repair in progress has asked, before its FETCHED has been taken. -/
theorem refuseArrives_of_fetch {s : State} {l : Lane} {r : Repair} (hr : s.copy.repair = some r) (hl : r.asked = l)
    (ht : r.taken = false) (reason : RefuseReason) :
    refuseArrives l (.fetch r.block) reason s = repairNext r (.refused reason) s := by
  simp [refuseArrives, hr, answersRepair, hl, ht]

/-- Settles O47: each frame by what it answers. -/
theorem acceptAndRefuseAnswerTheJoin : Obligations.AcceptAndRefuseAnswerTheJoin := by
  intro s p l n rest hl hc hv
  refine ⟨fun hq => ⟨fun hcur => ?accepted, fun hother => ?discarded⟩, fun reason hq hcur => ?refused,
    fun reason r hq hr hblock hasked htaken => ?given⟩
  case accepted =>
    rw [exec_acceptDelivery hl hc hv hq, acceptArrives_of_current (by rwa [currentAttempt_takenFrom]), withCopy_takenFrom]
    simp only [takenFrom_frame, settings_takenFrom, expectedFrom_takenFrom]
    rfl
  case discarded =>
    rw [exec_acceptDelivery hl hc hv hq, acceptArrives_of_other (by rwa [currentAttempt_takenFrom])]
    rfl
  case refused =>
    rw [exec_refuseDelivery hl hc hv hq, refuseArrives_of_join (by rwa [currentAttempt_takenFrom])]
    refine ⟨_, rfl, fun k h2 hk => ?other, fun h2 => ?noSource⟩
    case other =>
      rw [askOther_of_peer (l := k) (by simpa using h2) (by simpa [peers_takenFrom] using hk)]
      refine ⟨?_, by simp⟩
      rw [askPeer_copy, settings_congr (s := s) (by simp)]
      simp
    case noSource =>
      obtain ⟨hj, -⟩ := currentAttempt_iff.1 hcur
      obtain ⟨⟨hstate, -, hcause, -⟩, ⟨hphase, -⟩, -⟩ :=
        failAttempt_failed (c := .noSource) (b := true) (d := none) (s := takenFrom p rest s) (by simp [hj])
      rw [askOther_of_none (.inl (by simpa using h2))]
      exact ⟨hstate, hcause, hphase⟩
  case given =>
    subst hblock
    rw [exec_refuseDelivery hl hc hv hq, refuseArrives_of_fetch (by simpa using hr) hasked htaken]
    refine ⟨_, rfl, by simp, by simp, fun hother => ?_⟩
    rw [repairNext_of_none _ (.inl hother), failRepair_copy]
    simp

end Sys2Proof.Machine
end

section
/-! BLOCK and NAK taken (R92, R133, R135, R136, R144). -/

namespace Sys2Proof.Machine

/-! The blocks skipped and the NAKs for them (R135). -/

/-- The skipped blocks are the copyable ones from the expected block up to the one that came. -/
theorem skippedBlocks_eq {e b : Nat} (h : e ≤ b) (s : State) :
    skippedBlocks s e b = (List.range b).filter (fun x => decide (e ≤ x) && isCopyable s x) := by
  obtain ⟨k, rfl⟩ := Nat.exists_eq_add_of_le h
  have hbelow : (List.range e).filter (fun x => decide (e ≤ x) && isCopyable s x) = [] :=
    List.filter_eq_nil_iff.2 fun x hx => by simp [List.mem_range.1 hx]
  have habove : ((List.range k).map (fun j => e + j)).filter (fun x => decide (e ≤ x) && isCopyable s x) =
      ((List.range k).map (fun j => e + j)).filter (isCopyable s) :=
    List.filter_congr fun x hx => by
      obtain ⟨j, -, rfl⟩ := List.mem_map.1 hx
      simp
  rw [skippedBlocks, List.range_add, List.filter_append, hbelow, habove, Nat.add_sub_cancel_left, List.nil_append]

theorem skippedBlocks_self (b : Nat) (s : State) : skippedBlocks s b b = [] := by simp [skippedBlocks]

/-- A busy port with room takes every NAK, in order (R93). -/
theorem offerNaks_of_room {p : PortId} {n : Nat} {bs : List Nat} {s : State} (ha : LinkPort.active (getPort s p) = true)
    (hr : (getPort s p).control.length + bs.length ≤ 8) (ht : (getPort s p).transmitter ≠ .resting) : offerNaks p n bs s =
      setPort s p { getPort s p with control := (getPort s p).control ++ bs.map (fun x => .nak n x) } := by
  induction bs generalizing s with
  | nil =>
    rw [List.map_nil, List.append_nil]
    exact (setPort_getPort s p).symm
  | cons b bs ih =>
    rw [List.length_cons] at hr
    rw [offerNaks, offerControl_of_room ha (by omega) ht, ih (by simpa [LinkPort.active] using ha) (by simp; omega)
      (by simpa using ht), getPort_setPort_self, setPort_setPort, List.append_assoc]
    rfl

/-! The check against the next expected block (R135). -/

theorem checkExpected_of_expected {e b : Nat} {s : State} (he : s.copy.expected = some (.at e)) (h : e ≤ b) (p : PortId)
    (n : Nat) : checkExpected p n b s = withCopy { s.copy with expected := some (expectedFrom s (b + 1)) }
      (offerNaks p n (skippedBlocks s e b) s) := by
  have hexpected : expectedFrom (offerNaks p n (skippedBlocks s e b) s) (b + 1) = expectedFrom s (b + 1) :=
    expectedFrom_congr (by simp) _
  have hcopy : (offerNaks p n (skippedBlocks s e b) s).copy = s.copy := by simp
  simp only [checkExpected, he, if_neg (Nat.not_lt.2 h), hexpected, hcopy]
  rfl

/-- A block below the expected one, or past the end, is one sent again. -/
theorem checkExpected_of_repeated {b : Nat} {s : State}
    (h : s.copy.expected = some .pastEnd ∨ ∃ e, s.copy.expected = some (.at e) ∧ b < e) (p : PortId) (n : Nat) :
    checkExpected p n b s = s := by
  obtain he | ⟨e, he, hlt⟩ := h
  · simp only [checkExpected, he]
  · simp only [checkExpected, he, if_pos hlt]

/-! A BLOCK (R92, R133, R136). -/

/-- A joiner that a BLOCK of its attempt has reached: off its queue, the progress timer restarted. -/
def blockHeard (p : PortId) (rest : List Frame) (s : State) : State :=
  setPort (withCopy { s.copy with progress := some ((settings s).progressLimit * 1000) } s) p
    { getPort s p with received := rest }

/-- The copy engine replaced by one that holds a received block, its RECV request waiting (R133). -/
def recvWaiting (e : CopyEngine) (s : State) : State :=
  { s with copy := e, port := { s.port with recvAge := some (s.port.recvAge.getD 0) } }

theorem place_recv (e : CopyEngine) (s : State) : place .recv (withCopy e s) = recvWaiting e s := place_eq ..

section
variable {s : State} {p : PortId} {l : Lane} {n b : Nat} {words : List Word} {rest : List Frame}

theorem arrive_of_current (h : currentAttempt .copy l n s = true) : arrive p rest l s = blockHeard p rest s := by
  obtain ⟨hj, hphase, hasked, -⟩ := currentAttempt_iff.1 h
  rw [arrive_of_source hj (.inl hphase) hasked]
  exact withCopy_takenFrom ..

@[simp] theorem getPort_blockHeard : getPort (blockHeard p rest s) p = { getPort s p with received := rest } :=
  getPort_setPort_self ..

theorem blockHeard_frame : (blockHeard p rest s).map = s.map ∧ (blockHeard p rest s).lane = s.lane ∧
    (blockHeard p rest s).copy = { s.copy with progress := some ((settings s).progressLimit * 1000) } := by
  simp [blockHeard, withCopy]

/-- A BLOCK of the current attempt for a copyable block is checked, and becomes the received block. -/
theorem blockArrives_of_current (hc : currentAttempt .copy l n s = true) (hb : isCopyable s b = true) :
    blockArrives p l n b words (arrive p rest l s) =
      recvWaiting { (checkExpected p n b (blockHeard p rest s)).copy with received := some (.block b words) }
        (checkExpected p n b (blockHeard p rest s)) := by
  obtain ⟨hmap, hlane, hcopy⟩ := blockHeard_frame (p := p) (rest := rest) (s := s)
  have hheard : currentAttempt .copy l n (blockHeard p rest s) = true := by
    simpa [currentAttempt, hlane, hcopy] using hc
  have hcopyable : isCopyable (blockHeard p rest s) b = true :=
    (isCopyable_congr (by rw [hmap]) b).trans hb
  rw [arrive_of_current hc, blockArrives, hheard, hcopyable]
  exact place_recv ..

/-- The block expected, or one above it: the next block expected is past it, and the NAKs are all that the port takes more. -/
theorem blockArrives_of_expected {e : Nat} {naks : List Frame} (hc : currentAttempt .copy l n s = true)
    (hb : isCopyable s b = true) (he : s.copy.expected = some (.at e)) (hle : e ≤ b)
    (hnaks : offerNaks p n (skippedBlocks s e b) (blockHeard p rest s) = setPort (blockHeard p rest s) p
      { getPort s p with received := rest, control := (getPort s p).control ++ naks }) :
    blockArrives p l n b words (arrive p rest l s) = setPort (recvWaiting { s.copy with
      received := some (.block b words), progress := some ((settings s).progressLimit * 1000),
      expected := some (expectedFrom s (b + 1)) } s) p
        { getPort s p with received := rest, control := (getPort s p).control ++ naks } := by
  obtain ⟨hmap, -, hcopy⟩ := blockHeard_frame (p := p) (rest := rest) (s := s)
  have hskipped : skippedBlocks (blockHeard p rest s) e b = skippedBlocks s e b := by
    rw [skippedBlocks_eq hle, skippedBlocks_eq hle]
    simp only [isCopyable_congr (t := blockHeard p rest s) (s := s) (by rw [hmap])]
  have hexpected : expectedFrom (blockHeard p rest s) (b + 1) = expectedFrom s (b + 1) :=
    expectedFrom_congr (by rw [hmap]) _
  rw [blockArrives_of_current hc hb, checkExpected_of_expected (by rw [hcopy]; exact he) hle, hskipped, hnaks, hexpected, hcopy]
  cases p <;> rfl

/-- A block sent again: nothing else is expected. -/
theorem blockArrives_of_repeated (hc : currentAttempt .copy l n s = true) (hb : isCopyable s b = true)
    (he : s.copy.expected = some .pastEnd ∨ ∃ e, s.copy.expected = some (.at e) ∧ b < e) :
    blockArrives p l n b words (arrive p rest l s) = setPort (recvWaiting { s.copy with
      received := some (.block b words), progress := some ((settings s).progressLimit * 1000) } s) p
        { getPort s p with received := rest } := by
  obtain ⟨-, -, hcopy⟩ := blockHeard_frame (p := p) (rest := rest) (s := s)
  rw [blockArrives_of_current hc hb, checkExpected_of_repeated (by rw [hcopy]; exact he), hcopy]
  cases p <;> rfl

theorem blockArrives_of_not_joining (hj : s.lane.state ≠ .joining) :
    blockArrives p l n b words (arrive p rest l s) = takenFrom p rest s := by
  rw [arrive_of_not_joining hj]
  simp [blockArrives, currentAttempt, hj]

/-! The two commands. -/

theorem canTakeBlock_iff : canTakeBlock s = true ↔ s.copy.received = none ∧ failureFound s = false := by
  simp [canTakeBlock]

theorem not_canTakeBlock (h : s.copy.received ≠ none ∨ failureFound s = true) : canTakeBlock s = false :=
  Bool.eq_false_iff.2 fun ht => by
    obtain ⟨hreceived, hfailure⟩ := canTakeBlock_iff.1 ht
    simp [hreceived, hfailure] at h

theorem exec_blockDelivery_of_waiting (h : s.copy.received ≠ none ∨ failureFound s = true) :
    exec (.blockDelivery p) s = .next s := by
  simp [exec, execBlockDelivery, not_canTakeBlock h]

theorem exec_blockDelivery (hl : (getPort s p).peer = some l) (hq : (getPort s p).received = .block n b words :: rest)
    (hr : s.copy.received = none) (hf : failureFound s = false) :
    exec (.blockDelivery p) s = .next (settle (blockArrives p l n b words (arrive p rest l s))) := by
  simp [exec, execBlockDelivery, hl, hq, canTakeBlock_iff.2 ⟨hr, hf⟩, done]

theorem exec_nakDelivery (hl : (getPort s p).peer = some l) (hq : (getPort s p).received = .nak n b :: rest)
    (hj : s.lane.state ≠ .joining) : exec (.nakDelivery p) s = .next (settle (nakArrives l n b (takenFrom p rest s))) := by
  simp [exec, execNakDelivery, hl, hq, done, arrive_of_not_joining hj]

end

/-! A NAK (R144). -/

/-- A NAK of the serving makes a copyable block behind the cursor dirty, once. -/
theorem nakArrives_eq (l : Lane) (n b : Nat) (s : State) : nakArrives l n b s = withCopy { s.copy with
    dirty := if s.copy.serving = some (l, n) ∧ isCopyable s b = true ∧ behindCursor s b = true ∧ b ∉ s.copy.dirty then
      s.copy.dirty ++ [b] else s.copy.dirty } s := by
  unfold nakArrives
  by_cases h : s.copy.serving = some (l, n) ∧ isCopyable s b = true
  · obtain ⟨hs, hb⟩ := h
    by_cases hd : behindCursor s b = true ∧ b ∉ s.copy.dirty
    · simp [hs, hb, hd, appendDirty, withCopy]
    · have hkept : ¬ (s.copy.serving.isSome && behindCursor s b && !s.copy.dirty.contains b) = true := by
        simpa [hs] using hd
      rw [if_pos ⟨hs, hb⟩, appendDirty, if_neg hkept, if_neg fun ⟨_, _, hmarked⟩ => hd hmarked]
      rfl
  · rw [if_neg h, if_neg fun ⟨hs, hb, _⟩ => h ⟨hs, hb⟩]
    rfl

/-- Settles O48: a BLOCK by the next expected block, and a NAK by the serving it names. -/
theorem blocksAreTakenAndNaksQueued : Obligations.BlocksAreTakenAndNaksQueued := by
  intro s p l n b rest hl
  refine ⟨fun words _ hwait => exec_blockDelivery_of_waiting hwait, fun words hq hr hf =>
    ⟨fun hc hb he => ?expected, fun e skipped hc hb he hlt hskipped ha hroom ht => ?above, fun hc hb he => ?repeated,
      fun hj => ?discarded⟩, fun hq hj => ?nak⟩
  case expected =>
    rw [exec_blockDelivery hl hq hr hf, blockArrives_of_expected (naks := []) hc hb he le_rfl, List.append_nil]
    · rfl
    · rw [skippedBlocks_self, List.append_nil]
      simp [offerNaks, blockHeard]
  case above =>
    have hskip : skippedBlocks s e b = skipped := by rw [hskipped, skippedBlocks_eq hlt.le]
    rw [exec_blockDelivery hl hq hr hf, blockArrives_of_expected (naks := skipped.map (fun x => .nak n x)) hc hb he hlt.le]
    · rfl
    · rw [hskip, offerNaks_of_room (by simpa [LinkPort.active] using ha) (by simpa using hroom) (by simpa using ht),
        getPort_blockHeard]
  case repeated =>
    rw [exec_blockDelivery hl hq hr hf, blockArrives_of_repeated hc hb he]
    rfl
  case discarded =>
    rw [exec_blockDelivery hl hq hr hf, blockArrives_of_not_joining hj]
    rfl
  case nak =>
    have hcopyable : isCopyable (takenFrom p rest s) b = isCopyable s b := isCopyable_congr (by simp) b
    have hbehind : behindCursor (takenFrom p rest s) b = behindCursor s b := by simp [behindCursor]
    rw [exec_nakDelivery hl hq hj, nakArrives_eq, withCopy_takenFrom]
    simp only [takenFrom_frame, hcopyable, hbehind]
    rfl

end Sys2Proof.Machine
end

section
/-! FETCH and FETCHED taken (R149, R151, R152). -/

namespace Sys2Proof.Machine

/-! The answers kept, one for each port (R149). -/

theorem mem_keepAnswer_self (p : PortId) (b : Nat) (xs : List (PortId × Nat)) : (p, b) ∈ keepAnswer p b xs := by
  unfold keepAnswer
  split
  case isTrue h =>
    obtain ⟨x, hx, hxp⟩ := List.any_eq_true.1 h
    exact List.mem_map.2 ⟨x, hx, if_pos (of_decide_eq_true hxp)⟩
  case isFalse => simp

theorem eq_of_mem_keepAnswer {p : PortId} {b : Nat} {xs : List (PortId × Nat)} {x : PortId × Nat}
    (hx : x ∈ keepAnswer p b xs) (hp : x.1 = p) : x = (p, b) := by
  unfold keepAnswer at hx
  split at hx
  case isTrue =>
    obtain ⟨y, -, rfl⟩ := List.mem_map.1 hx
    by_cases hy : y.1 = p
    · exact if_pos hy
    · simp only [if_neg hy] at hp
      exact absurd hp hy
  case isFalse hnone =>
    rcases List.mem_append.1 hx with hx | hx
    · exact absurd (List.any_eq_true.2 ⟨x, hx, decide_eq_true hp⟩) hnone
    · exact List.mem_singleton.1 hx

theorem mem_keepAnswer_of_ne {p : PortId} {x : PortId × Nat} (hp : x.1 ≠ p) (b : Nat) (xs : List (PortId × Nat)) :
    x ∈ keepAnswer p b xs ↔ x ∈ xs := by
  have hother : x ≠ (p, b) := fun hx => hp (by rw [hx])
  unfold keepAnswer
  split
  case isTrue =>
    refine ⟨fun hx => ?_, fun hx => List.mem_map.2 ⟨x, hx, if_neg hp⟩⟩
    obtain ⟨y, hy, hyx⟩ := List.mem_map.1 hx
    split at hyx
    · exact absurd hyx.symm hother
    · exact hyx ▸ hy
  case isFalse => simp [hother]

/-! A FETCH (R149). -/

theorem answersFetches_iff {s : State} :
    answersFetches s = true ↔ s.lane.state = .member ∨ (s.lane.state = .forming ∧ s.map.lock = true) := by
  simp [answersFetches]

theorem fetchArrives_of_constant {s : State} {b : Nat} (h : answersFetches s = true) (hb : isConstantBlock s b = true)
    (p : PortId) : fetchArrives p b s = withCopy { s.copy with answers := keepAnswer p b s.copy.answers } s := by
  rw [fetchArrives, if_pos h, if_pos hb]
  rfl

/-- Why a FETCH is refused, if it is (R149). -/
theorem fetchArrives_of_refused {s : State} {b : Nat} {reason : RefuseReason}
    (h : answersFetches s = false ∧ reason = .notMember ∨
      answersFetches s = true ∧ isConstantBlock s b = false ∧ reason = .image) (p : PortId) :
    fetchArrives p b s = offerControl p (.refuse (.fetch b) reason) s := by
  obtain ⟨ha, rfl⟩ | ⟨ha, hb, rfl⟩ := h
  · simp [fetchArrives, ha]
  · simp [fetchArrives, ha, hb]

section
variable {s : State} {p : PortId} {l : Lane} {b : Nat} {words : List Word} {rest : List Frame}

theorem answersFetches_takenFrom : answersFetches (takenFrom p rest s) = answersFetches s := by simp [answersFetches]

theorem isConstantBlock_takenFrom : isConstantBlock (takenFrom p rest s) b = isConstantBlock s b :=
  isConstantBlock_congr (by simp) b

/-! A FETCHED (R151, R152). -/

/-- A FETCHED for the repair in progress, from the peer asked, becomes the received block. -/
theorem fetchedArrives_of_repair {r : Repair} (hr : s.copy.repair = some r) (hl : r.asked = l) (ht : r.taken = false) :
    fetchedArrives l r.block words s = recvWaiting { s.copy with
      repairTimer := none, repair := some { r with taken := true }, received := some (.fetched r.block words) } s := by
  have hanswers : answersRepair l r.block r = true := by simp [answersRepair, hl, ht]
  simp only [fetchedArrives, hr, hanswers, if_true]
  exact place_recv ..

theorem fetchedArrives_of_none (hr : s.copy.repair = none) : fetchedArrives l b words s = s := by
  simp [fetchedArrives, hr]

/-! The two commands. -/

theorem exec_fetchDelivery (hl : (getPort s p).peer = some l) (hj : s.lane.state ≠ .joining)
    (hq : (getPort s p).received = .fetch b :: rest) :
    exec (.fetchDelivery p) s = .next (settle (fetchArrives p b (takenFrom p rest s))) := by
  simp [exec, execFetchDelivery, hl, hq, done, arrive_of_not_joining hj]

theorem exec_fetchedDelivery_of_waiting (h : s.copy.received ≠ none ∨ failureFound s = true) :
    exec (.fetchedDelivery p) s = .next s := by
  simp [exec, execFetchedDelivery, not_canTakeBlock h]

theorem exec_fetchedDelivery (hl : (getPort s p).peer = some l) (hj : s.lane.state ≠ .joining)
    (hq : (getPort s p).received = .fetched b words :: rest) (hr : s.copy.received = none) (hf : failureFound s = false) :
    exec (.fetchedDelivery p) s = .next (settle (fetchedArrives l b words (takenFrom p rest s))) := by
  simp [exec, execFetchedDelivery, hl, hq, canTakeBlock_iff.2 ⟨hr, hf⟩, done, arrive_of_not_joining hj]

end

/-- Settles O51: a FETCH by the lane state and the block's class, and a FETCHED by the repair in progress. -/
theorem fetchIsKeptAndFetchedTaken : Obligations.FetchIsKeptAndFetchedTaken := by
  intro s p l b rest hl hj
  refine ⟨fun hq => ⟨fun hanswers loc hloc hcls => ?kept, fun reason hreason ha hroom ht => ?refused⟩,
    fun words _ hwait => exec_fetchedDelivery_of_waiting hwait,
    fun words hq hr hf => ⟨fun r hrepair hblock hasked htaken => ?fetched, fun hnone => ?discarded⟩⟩
  case kept =>
    have hconstant : isConstantBlock s b = true := isConstantBlock_of_locate hloc hcls
    refine ⟨_, exec_fetchDelivery hl hj hq, ?_⟩
    rw [fetchArrives_of_constant (by rw [answersFetches_takenFrom]; exact answersFetches_iff.2 hanswers)
      (by rwa [isConstantBlock_takenFrom])]
    simp only [takenFrom_frame]
    exact ⟨withCopy_takenFrom .., mem_keepAnswer_self .., fun x hx => eq_of_mem_keepAnswer hx,
      fun x hx => mem_keepAnswer_of_ne hx ..⟩
  case refused =>
    have hwhy : answersFetches (takenFrom p rest s) = false ∧ reason = .notMember ∨
        answersFetches (takenFrom p rest s) = true ∧ isConstantBlock (takenFrom p rest s) b = false ∧ reason = .image := by
      rw [answersFetches_takenFrom, isConstantBlock_takenFrom]
      obtain ⟨hm, hf, hreason⟩ | ⟨hm, hb, hreason⟩ := hreason
      · exact .inl ⟨Bool.eq_false_iff.2 fun h => (answersFetches_iff.1 h).elim hm hf, hreason⟩
      · exact .inr ⟨answersFetches_iff.2 (.inl hm), hb, hreason⟩
    rw [exec_fetchDelivery hl hj hq, fetchArrives_of_refused hwhy, offerControl_takenFrom ha hroom ht]
  case fetched =>
    subst hblock
    rw [exec_fetchedDelivery hl hj hq hr hf, fetchedArrives_of_repair (by simpa using hrepair) hasked htaken]
    cases p <;> rfl
  case discarded =>
    rw [exec_fetchedDelivery hl hj hq hr hf, fetchedArrives_of_none (by simpa using hnone)]
    rfl

end Sys2Proof.Machine
end

section
/-! A report offered to the writer (R162, R163, R165, R167). -/

namespace Sys2Proof.Machine

section
variable {s : State} {n : Nat}

theorem offer_of_exhausted (r : Report) (h : s.log.next = none) : offer r s = s := by
  unfold offer; split
  · rw [h]
  · rfl

/-- A numbered report with a region to go to and room in the queue is queued, and the LOG request placed. -/
theorem offer_of_room (r : Report) (hrun : s.log.running = true) (hn : s.log.next = some n)
    (hroom : (logRegion s).isSome = true ∧ s.log.queue.length < 8) : offer r s =
      placeLog { s with log := { s.log with next := sequenceAfter n, queue := s.log.queue ++ [(n, r)] } } := by
  have hdepth : s.log.queue.length < Config.reportDepth := hroom.2
  simp [offer, hrun, hn, hroom.1, hdepth]

/-- A numbered report without a region to go to, or without room in the queue, is dropped. -/
theorem offer_of_no_room (r : Report) (hrun : s.log.running = true) (hn : s.log.next = some n)
    (hroom : ¬ ((logRegion s).isSome = true ∧ s.log.queue.length < 8)) :
    offer r s = { s with log := { s.log with next := sequenceAfter n } } := by
  have hfull : ¬ ((logRegion s).isSome && decide (s.log.queue.length < Config.reportDepth)) = true := by
    rw [Bool.and_eq_true, decide_eq_true_eq]
    exact hroom
  simp only [offer, hrun, hn, if_true, if_neg hfull]

theorem placeLog_waits_of_free (hfree : holdsPort s.port (.background .log) = false) (hq : s.log.queue ≠ []) :
    waits (placeLog s).port .log = true := by
  simp [placeLog, hfree, hq]

/-- A report places no request but the writer's. -/
theorem offer_ageOf_of_ne (r : Report) (s : State) {c : Background} (hc : c ≠ .log) :
    ageOf (offer r s).port c = ageOf s.port c := by
  have hplaced (t : State) : ageOf (placeLog t).port c = ageOf t.port c := by
    obtain ⟨-, -, -, -, hages⟩ := placeLog_port t
    exact hages c hc
  unfold offer
  (repeat' split) <;> simp [hplaced]

end

/-- Settles O30: by whether the writer runs, its number, and the room in the queue. -/
theorem reportsAreNumberedAndQueued : Obligations.ReportsAreNumberedAndQueued := by
  intro s r n
  refine ⟨offer_of_stopped r, fun _ => offer_of_exhausted r, fun hrun hn =>
    ⟨State.ext (by simp), ?log, fun hregion hlen hfree => ?waits, fun c hc => offer_ageOf_of_ne r s hc⟩⟩
  case log =>
    by_cases hroom : (logRegion s).isSome = true ∧ s.log.queue.length < 8
    · rw [offer_of_room r hrun hn hroom, placeLog_log, if_pos hroom]
      rfl
    · rw [offer_of_no_room r hrun hn hroom, if_neg hroom]
      rfl
  case waits =>
    rw [offer_of_room r hrun hn ⟨hregion, hlen⟩]
    exact placeLog_waits_of_free hfree (List.append_ne_nil_of_right_ne_nil _ (List.cons_ne_nil _ _))

end Sys2Proof.Machine
end

section
/-! The ticks of an ALERT pulse (R166). -/

namespace Sys2Proof.Machine

section
variable {s : State}

/-- The low tick over with more than one pulse owed: the next pulse begins. -/
theorem exec_alertPulseEnd_of_more (hl : s.log.phase = .low) (ho : 1 < s.log.owed) :
    exec .alertPulseEnd s = .next (settle { s with
      lines := { s.lines with alert := true }
      log := { s.log with owed := s.log.owed - 1, phase := .high, pulseTick := some 1 } }) :=
  (if_pos hl).trans (if_pos ho)

/-- The low tick of the last pulse owed over: ALERT rests. -/
theorem exec_alertPulseEnd_of_last (hl : s.log.phase = .low) (ho : ¬ 1 < s.log.owed) :
    exec .alertPulseEnd s = .next (settle { s with
      log := { s.log with owed := s.log.owed - 1, phase := .idle, pulseTick := none } }) :=
  (if_pos hl).trans (if_neg ho)

end

/-- Settles O29: by the phase of the pulse, and at its end by the pulses still owed. -/
theorem alertPulsesOncePerRecord : Obligations.AlertPulsesOncePerRecord := by
  intro s
  refine ⟨fun hh => if_pos hh, fun hh => if_neg hh, fun hl => ?pulseEnd, fun hl => if_neg hl⟩
  by_cases ho : 1 < s.log.owed
  · have hleft : s.log.owed - 1 ≠ 0 := by omega
    exact ⟨_, exec_alertPulseEnd_of_more hl ho, rfl, fun h => absurd h hleft, fun _ => ⟨rfl, rfl, rfl⟩⟩
  · have hleft : s.log.owed - 1 = 0 := by omega
    exact ⟨_, exec_alertPulseEnd_of_last hl ho, rfl, fun _ => ⟨rfl, rfl, rfl⟩, fun h => absurd hleft h⟩

end Sys2Proof.Machine
end

section
/-! The LOG burst (R164, R165, R166, R170). -/

namespace Sys2Proof.Machine

/-! Words written one after another. -/

theorem writeWords_port (a : Nat) (ws : List Word) (s : State) :
    (writeWords a ws s).port = { s.port with burst := (writeWords a ws s).port.burst } := by
  induction ws generalizing a s with
  | nil => rfl
  | cons w ws ih => simp only [writeWords]; rw [ih, writeWord_port]

theorem writeWords_checker (a : Nat) (ws : List Word) (s : State) :
    (writeWords a ws s).checker = { s.checker with substs := (writeWords a ws s).checker.substs } := by
  induction ws generalizing a s with
  | nil => rfl
  | cons w ws ih => simp only [writeWords]; rw [ih, writeWord_checker]

theorem writeWords_burstGoesOn (a : Nat) (ws : List Word) (s : State) : BurstGoesOn s (writeWords a ws s) := by
  induction ws generalizing a s with
  | nil => exact .of_eq rfl
  | cons w ws ih => exact (writeWord_burstGoesOn a w s).trans (ih ..)

theorem writeWords_others {a b : Nat} {ws : List Word} {s : State} (h : b < a ∨ a + ws.length ≤ b) :
    readWord (writeWords a ws s) b = readWord s b := by
  induction ws generalizing a s with
  | nil => rfl
  | cons w ws ih =>
    rw [List.length_cons] at h
    exact (ih (by omega)).trans (readWord_writeWord_of_ne w (by omega))

theorem writeWords_reads {a j : Nat} {ws : List Word} {v : Word} {s : State} (h : sramCanonical s.sram = true)
    (hv : ws[j]? = some v) : readWord (writeWords a ws s) (a + j) = .clean v := by
  induction ws generalizing a j s with
  | nil => simp at hv
  | cons w ws ih =>
    cases j with
    | zero =>
      obtain rfl : w = v := by simpa using hv
      exact (writeWords_others (a := a + 1) (by omega)).trans (readWord_writeWord_self a w h)
    | succ j =>
      rw [← Nat.add_assoc, Nat.add_right_comm]
      exact ih (writeWord_canonical a w h) (by simpa using hv)

/-- Words written touch the SRAM, the spare store and what the burst remembers alone. -/
theorem writeWords_eq (a : Nat) (ws : List Word) {s : State} {b : Burst} (hb : s.port.burst = some b) :
    ∃ substs cells w, writeWords a ws s =
      { s with checker := { s.checker with substs := substs }
               sram := cells
               port := { s.port with burst := some { b with overwritten := b.overwritten ++ w } } } := by
  obtain ⟨w, hw⟩ := (writeWords_burstGoesOn a ws s).of_some hb
  have hport := writeWords_port a ws s
  rw [hw] at hport
  refine ⟨(writeWords a ws s).checker.substs, (writeWords a ws s).sram, w, State.ext ?_⟩
  rw [hport, writeWords_checker]
  simp

/-! The record (R164, R170). -/

/-- The second word of a record: its kind, the lane state and the region or slot named (R170). -/
def recordHead (r : Report) : Word :=
  BitVec.ofNat 32 (RecordKind.code r.kind + LaneState.code r.state * 2 ^ 8 + r.names.getD 255 * 2 ^ 16)

/-- The words of a record, its check the sum of the others plus one (R164). -/
theorem recordWords_eq (n : Nat) (r : Report) : recordWords n r =
    [BitVec.ofNat 32 n, recordHead r, r.cycle, r.place, r.detail1, r.detail2, r.pass,
      BitVec.ofNat 32 n + recordHead r + r.cycle + r.place + r.detail1 + r.detail2 + r.pass + 1] := by
  simp [recordWords, packFields_bytes, recordHead, placeWord, recordCheck]

/-! A pulse owed (R166). -/

/-- A pulse owed is counted up to 255, and begins at once unless one is in progress. -/
theorem owePulse_eq (s : State) : ∃ alert phase tick, owePulse s =
      { s with lines := { s.lines with alert := alert }
               log := { s.log with owed := raise255 s.log.owed, phase := phase, pulseTick := tick } } ∧
    (s.log.phase = .idle → alert = true ∧ phase = .high) ∧
    (s.log.phase ≠ .idle → alert = s.lines.alert ∧ phase = s.log.phase ∧ tick = s.log.pulseTick) := by
  by_cases h : s.log.phase = .idle
  · exact ⟨_, _, _, if_pos h, fun _ => ⟨rfl, rfl⟩, fun hn => absurd h hn⟩
  · exact ⟨_, _, _, if_neg h, fun hi => absurd hi h, fun _ => ⟨rfl, rfl, rfl⟩⟩

/-! The burst. -/

/-- The state in which a LOG burst begins: the head report off the queue (R165). -/
def logBegun (rest : List (Nat × Report)) (s : State) : State :=
  { beginBurst (.background .log) s with log := { s.log with queue := rest } }

/-- The write position stepped round the ring (R165). -/
def positionStepped (region : Region) (s : State) : State :=
  { s with log := { s.log with position := if s.log.position + 1 < 8 * region.count then s.log.position + 1 else 0 } }

theorem grantLog_of_report {s : State} {n : Nat} {r : Report} {rest : List (Nat × Report)} {region : Region}
    (hq : s.log.queue = (n, r) :: rest) (hr : logRegion s = some region) :
    grantLog s = owePulse (positionStepped region
      (writeWords (64 * region.first + 8 * s.log.position) (recordWords n r) (logBegun rest s))) := by
  have hregion : logRegion (beginBurst (.background .log) s) = some region := hr
  simp only [grantLog, beginBurst_frame, hq, hregion, positionStepped, logBegun]

/-- Settles O20: the record written word after word, then the position stepped and a pulse owed. -/
theorem logBurstWritesTheRecord : Obligations.LogBurstWritesTheRecord := by
  intro s n r rest region hq hr hs
  have hgrant := grantLog_of_report hq hr
  have hreads {j : Nat} {v : Word} (hv : (recordWords n r)[j]? = some v) :=
    writeWords_reads (a := 64 * region.first + 8 * s.log.position) (s := logBegun rest s) hs hv
  have hlen : (recordWords n r).length = 8 := by rw [recordWords_eq]; rfl
  have hothers {b : Nat} (hb : ¬ b / 8 = 8 * region.first + s.log.position) :=
    writeWords_others (a := 64 * region.first + 8 * s.log.position) (b := b) (ws := recordWords n r)
      (s := logBegun rest s) (by omega)
  obtain ⟨substs, cells, w, hwritten⟩ :=
    writeWords_eq (64 * region.first + 8 * s.log.position) (recordWords n r) (s := logBegun rest s) rfl
  generalize writeWords (64 * region.first + 8 * s.log.position) (recordWords n r) (logBegun rest s) = u at *
  subst hwritten
  rw [recordWords_eq] at hreads
  obtain ⟨alert, phase, tick, hpulse, hidle, hpulsing⟩ := owePulse_eq (positionStepped region _)
  exact ⟨_, w, recordHead r, alert, hgrant.trans hpulse, rfl, rfl, fun j v hv => hreads hv, fun b hb => hothers hb,
    rfl, rfl, rfl, rfl, rfl, hidle, hpulsing⟩

end Sys2Proof.Machine
end
